-- ==== Sys2Proof/Word.lean ====
section
/-! DEFINITION. The word types of the model (R3, R4, R8, R10) and their plainest arithmetic. -/

namespace Sys2Proof

/-- One byte. -/
abbrev Byte := BitVec 8
/-- A run of bytes, byte 0 first (R7). -/
abbrev Bytes := List Byte
/-- T64: nanoseconds since the PTP epoch, an unsigned 64-bit count (R8). -/
abbrev T64 := BitVec 64
/-- T32: the low 32 bits of T64 (R8). -/
abbrev T32 := BitVec 32
/-- Any value of a register or dictionary member of at most 64 bits. -/
abbrev Word := BitVec 64

/-- Channels 0 to 7 (R10). -/
abbrev Chan := Fin 8
/-- Owner slots 0 to 15 (R10). -/
abbrev Slot := Fin 16
/-- RLink ports 0 to 3 (R10). -/
abbrev Port := Fin 4

/-- The low 32 bits of a T64 (R8). -/
def T64.low (t : T64) : T32 := t.setWidth 32

/-- A Nat as a 64-bit value. -/
def w (n : Nat) : Word := BitVec.ofNat 64 n

/-- An integer as a 64-bit value, two's complement. -/
def wInt (i : Int) : Word := BitVec.ofInt 64 i

end Sys2Proof
end

