-- ==== Sys2Proof/Syntax.lean ====
section
/-! DEFINITION. The commands of the block: one constructor of Instr per row of spec/opcode_table.json,
with the operands that the row's text gives it.  What comes from outside the module and cannot be
computed from its state (a measurement, a frame, what an opaque plan program does) is an operand. -/

namespace Sys2Proof

/-- The role a TLX session acts with (R327). -/
inductive Role where
  | reader | writer | privileged
deriving DecidableEq, Repr

/-- The access path a dictionary write takes (R355): the mailbox of a channel, or TLX with a role. -/
inductive Path where
  /-- The BAR0 mailbox of channel c (R292): the rights of PRIVILEGED. -/
  | mailbox (c : Chan)
  /-- A TLX session with the role given (R327). -/
  | tlx (role : Role)
deriving DecidableEq, Repr

/-- Which of the two register views an access goes through (R278). -/
inductive View where
  /-- BAR0: the privileged view, here the slot copy of an owner's registers (R280). -/
  | bar0
  /-- BAR2: the owner window (R282). -/
  | window
deriving DecidableEq, Repr

/-- The two paths of a Stocktake command (R188, R189): STOCKTAKE_CTRL in BAR0, or the dictionary. -/
inductive StPath where
  | ctrl
  | dict (p : Path)
deriving DecidableEq, Repr

/-- The four host rings of an owner (R285, R287, R153, R233). -/
inductive RingKind where
  | job | result | trace | decant
deriving DecidableEq, Repr

/-- Where a TLX PDU comes from (R327, R453). -/
inductive TlxSrc where
  /-- The field network, from the partner MAC address given. -/
  | network (mac : BitVec 48)
  /-- The control pipe of the USB service port. -/
  | usbControl
  /-- The bulk pipe of the USB service port. -/
  | usbBulk
deriving DecidableEq, Repr

/-- An Announce message: the fields the best master clock algorithm and R57, R368 use. -/
structure Announce where
  domain : Nat
  /-- grandmasterIdentity. -/
  gm : BitVec 64
  priority1 : Nat
  clockClass : Nat
  clockAccuracy : Nat
  variance : Nat
  priority2 : Nat
  stepsRemoved : Nat
  /-- sourcePortIdentity, clock part, of the sender. -/
  sender : BitVec 64
  utcOffset : Int
  utcValid : Bool
  leap61 : Bool
  leap59 : Bool
deriving DecidableEq, Repr

/-- A PTP event or follow-up message as R58 reads it. -/
structure PtpMsg where
  domain : Nat
  /-- sourcePortIdentity, clock part, of the sender. -/
  sender : BitVec 64
  seqId : BitVec 16
  /-- logMessageInterval of the header. -/
  logInterval : Int
  /-- twoStepFlag. -/
  twoStep : Bool
  /-- originTimestamp, preciseOriginTimestamp or receiveTimestamp, in ns. -/
  stamp : T64
  /-- correctionField, in ns. -/
  correction : Int
  /-- requestingPortIdentity of a Delay_Resp, or the requester of a Delay_Req. -/
  requester : BitVec 64
deriving DecidableEq, Repr

/-- One lane's training block (R83). -/
structure TrainingBlock where
  marker : BitVec 32
  kind : Byte
  lane : Byte
  port : Byte
  version : Byte
  sender : BitVec 32
  credits : BitVec 16
  crc : BitVec 32
deriving DecidableEq, Repr

/-- A flit after training (R82). Its payload is the 240 bytes 12 to 251. -/
structure Flit where
  type : Byte
  stream : Byte
  seq : BitVec 16
  ack : BitVec 16
  credit : BitVec 16
  length : BitVec 16
  flags : Byte
  payload : Bytes
  crc : BitVec 32
deriving DecidableEq, Repr

/-- The number formats of the data path (R75, R77, R87). -/
inductive Fmt where
  | int8 | int16 | e4m3 | e5m2 | bf16 | fp32
deriving DecidableEq, Repr

/-- The special functions of a Stillroom (R112, R117). -/
inductive Recipe where
  | exp | log2 | ln | recip | rsqrt
  | sigmoid | tanh | silu | gelu
  | softmax | rowNorm
  | fused (act : Nat)
deriving DecidableEq, Repr

/-- One simple-path row (R77): the steps the plan selects, applied to a Loom's sums. -/
structure SimpleRow where
  /-- Per-column bias, INT32 for integer sums, else FP32 patterns. -/
  bias : Option (List (BitVec 32))
  scale : Option (List (BitVec 32))
  clamp : Option (BitVec 32 × BitVec 32)
  /-- Leaky slope of the ReLU; +0 for a plain ReLU. -/
  relu : Option (BitVec 32)
  out : Fmt
deriving DecidableEq, Repr

/-- What stands at either end of a Hatch (R80).  The result writer as a consumer is the model's choice: the manual names none for
result data (log entry 117). -/
inductive HatchUnit where
  | loom (n : Fin 2)
  | still (n : Fin 2)
  | port (p : Port)
  | ingest
  | result
deriving DecidableEq, Repr

/-- A Hatch as the plan assigns it (R80). -/
structure HatchUse where
  hatch : Fin 16
  producer : HatchUnit
  consumer : HatchUnit
deriving DecidableEq, Repr

/-- A constant of a Stillroom (R118): none, entry i of its register file, or one BF16 per element from a byte offset of the plan's
Larder area. -/
inductive Const where
  | none
  | scalar (i : Nat)
  | element (off : Nat)
deriving DecidableEq, Repr

/-- A recipe as the plan applies it to the rows of one tensor (R110, R111, R117, R118, R127). -/
structure RowUse where
  room : Fin 2
  /-- Recipe code, and the activation code of recipe 0x30. -/
  code : Nat
  act : Nat
  /-- The Hatch that the input comes from; none: the simple path of the Loom with the room's number. -/
  src : Option (Fin 16)
  /-- Elements of a row. -/
  length : Nat
  /-- Recipes chained on one element without a Hatch between. -/
  chained : Nat
  fmt : Fmt
  out : Fmt
  inScale : Const
  /-- γ or s; β or b; ε. -/
  gamma : Const
  beta : Const
  eps : Const
  /-- Hatch that takes the output, and the plan tensor that it is. -/
  dst : Fin 16
  tensor : BitVec 16
deriving DecidableEq, Repr

/-- Where activations come from: a Hatch, or a Cellar tensor at a byte offset from the image's start (R79, R91). -/
inductive ActSrc where
  | hatch (h : Fin 16)
  | cellar (off : Nat)
deriving DecidableEq, Repr

/-- Where weights come from: a byte offset of the plan's Larder area, or spilled in the Cellar at a byte offset from the image's
start (R78, R79). -/
inductive WeightSrc where
  | larder (off : Nat)
  | cellar (off : Nat)
deriving DecidableEq, Repr

/-- Where a simple-path row goes: a Hatch, as part of the plan tensor given, or the Loom's own Stillroom, for the row use given
(R10, R77, R110). -/
inductive SimpleDst where
  | hatch (h : Fin 16) (tensor : BitVec 16)
  | room (use : Nat)
deriving DecidableEq, Repr

/-- What one tile of the opaque plan program has the units of the manual do; the data comes from the State. -/
inductive TileOp where
  /-- A Loom takes an activation vector of n elements, at most 128 (R75). -/
  | vector (loom : Fin 2) (src : ActSrc) (fmt : Fmt) (n : Nat)
  /-- The vector against one column of weights: the next column's sum, or added onto a column summed before (R75). -/
  | mac (loom : Fin 2) (wfmt : Fmt) (signedAct : Bool) (src : WeightSrc) (onto : Option (Fin 512))
  /-- The Loom's sums leave through its simple path (R77, R110). -/
  | simple (loom : Fin 2) (r : SimpleRow) (dst : SimpleDst)
  /-- The Stillroom of a row use takes its next n elements from its Hatch (R110). -/
  | still (use n : Nat)
  /-- A Loom or Stillroom read of the 64-byte Larder line given (R259). -/
  | larder (line : Nat)
  /-- A tensor frame of `count` elements from Hatch h is handed to an RLink port (R87). -/
  | send (p : Port) (stream : Fin 16) (h : Fin 16) (fmt : Byte) (tensor : BitVec 16) (count : BitVec 32)
  /-- n payload bytes go from Hatch h to the result writer (R90). -/
  | result (h : Fin 16) (n : Nat)
deriving DecidableEq, Repr

/-- A tensor of a plan as its opaque tensor table lists it (R230). -/
structure TensorInfo where
  id : BitVec 16
  /-- Step index that produces it. -/
  step : BitVec 32
  /-- Loom 0 or 1 whose simple path or Stillroom produces it. -/
  loom : Fin 2
  /-- Element format code (R87). -/
  fmt : Byte
  /-- Length in bytes. -/
  length : Nat
deriving DecidableEq, Repr

/-- What the opaque sections of a plan image fix (R91): supplied with the end of the load. -/
structure ProgramFacts where
  /-- Weight and activation formats that the program pairs in a Loom (R75). -/
  pairs : List (Fmt × Fmt)
  /-- Recipes that it applies (R117). -/
  rows : List RowUse
  /-- Entries of the constants section that belong to Stillroom 0; the rest belong to Stillroom 1 (log entry 118). -/
  consts0 : Nat
  /-- The Hatches it assigns (R80). -/
  hatches : List HatchUse
  /-- Arithmetic right shift of INT16 ingest samples (R88). -/
  shift : Nat
  /-- Scheduled cycles c_k of the tiles, in order; the last one's is C whatever stands here (R97). -/
  tiles : List Nat
  tensors : List TensorInfo
deriving DecidableEq, Repr

/-- The end of a descriptor fetch (R92, R109). -/
inductive Fetched where
  | good (desc : Bytes)
  /-- UR, CA, poisoned data or a timeout (R308). -/
  | failed
deriving DecidableEq, Repr

/-- Causes of a function reset (R299). -/
inductive ResetCause where
  | flr | hotReset | secondaryBus | d3hotReturn
deriving DecidableEq, Repr

/-- A register or dictionary write without a row of its own (R277). -/
inductive RegTarget where
  /-- BAR0 of channel c: offset, access size in bytes, value. -/
  | bar0 (c : Chan) (off size : Nat) (v : Word)
  /-- BAR2, window s of channel c. -/
  | window (c : Chan) (s : Slot) (off size : Nat) (v : Word)
  /-- A dictionary member, with the value's bytes least significant first. -/
  | dict (p : Path) (idx sub : Nat) (data : Bytes)
deriving DecidableEq, Repr

/-- What the PHY saw at and after the computed start of an opportunity (R314, R315). -/
structure OppFacts where
  /-- Carrier is already present at the computed start. -/
  carrierAtStart : Bool
  /-- Bit times until the carrier or the transmissions of this opportunity end; none: silent. -/
  usedBits : Option Nat
  /-- A receive error occurred in it. -/
  rxError : Bool
  /-- A collision hit the module's own frame (R348). -/
  collision : Bool
deriving DecidableEq, Repr

/-- What a received beacon closes (R317). -/
structure BeaconFacts where
  /-- Node count the coordinator's cycles imply. -/
  nodeCount : Nat
  /-- Beacon start less the previous beacon's end, less carrier time, in local TCLK ns. -/
  silentLocal : Nat
deriving DecidableEq, Repr

/-- A PTP or other field-network frame as it reaches the MAC: bytes from the destination on. -/
abbrev Frame := Bytes

/-- The commands: one constructor per row of spec/opcode_table.json, in the table's order. -/
inductive Instr where
  | ref10mEnableWrite (p : Path) (v : Byte)
  | ref10mQualified
  | ref10mLost
  | incrementWrite (p : Path) (v : Word)
  | correctionSlot
  | loadStrobe
  | timeStepWrite (p : Path) (v : Word)
  | ppsLoadWrite (p : Path) (v : BitVec 80)
  | ppsLoadTimeout
  | ppsCapture
  | trigTargetWrite (p : Path) (c : Chan) (n : Fin 4) (v : T32)
  | armingComplete (c : Chan) (k : Fin 5)
  | comparatorFire (c : Chan) (k : Fin 5)
  | trigModeWrite (p : Path) (c : Chan) (n : Fin 4) (v : Byte)
  | trigPeriodWidthWrite (p : Path) (c : Chan) (n : Fin 4) (width : Bool) (v : T32)
  | trigPulseEnd (c : Chan) (n : Fin 4)
  | cycleEnableWrite (p : Path) (c : Chan) (v : Byte)
  | cycleFirstTickWrite (p : Path) (c : Chan) (v : T32)
  | correctionModeCommit (p : Path) (source : Bool) (v : Byte)
  | announceReceived (a : Announce)
  | masterLost
  | ppsMissing
  | ptpEnableWrite (p : Path) (v : Byte)
  | reacquire (p : Path) (v : Byte)
  | syncReceived (m : PtpMsg)
  | followUpReceived (m : PtpMsg)
  | delayRespReceived (m : PtpMsg)
  | delayReqReceived (m : PtpMsg)
  | delayReqSend
  | ptpSyncSend
  | announceSend
  | syncBurstEnd
  | tsqDrain
  | timeLaunch (c : Chan)
  | leapSecond
  | calendarSet (p : Path) (v : BitVec 80)
  | calendarSync
  | portModeWrite (p : Path) (c : Chan) (port : Port) (v : Byte)
  | linkTrainStart (c : Chan) (port : Port)
  | trainingBlockReceived (c : Chan) (port : Port) (lanes : List TrainingBlock) (skewNs : Nat)
  | flitReceived (c : Chan) (port : Port) (f : Flit)
  | dataFlitSend (c : Chan) (port : Port)
  | replayTimeout (c : Chan) (port : Port)
  | signalLoss (c : Chan) (port : Port)
  | planLoad (p : Path) (c : Chan)
  | planLoadComplete (c : Chan) (facts : ProgramFacts)
  | planUnload (p : Path) (c : Chan)
  | jobRingDoorbell (view : View) (c : Chan) (s : Slot) (v : BitVec 32)
  | descriptorFetch (c : Chan)
  | descriptorFetched (c : Chan) (r : Fetched)
  | noInputExpiry (c : Chan) (i : Nat)
  | reservationExpiry (c : Chan) (i : Nat)
  | tileRetire (c : Chan) (k : Nat) (work : List TileOp)
  /-- `cellarFetch`: a spilled-weight fetch on the tile's path is outstanding (R98). -/
  | tileDeadlineMiss (c : Chan) (k : Nat) (cellarFetch : Bool)
  | jobDone (c : Chan)
  | cellarUncorrectable (c : Chan) (addr : Word)
  | completionWrite (c : Chan) (s : Slot)
  | resultBlockWritten (c : Chan) (s : Slot) (ok : Bool)
  | stillroomTableFault (c : Chan) (n : Fin 2)
  | observatoryPowerWrite (p : Path) (c : Chan) (v : Byte)
  | traceModeWrite (p : Path) (c : Chan) (v : Byte)
  | traceRecordMerge (c : Chan)
  | periodicTimestamp (c : Chan)
  | flushInterval (c : Chan) (s : Slot) (decant : Bool)
  | traceRingFlush (view : View) (c : Chan) (s : Slot)
  | traceRingEnable (view : View) (c : Chan) (s : Slot) (irq : Bool)
  | traceRingDisable (view : View) (c : Chan) (s : Slot) (irq : Bool)
  | traceRingTailWrite (view : View) (c : Chan) (s : Slot) (v : BitVec 32)
  | traceBlockWritten (c : Chan) (s : Slot) (ok : Bool)
  | faithfulTimeout (c : Chan)
  | traceDisturbed (c : Chan) (cycles : Nat)
  | stagingParityError (c : Chan)
  | cipherFault (c : Chan) (engine : Fin 3)
  | counterSelectWrite (p : Path) (c : Chan) (unit : Byte) (i : Fin 8) (v : BitVec 16)
  | counterPresetWrite (p : Path) (c : Chan) (unit : Byte) (i : Fin 8) (v : Word)
  | counterEnableWrite (p : Path) (c : Chan) (unit : Byte) (v : Byte)
  | countArrival (c : Chan) (quantity : Option (Byte × BitVec 16 × Nat))
  | gather (c : Chan)
  | energyUpdate (c : Chan) (microjoules : Nat)
  | temperatureSample (c : Chan) (die : List (BitVec 16)) (hbm : BitVec 16)
  | triggerMaskWrite (p : Path) (c : Chan) (v : Byte)
  | stocktakeTrigger (src : StPath) (c : Chan)
  | stocktakeRelease (src : StPath) (c : Chan)
  | stocktakeT64Arm (p : Path) (c : Chan) (v : T64)
  | stocktakeT64Fire (c : Chan)
  | syncInRise
  | syncInFall
  | syncStopRecognised
  | moduleFreezeTimeWrite (p : Path) (v : T64)
  | moduleFreezeNow (p : Path)
  | syncHoldoffEnd
  | stopCtrlStop (c : Chan)
  | stopCtrlRelease (c : Chan)
  | channelStopCommand (p : Path) (c : Chan)
  | channelReleaseCommand (p : Path) (c : Chan)
  | moduleStopCommand (p : Path)
  | moduleReleaseCommand (p : Path)
  | stopNFall
  | stopTimeArm (p : Path) (c : Chan) (v : T64)
  | stopTimeFire (c : Chan)
  | stopEventMatch (c : Chan)
  | coreHalted (c : Chan)
  | dmaDrained (c : Chan)
  | stopNPulseEnd
  | stopNStuck
  | tapInstructionUpdate (c : Chan) (op : Byte)
  | scanEnd (c : Chan)
  /-- TAP_TRST_N is driven to the level given. -/
  | tapReset (c : Chan) (level : Bool)
  | sealGuardWrite (p : Path) (c : Chan) (v : BitVec 16)
  | sealBlow (p : Path) (c : Chan)
  | sealSense (c : Chan) (blown : Bool)
  | daybookClear (p : Path) (c : Chan)
  | hangDetected (c : Chan) (cause : Fin 6) (unit : Byte)
  | hangDumpComplete (c : Chan) (cellarError : Bool)
  | heartbeatMissed (c : Chan)
  | decantArm (view : View) (c : Chan) (s : Slot) (pt : Fin 8) (v : BitVec 32)
  | decantDisarm (view : View) (c : Chan) (s : Slot) (pt : Fin 8) (v : BitVec 32)
  | decantCapture (c : Chan) (pt : Fin 8)
  | decantDrain (c : Chan) (pt : Fin 2) (parityError : Bool)
  | decantRingEnable (view : View) (c : Chan) (s : Slot) (irq : Bool)
  | decantRingDisable (view : View) (c : Chan) (s : Slot) (irq : Bool)
  | decantRingFlush (view : View) (c : Chan) (s : Slot)
  | decantRingTailWrite (view : View) (c : Chan) (s : Slot) (v : BitVec 32)
  | decantBlockWritten (c : Chan) (s : Slot) (ok : Bool)
  | keyBlobWrite (p : Path) (c : Chan) (s : Slot) (blob : Bytes)
  | keyInstalled (c : Chan)
  | keyDestroy (p : Path) (c : Chan) (s : Slot)
  | retirementComplete (c : Chan) (s : Slot)
  | keySlotParityError (c : Chan) (s : Slot)
  | serviceKeyBlobWrite (p : Path) (blob : Bytes)
  | cellarTagGo (c : Chan) (v : BitVec 32)
  | cellarTagDone (c : Chan)
  | bar4Write (c : Chan) (addr : Nat) (data : Bytes)
  | bar4Read (c : Chan) (addr n : Nat)
  | functionReset (c : Chan) (cause : ResetCause)
  | perstNAssert
  | upstreamLinkDown
  | upstreamLinkUp (width speed : Byte)
  | internalLinkDown (c : Chan)
  | irqEnableWrite (c : Chan) (v : BitVec 32)
  | jobRingEnable (view : View) (c : Chan) (s : Slot)
  | jobRingDisable (view : View) (c : Chan) (s : Slot)
  | resultRingEnable (view : View) (c : Chan) (s : Slot)
  | resultRingDisable (view : View) (c : Chan) (s : Slot)
  | resultRingTailWrite (view : View) (c : Chan) (s : Slot) (v : BitVec 32)
  | mbxRead (c : Chan) (ctrl : BitVec 32)
  | mbxWrite (c : Chan) (ctrl : BitVec 32)
  | mbxInvalidOp (c : Chan) (ctrl : BitVec 32)
  | mbxCancel (c : Chan)
  | mbxOperationEnd (c : Chan)
  | mbxSegmentTimeout (c : Chan)
  | mbxTimeout (c : Chan)
  | mirRead (c : Chan) (s : Slot)
  | registerWrite (t : RegTarget)
  | nodeIdWrite (p : Path) (v : Byte)
  | coordinatorListenEnd
  | beaconSend
  | beaconReceived (f : BeaconFacts)
  | beaconTimeout
  | opportunityStart (f : OppFacts)
  | fieldFrameReceived (frame : Frame)
  | tlFrameQueue (p : Path)
  | tlFrameDiscardAll (p : Path)
  | tlFrameRelease
  | tlFrameTimeout
  | tlxIdentify (src : TlxSrc) (tid : BitVec 16)
  | tlxOpen (src : TlxSrc) (tid : BitVec 16) (role : Byte)
  | tlxAuth (src : TlxSrc) (sid tid : BitVec 16) (proof : BitVec 128)
  | tlxRenew (src : TlxSrc) (sid tid : BitVec 16)
  | tlxClose (src : TlxSrc) (sid tid : BitVec 16)
  | tlxRead (src : TlxSrc) (sid tid : BitVec 16) (idx sub : Nat)
  | tlxReadSegment (src : TlxSrc) (sid tid : BitVec 16) (off : Nat)
  | tlxWrite (src : TlxSrc) (sid tid : BitVec 16) (idx sub : Nat) (last : Bool) (off : Nat)
      (data : Bytes)
  | tlxWriteCancel (src : TlxSrc) (sid tid : BitVec 16)
  | tlxSubscribe (src : TlxSrc) (sid tid : BitVec 16) (idx sub : Nat) (mode : Byte)
      (minMs periodMs : Nat)
  | tlxUnsubscribe (src : TlxSrc) (sid tid : BitVec 16) (handle : Byte)
  | tlxEventAck (src : TlxSrc) (sid seq : BitVec 16)
  | tlxUnknownService (src : TlxSrc) (sid tid : BitVec 16) (service : Byte)
  | tlxEventNotify (k : Fin 32) (handle : Fin 8)
  | tlxEventRetry (k : Fin 32)
  | authTimeout (k : Fin 32)
  | sessionLapse (k : Fin 32)
  | tlxWriteIdleTimeout (k : Fin 32)
  | accessKeyWrite (p : Path) (key : Bytes)
  | ethertypeWrite (p : Path) (v : BitVec 16)
  | journalStore (ok : Bool)
  | restoreRequest (p : Path) (v : BitVec 16)
  | saveRetry (p : Path) (v : Byte)
  | supplyMarginal (low : Bool)
  | supplyUndervoltage
  | supplyCritical
  | supplyRecovered (powerUp : Bool)
  | governorPeriod (c : Chan) (milliwatts : Nat)
  | allocationTick (inputMw : Nat) (chanMw : List Nat)
  | shareArrival (c : Chan)
  | floorRequestWrite (p : Path) (c : Chan) (v : BitVec 16)
  | frequencyRequestWrite (p : Path) (c : Chan) (v : BitVec 16)
  | voltageSettled (c : Chan)
  | glideEnd (c : Chan)
  | relockLocked (c : Chan)
  | relockEnd (c : Chan)
  | pllLockTimeout (c : Chan)
  | thermalRecovery (c : Chan)
  | sensorFault (c : Chan) (sensor : Fin 7)
  | powerMeasurementFault (c : Chan)
  | regulatorFault (c : Chan)
  | wearMeasurement (c : Chan) (rings : List (Option Int)) (hbmWear : Nat)
  | wearAccrual (c : Chan)
  | wearDaily
  | missionProfileWrite (p : Path) (data : Bytes)
  | reeveWatchdog
  | reeveReturn (selectorBad : Bool)
  | tcxoFailure
  | modulePowerOn (lost : List Nat) (selectorBad : Bool)
  | channelPowerUp (c : Chan)
  | channelWarmReset (c : Chan)
  | stewardBoot (c : Chan) (badA badB : Bool)
  | selfTestComplete (c : Chan) (failure : Option Byte)
  | stewardBankRequest (p : Path) (c : Chan) (v : Byte)
  | imageTargetWrite (p : Path) (v : Byte)
  | imageWrite (p : Path) (image : Bytes)
  | imageBankWrite (p : Path)
  | bankWriteComplete (ok : Bool)
  | imageActivate (p : Path)
  | imageFallBack (p : Path)
  | usbTlxSend (wLength : Nat) (pdu : Bytes)
  | usbTlxReceive (wLength : Nat)
  | usbPortInfo
  | usbBulkPdu (pdu : Bytes)
  | usbBusReset (detach : Bool)
  | usbStandardRequest (requestType request value index : Nat)
  | offsetMeasureCommand (p : Path)
  | probeSend
  | probeReceived (c : Chan) (port : Port) (frame : Bytes)
  | echoReceived (frame : Bytes)
  | echoTimeout
  | perstNDeassert
  | functionReady (c : Chan)
  | modulePowerLoss
  | powerMeasurementRecovered (c : Chan)
  | hbmFailure (c : Chan)
  | scanShift (c : Chan) (tms tdi : Bool)
  | pairLoRead (view : View) (c : Chan) (s : Slot) (off size : Nat)
  | internalLinkUp (c : Chan)
  | announceReceiptTimeout
  | syncOutPulseEnd
  | usbBulkIn
  | usbAttach
  | mirOperationEnd (c : Chan) (s : Slot)
deriving DecidableEq, Repr

end Sys2Proof
end

