-- ==== Sys2Proof/Decode.lean ====
section
/-! DEFINITION. The command that a word spells by the table's bits.  spec/opcode_table.json gives no row bits: its rows are
named events and accesses, and so no word spells a command. -/

namespace Sys2Proof

/-- The command of a word of `nbits` bits: none, since the table gives no bits. -/
def decodeTableWord (_nbits _w : Nat) : Option Instr := none

end Sys2Proof
end

