-- ==== Sys2Proof/Config.lean ====
section
/-! DEFINITION. The free values: what the manual leaves open, as constants without a body, so that nothing in Lean
can evaluate one or prove a value of it.  Each takes the draw number `State.free`, or the operands it depends on. -/

namespace Sys2Proof

/-- Any whole number (log entry 10). -/
opaque Config.freeNat : Nat → Nat

/-- Any 128-bit challenge (R328). -/
opaque Config.challenge : Nat → BitVec 128

/-- The key-encryption key fused into the module (R249). -/
opaque Config.kek : BitVec 256

/-- Whether the signature at the end of an image verifies under the Forsulux image key (R441). -/
opaque Config.signatureValid : List (BitVec 8) → Bool

/-- The keyed whitening of one 64-byte Larder line (R258): whitening key of the owner, line, byte. -/
opaque Config.whitening : BitVec 256 → Nat → Nat → BitVec 8

/-- The channel key drawn by channel c at a power-on (R256). -/
opaque Config.channelKey : Nat → Nat → BitVec 512

/-- Inner knots of the four segment tables of R113: table, knot 1 to 15, in units of 2^-20. -/
opaque Config.segmentKnot : Nat → Nat → Nat

/-- The table version of Stillroom n, fixed in silicon (R115). -/
opaque Config.tableVersion : Nat → BitVec 32

/-- Bytes of the USB descriptors that the manual leaves open: the vendor ID, the release, the string indices (R451). -/
opaque Config.usbByte : Nat → BitVec 8

/-- The pattern of a NaN result in a format with the mantissa width given (R77, R126). -/
opaque Config.nanRaw : Nat → Nat

/-- Which bit of the state that R217 names stands at a position of a channel's scan chain; a number beyond them stands for another
flop (log entry 129). -/
opaque Config.scanPlace : Nat → Nat

/-- What another flop of a channel holds at a position of the chain: channel, T64 of the stop, position (R217; log entry 129). -/
opaque Config.scanFlop : Nat → BitVec 64 → Nat → Bool

/-- The PCI-SIG vendor ID of Forsulux, whose number the manual does not give (R275; log entry 116). -/
opaque Config.vendorId : Nat

/-- The Revision ID of the Porter's ports, which the manual does not give (R275; log entry 116). -/
opaque Config.porterRevision : Nat

end Sys2Proof
end

