-- ==== Sys2Proof/Machine/DictMap.lean ====
section
/-! DEFINITION. "The dictionary map" (R379 to R393): every object with its structure, types, rights, defaults,
ranges and persistence classes; the store `Dict` that holds the live values of its numeric members; and the
lookup of an index and subindex. -/

namespace Sys2Proof.Machine

open Sys2Proof

/-- A store of numeric dictionary members: key and value, keys rising.  A key is index × 256 + subindex, with
the offset of R9 in place of the index inside a channel block.  An unlisted key holds its default of the map. -/
abbrev Dict := List (Nat × Word)

/-- The value a store lists under a key. -/
def Dict.find (d : Dict) (key : Nat) : Option Word :=
  match d with
  | [] => none
  | (k, v) :: r => if k = key then some v else Dict.find r key

/-- The store with a key's value replaced; the keys stay in rising order. -/
def Dict.put (d : Dict) (key : Nat) (v : Word) : Dict :=
  match d with
  | [] => [(key, v)]
  | (k, u) :: r =>
    if key < k then (key, v) :: (k, u) :: r
    else if key = k then (key, v) :: r
    else (k, u) :: Dict.put r key v

/-- The types of R352; `u n` and `i n` are unsigned and signed numbers of n bytes. -/
inductive Ty where
  | bool | u (n : Nat) | i (n : Nat) | f32 | t64 | time80 | date | str (max : Nat) | domain (max : Nat)
deriving DecidableEq, Repr

/-- The access rights of R355. -/
inductive Right where
  | ro | rw | wo | pw | const
deriving DecidableEq, Repr

/-- The persistence classes of R358: volatile, saved, factory. -/
inductive Pers where
  | v | s | f
deriving DecidableEq, Repr

/-- The forms of range of R357 and R380. -/
inductive Range where
  /-- The type alone, or a condition of the object's own chapter (check 11 of R361). -/
  | any
  | bounds (lo hi : Int)
  | set (vals : List Nat)
  /-- Bounds with a step from the lower bound. -/
  | stepped (lo hi : Int) (step : Nat)
  /-- 0, or bounds with a step. -/
  | zeroOr (lo hi : Int) (step : Nat)
  /-- Only these bits may be written as 1. -/
  | bits (mask : Nat)
  /-- A DOMAIN of exactly n bytes (R393). -/
  | exact (n : Nat)
  /-- A recurring DATE member with "no date" (R366). -/
  | anyDate
  /-- R325: 0x0600 to 0xFFFF, except 0x88F7, 0x8100 and 0x88A8. -/
  | ethertype
deriving DecidableEq, Repr

/-- One row of the map: a member, or `subs` consecutive members of one kind. -/
structure Member where
  sub : Nat
  subs : Nat := 1
  ty : Ty
  right : Right
  dflt : Int := 0
  range : Range := .any
  pers : Pers := .v
  /-- P: privileged-read (R356). -/
  privRead : Bool := false
  /-- Q: writable in Quarantine (R380). -/
  quar : Bool := false
  /-- A command, guard, blob or image: reads as zeros (R381). -/
  blank : Bool := false
  /-- The valid subindices are the channel unit IDs (0x8302). -/
  unitSubs : Bool := false
deriving DecidableEq, Repr

/-- How many indices a row "base + x" stands for. -/
inductive Span where
  | upTo (n : Nat)
  /-- One index for each channel unit ID of R11 (0x8240 + u). -/
  | units
deriving DecidableEq, Repr

/-- The structures of R351; a RECORD carries the value of its :00. -/
inductive ObjKind where
  | var | record (top : Nat) | table
deriving DecidableEq, Repr

/-- One object, or an index family. -/
structure Obj where
  chan : Bool
  /-- Index, or offset within a channel block. -/
  idx : Nat
  span : Span
  kind : ObjKind
  members : List Member
deriving DecidableEq, Repr

/-- The unit IDs of a channel (R11). -/
def channelUnits : List Nat :=
  [0x00, 0x01, 0x02, 0x10, 0x11, 0x18, 0x19, 0x20, 0x21] ++ (List.range 16).map (0x28 + ·) ++
  [0x38, 0x39, 0x3A, 0x3B, 0x3C, 0x3D, 0x3E, 0x40, 0x41, 0x42]

/-- A unit ID of a channel (R11). -/
def isChannelUnit (u : Nat) : Bool := channelUnits.contains u

/-- R382: identity, communication and sessions. -/
def DictMap.identity : List Obj := [
  { chan := false, idx := 0x1000, span := .upTo 1, kind := .record 0x7, members := [
    { sub := 0x1, ty := (.str 16), right := .const, pers := .f },
    { sub := 0x2, ty := (.u 1), right := .const, pers := .f },
    { sub := 0x3, ty := (.str 16), right := .const, pers := .f },
    { sub := 0x4, ty := .date, right := .const, pers := .f },
    { sub := 0x5, ty := (.u 4), right := .ro },
    { sub := 0x6, ty := (.u 4), right := .ro },
    { sub := 0x7, ty := (.u 1), right := .ro }] },
  { chan := false, idx := 0x1010, span := .upTo 1, kind := .record 0x6, members := [
    { sub := 0x1, ty := (.domain 6), right := .const, pers := .f },
    { sub := 0x2, ty := (.u 2), right := .pw, dflt := 34997, range := .ethertype, pers := .s },
    { sub := 0x3, ty := (.u 4), right := .ro },
    { sub := 0x4, ty := (.u 4), right := .ro },
    { sub := 0x5, ty := (.u 4), right := .ro },
    { sub := 0x6, ty := .bool, right := .pw, pers := .s }] },
  { chan := false, idx := 0x1020, span := .upTo 1, kind := .record 0x3, members := [
    { sub := 0x1, ty := (.u 2), right := .pw, range := (.set [0x0, 0xD0F1]), blank := true },
    { sub := 0x2, ty := (.u 1), right := .pw, range := (.bits 0xF) },
    { sub := 0x3, ty := (.u 4), right := .ro }] },
  { chan := false, idx := 0x1030, span := .upTo 1, kind := .record 0x7, members := [
    { sub := 0x1, ty := (.u 1), right := .pw, range := (.set [0x0, 0x1]) },
    { sub := 0x2, ty := (.domain 16777216), right := .pw, blank := true },
    { sub := 0x3, ty := (.u 1), right := .pw, range := (.set [0x1, 0x2, 0x3]), blank := true },
    { sub := 0x4, ty := (.u 1), right := .ro },
    { sub := 0x5, ty := (.u 4), right := .ro },
    { sub := 0x6, ty := (.u 4), right := .ro },
    { sub := 0x7, ty := (.u 8), right := .ro, pers := .s }] },
  { chan := false, idx := 0x1040, span := .upTo 1, kind := .record 0x6, members := [
    { sub := 0x1, ty := .t64, right := .pw },
    { sub := 0x2, ty := (.domain 1514), right := .pw },
    { sub := 0x3, ty := (.u 1), right := .pw, range := (.set [0x1, 0x2]), blank := true },
    { sub := 0x4, ty := (.u 1), right := .ro },
    { sub := 0x5, ty := (.u 4), right := .ro },
    { sub := 0x6, ty := (.u 4), right := .ro }] },
  { chan := false, idx := 0x1100, span := .upTo 1, kind := .record 0x6, members := [
    { sub := 0x1, ty := (.u 1), right := .pw, dflt := 255, range := (.bounds 0 255), pers := .s },
    { sub := 0x2, ty := (.u 1), right := .pw, dflt := 8, range := (.bounds 2 255), pers := .s },
    { sub := 0x3, ty := (.u 1), right := .pw, dflt := 32, range := (.bounds 20 255), pers := .s },
    { sub := 0x4, ty := (.u 1), right := .pw, range := (.bounds 0 255), pers := .s },
    { sub := 0x5, ty := (.u 1), right := .pw, dflt := 128, range := (.bounds 1 255), pers := .s },
    { sub := 0x6, ty := .bool, right := .pw, dflt := 1, pers := .s }] },
  { chan := false, idx := 0x1101, span := .upTo 1, kind := .record 0xA, members := [
    { sub := 0x1, ty := (.u 1), right := .ro },
    { sub := 0x2, ty := .f32, right := .ro },
    { sub := 0x3, ty := (.u 4), right := .ro },
    { sub := 0x4, ty := (.u 1), right := .ro },
    { sub := 0x5, ty := (.u 4), right := .ro },
    { sub := 0x6, ty := (.u 1), right := .ro },
    { sub := 0x7, ty := (.u 4), right := .ro },
    { sub := 0x8, ty := (.u 1), right := .rw, range := (.bits 0x7F) },
    { sub := 0x9, ty := (.u 1), right := .ro },
    { sub := 0xA, ty := (.u 4), right := .ro }] },
  { chan := false, idx := 0x1200, span := .upTo 1, kind := .record 0x4, members := [
    { sub := 0x1, ty := (.u 1), right := .ro },
    { sub := 0x2, ty := (.u 1), right := .ro, dflt := 32 },
    { sub := 0x3, ty := (.domain 32), right := .wo, range := (.exact 32), pers := .s },
    { sub := 0x4, ty := .bool, right := .ro, pers := .s }] },
  { chan := false, idx := 0x1300, span := .upTo 32, kind := .record 0x7, members := [
    { sub := 0x1, ty := (.u 1), right := .ro },
    { sub := 0x2, ty := (.u 2), right := .ro },
    { sub := 0x3, ty := (.domain 6), right := .ro },
    { sub := 0x4, ty := (.u 1), right := .ro },
    { sub := 0x5, ty := (.u 1), right := .ro },
    { sub := 0x6, ty := (.u 4), right := .ro },
    { sub := 0x7, ty := (.u 1), right := .ro }] } ]

/-- R383: module power, wear and calendar. -/
def DictMap.moduleWear : List Obj := [
  { chan := false, idx := 0x2000, span := .upTo 1, kind := .record 0x6, members := [
    { sub := 0x1, ty := (.u 2), right := .ro },
    { sub := 0x2, ty := (.u 2), right := .ro },
    { sub := 0x3, ty := (.u 2), right := .pw, dflt := 1500, range := (.bounds 400 1500), pers := .s },
    { sub := 0x4, ty := (.u 2), right := .ro },
    { sub := 0x5, ty := (.u 8), right := .ro },
    { sub := 0x6, ty := (.u 1), right := .pw, range := (.bits 0xF) }] },
  { chan := false, idx := 0x2040, span := .upTo 1, kind := .record 0x5, members := [
    { sub := 0x1, ty := .date, right := .ro },
    { sub := 0x2, ty := (.u 4), right := .ro },
    { sub := 0x3, ty := (.domain 16), right := .ro },
    { sub := 0x4, ty := .time80, right := .pw },
    { sub := 0x5, ty := (.u 1), right := .pw, range := (.bits 0x1) }] },
  { chan := false, idx := 0x2050, span := .upTo 1, kind := .record 0x1, members := [
    { sub := 0x1, ty := .date, right := .rw, range := .anyDate, pers := .s }] },
  { chan := false, idx := 0x2060, span := .upTo 1, kind := .record 0x7, members := [
    { sub := 0x1, ty := .date, right := .ro, pers := .s },
    { sub := 0x2, ty := .date, right := .ro, pers := .s },
    { sub := 0x3, ty := .date, right := .ro, pers := .s },
    { sub := 0x4, ty := (.u 1), right := .pw, dflt := 90, range := (.bounds 50 99), pers := .s },
    { sub := 0x5, ty := (.domain 4096), right := .pw, pers := .s },
    { sub := 0x6, ty := (.u 1), right := .ro, dflt := 2 },
    { sub := 0x7, ty := (.u 2), right := .ro, pers := .s }] } ]

/-- R384: module time and PTP. -/
def DictMap.moduleTime : List Obj := [
  { chan := false, idx := 0x3000, span := .upTo 1, kind := .record 0x6, members := [
    { sub := 0x1, ty := (.u 1), right := .ro },
    { sub := 0x2, ty := (.u 1), right := .ro },
    { sub := 0x3, ty := .bool, right := .pw, dflt := 1, pers := .s },
    { sub := 0x4, ty := (.u 1), right := .pw, range := (.bits 0x7F) },
    { sub := 0x5, ty := (.u 4), right := .ro },
    { sub := 0x6, ty := .t64, right := .ro }] },
  { chan := false, idx := 0x3001, span := .upTo 1, kind := .record 0x5, members := [
    { sub := 0x1, ty := (.u 1), right := .pw, range := (.set [0x0, 0x1, 0x2]), pers := .s },
    { sub := 0x2, ty := (.u 1), right := .pw, range := (.set [0x0, 0x1]), pers := .s },
    { sub := 0x3, ty := (.u 4), right := .pw, dflt := 1000, range := (.bounds 100 1000000), pers := .s },
    { sub := 0x4, ty := (.u 1), right := .pw, dflt := 4, range := (.bounds 1 16), pers := .s },
    { sub := 0x5, ty := (.u 2), right := .pw, dflt := 500, range := (.bounds 1 1000), pers := .s }] },
  { chan := false, idx := 0x3002, span := .upTo 1, kind := .var, members := [
    { sub := 0x0, ty := (.u 8), right := .pw, dflt := 8589934592, range := (.bounds 8581344658 8598524526) }] },
  { chan := false, idx := 0x3003, span := .upTo 1, kind := .var, members := [
    { sub := 0x0, ty := (.i 8), right := .pw, range := (.bounds (-4611686018427387904) 4611686018427387903), blank := true }] },
  { chan := false, idx := 0x3004, span := .upTo 1, kind := .var, members := [
    { sub := 0x0, ty := (.u 1), right := .pw, range := (.set [0x1]), blank := true }] },
  { chan := false, idx := 0x3005, span := .upTo 1, kind := .var, members := [
    { sub := 0x0, ty := .time80, right := .pw, blank := true }] },
  { chan := false, idx := 0x3006, span := .upTo 1, kind := .record 0x2, members := [
    { sub := 0x1, ty := .t64, right := .ro },
    { sub := 0x2, ty := (.i 4), right := .ro }] },
  { chan := false, idx := 0x3007, span := .upTo 1, kind := .var, members := [
    { sub := 0x0, ty := (.i 2), right := .pw, dflt := 37, range := (.bounds 0 255), pers := .s }] },
  { chan := false, idx := 0x3008, span := .upTo 1, kind := .record 0x2, members := [
    { sub := 0x1, ty := (.i 8), right := .ro },
    { sub := 0x2, ty := (.i 8), right := .ro }] },
  { chan := false, idx := 0x3009, span := .upTo 1, kind := .var, members := [
    { sub := 0x0, ty := (.i 1), right := .pw, range := (.bounds (-1) 1) }] },
  { chan := false, idx := 0x3010, span := .upTo 1, kind := .record 0xA, members := [
    { sub := 0x1, ty := .bool, right := .pw, dflt := 1, pers := .s },
    { sub := 0x2, ty := (.u 1), right := .pw, range := (.bounds 0 127), pers := .s },
    { sub := 0x3, ty := (.u 1), right := .pw, dflt := 128, range := (.bounds 0 255), pers := .s },
    { sub := 0x4, ty := (.u 1), right := .pw, dflt := 128, range := (.bounds 0 255), pers := .s },
    { sub := 0x5, ty := .bool, right := .pw, dflt := 1, pers := .s },
    { sub := 0x6, ty := (.i 1), right := .pw, dflt := (-3), range := (.bounds (-4) 1), pers := .s },
    { sub := 0x7, ty := (.i 1), right := .pw, range := (.bounds (-4) 5), pers := .s },
    { sub := 0x8, ty := (.i 1), right := .pw, dflt := 1, range := (.bounds 0 4), pers := .s },
    { sub := 0x9, ty := (.u 1), right := .pw, dflt := 3, range := (.bounds 2 10), pers := .s },
    { sub := 0xA, ty := (.i 4), right := .pw, range := (.bounds (-1000000) 1000000), pers := .s }] },
  { chan := false, idx := 0x3020, span := .upTo 1, kind := .record 0x3, members := [
    { sub := 0x1, ty := (.u 1), right := .ro },
    { sub := 0x2, ty := (.u 1), right := .ro },
    { sub := 0x3, ty := (.u 4), right := .ro }] } ]

/-- R385: module observation, alignment and keys. -/
def DictMap.moduleObserve : List Obj := [
  { chan := false, idx := 0x4001, span := .upTo 1, kind := .record 0x4, members := [
    { sub := 0x1, ty := .bool, right := .pw, pers := .s },
    { sub := 0x2, ty := (.u 4), right := .ro },
    { sub := 0x3, ty := (.u 4), right := .ro },
    { sub := 0x4, ty := (.u 4), right := .ro }] },
  { chan := false, idx := 0x4010, span := .upTo 1, kind := .record 0x3, members := [
    { sub := 0x1, ty := .t64, right := .pw },
    { sub := 0x2, ty := (.u 1), right := .ro },
    { sub := 0x3, ty := (.u 1), right := .pw, range := (.set [0x1]), blank := true }] },
  { chan := false, idx := 0x4020, span := .upTo 1, kind := .record 0x5, members := [
    { sub := 0x1, ty := .bool, right := .pw, pers := .s },
    { sub := 0x2, ty := (.u 1), right := .pw, range := (.set [0x1, 0x2]), blank := true },
    { sub := 0x3, ty := (.u 1), right := .ro },
    { sub := 0x4, ty := (.u 1), right := .pw, range := (.bits 0x1) },
    { sub := 0x5, ty := .bool, right := .pw, pers := .s }] },
  { chan := false, idx := 0x4030, span := .upTo 1, kind := .record 0x5, members := [
    { sub := 0x1, ty := (.u 1), right := .pw, range := (.bounds 0 31), pers := .s },
    { sub := 0x2, ty := (.u 1), right := .pw, range := (.set [0x1]), blank := true },
    { sub := 0x3, ty := (.u 1), right := .ro },
    { sub := 0x4, ty := (.u 4), right := .ro },
    { sub := 0x5, ty := (.i 4), right := .ro }] },
  { chan := false, idx := 0x4040, span := .upTo 1, kind := .record 0x6, members := [
    { sub := 0x1, ty := (.u 4), right := .const, pers := .f },
    { sub := 0x2, ty := .bool, right := .ro },
    { sub := 0x3, ty := (.u 4), right := .ro, pers := .s },
    { sub := 0x4, ty := (.domain 72), right := .pw, range := (.exact 72), blank := true },
    { sub := 0x5, ty := (.u 4), right := .ro },
    { sub := 0x6, ty := (.u 4), right := .ro, pers := .s }] } ]

/-- R386: channel status, time and triggers. -/
def DictMap.chanTime : List Obj := [
  { chan := true, idx := 0x0, span := .upTo 1, kind := .record 0x7, members := [
    { sub := 0x1, ty := (.u 1), right := .ro },
    { sub := 0x2, ty := (.u 1), right := .ro },
    { sub := 0x3, ty := (.u 1), right := .const, pers := .f },
    { sub := 0x4, ty := (.u 4), right := .ro },
    { sub := 0x5, ty := (.u 4), right := .ro },
    { sub := 0x6, ty := (.u 1), right := .ro },
    { sub := 0x7, ty := (.u 1), right := .pw, range := (.set [0x0, 0x1, 0x2]), pers := .s, quar := true }] },
  { chan := true, idx := 0x100, span := .upTo 1, kind := .record 0x3, members := [
    { sub := 0x1, ty := (.u 2), right := .ro },
    { sub := 0x2, ty := .t64, right := .ro },
    { sub := 0x3, ty := (.u 2), right := .ro }] },
  { chan := true, idx := 0x110, span := .upTo 4, kind := .record 0xA, members := [
    { sub := 0x1, ty := (.u 1), right := .pw, range := (.set [0x0, 0x1, 0x2, 0x3]) },
    { sub := 0x2, ty := (.u 4), right := .pw },
    { sub := 0x3, ty := (.u 4), right := .pw, dflt := 1000000, range := (.bounds 20 1073741824) },
    { sub := 0x4, ty := (.u 2), right := .pw, dflt := 100, range := (.stepped 4 65534 2) },
    { sub := 0x5, ty := .bool, right := .pw },
    { sub := 0x6, ty := (.u 1), right := .pw, range := (.bits 0xE) },
    { sub := 0x8, ty := (.u 4), right := .ro },
    { sub := 0x9, ty := (.u 4), right := .ro },
    { sub := 0xA, ty := .t64, right := .ro }] },
  { chan := true, idx := 0x120, span := .upTo 1, kind := .record 0x7, members := [
    { sub := 0x1, ty := .bool, right := .pw },
    { sub := 0x2, ty := (.u 4), right := .pw },
    { sub := 0x3, ty := (.u 4), right := .pw, dflt := 1000000, range := (.bounds 1000 1073741824) },
    { sub := 0x4, ty := (.u 8), right := .ro },
    { sub := 0x5, ty := (.u 1), right := .pw, range := (.bits 0xE) },
    { sub := 0x6, ty := .bool, right := .pw },
    { sub := 0x7, ty := (.u 4), right := .ro }] } ]

/-- R387: counters. -/
def DictMap.chanCounters : List Obj := [
  { chan := true, idx := 0x200, span := .upTo 1, kind := .record 0x7, members := [
    { sub := 0x1, ty := (.u 4), right := .pw, range := (.zeroOr 10 1000000 1), pers := .s },
    { sub := 0x2, subs := 0x3, ty := (.u 4), right := .pw, pers := .s },
    { sub := 0x5, ty := (.u 4), right := .ro },
    { sub := 0x6, ty := .bool, right := .pw, pers := .s },
    { sub := 0x7, ty := .bool, right := .pw, pers := .s }] },
  { chan := true, idx := 0x201, span := .upTo 1, kind := .var, members := [
    { sub := 0x0, ty := (.u 2), right := .pw }] },
  { chan := true, idx := 0x202, span := .upTo 1, kind := .record 0xB, members := [
    { sub := 0x1, ty := (.u 1), right := .pw, range := (.bits 0x1F), pers := .s },
    { sub := 0x2, ty := (.u 1), right := .pw, range := (.bits 0xF), pers := .s },
    { sub := 0x3, ty := .t64, right := .pw },
    { sub := 0x4, ty := (.u 1), right := .pw, range := (.set [0x1]), blank := true },
    { sub := 0x5, ty := (.u 1), right := .pw, range := (.set [0x1]), blank := true },
    { sub := 0x6, ty := .bool, right := .pw, pers := .s },
    { sub := 0x7, ty := (.u 1), right := .ro },
    { sub := 0xA, ty := (.u 4), right := .ro },
    { sub := 0xB, ty := (.u 4), right := .ro }] },
  { chan := true, idx := 0x203, span := .upTo 1, kind := .record 0xB, members := [
    { sub := 0x1, ty := (.u 8), right := .ro },
    { sub := 0x2, subs := 0x6, ty := (.i 2), right := .ro },
    { sub := 0x8, ty := (.i 2), right := .ro },
    { sub := 0x9, ty := .t64, right := .ro },
    { sub := 0xA, ty := .t64, right := .ro },
    { sub := 0xB, ty := (.u 1), right := .ro }] },
  { chan := true, idx := 0x204, span := .upTo 1, kind := .record 0xA, members := [
    { sub := 0x1, ty := (.u 8), right := .ro },
    { sub := 0x2, subs := 0x7, ty := (.i 2), right := .ro },
    { sub := 0x9, subs := 0x2, ty := .t64, right := .ro }] },
  { chan := true, idx := 0x240, span := .units, kind := .record 0x20, members := [
    { sub := 0x1, subs := 0x8, ty := (.u 2), right := .pw, dflt := 128, pers := .s },
    { sub := 0x9, ty := (.u 1), right := .pw, pers := .s },
    { sub := 0xA, ty := (.u 1), right := .pw },
    { sub := 0x11, subs := 0x8, ty := (.u 8), right := .pw, range := (.bounds 0 281474976710655) },
    { sub := 0x19, subs := 0x8, ty := (.u 8), right := .ro }] },
  { chan := true, idx := 0x2A0, span := .upTo 1, kind := .table, members := [
    { sub := 0x0, subs := 0x60, ty := (.u 8), right := .ro }] },
  { chan := true, idx := 0x2A1, span := .upTo 1, kind := .table, members := [
    { sub := 0x0, subs := 0x60, ty := (.u 8), right := .ro }] },
  { chan := true, idx := 0x2A2, span := .upTo 1, kind := .record 0x3, members := [
    { sub := 0x1, subs := 0x3, ty := (.u 4), right := .pw }] } ]

/-- R388: trace. -/
def DictMap.chanTrace : List Obj := [
  { chan := true, idx := 0x300, span := .upTo 1, kind := .record 0x9, members := [
    { sub := 0x1, ty := .bool, right := .pw, pers := .s },
    { sub := 0x2, ty := (.u 1), right := .pw, range := (.set [0x0, 0x1, 0x2]), pers := .s },
    { sub := 0x3, ty := (.u 1), right := .pw, dflt := 20, range := (.bounds 5 40), pers := .s },
    { sub := 0x4, ty := (.u 8), right := .ro },
    { sub := 0x5, ty := (.u 1), right := .ro },
    { sub := 0x6, ty := (.u 1), right := .pw, range := (.bits 0xF) },
    { sub := 0x7, ty := (.u 4), right := .pw, dflt := 1000, range := (.bounds 10 100000), pers := .s },
    { sub := 0x8, ty := (.u 1), right := .pw, range := (.bounds 0 15), pers := .s },
    { sub := 0x9, ty := (.u 2), right := .pw, dflt := 100, range := (.bounds 1 10000), pers := .s }] },
  { chan := true, idx := 0x301, span := .upTo 1, kind := .var, members := [
    { sub := 0x0, ty := (.u 2), right := .pw }] },
  { chan := true, idx := 0x302, span := .upTo 1, kind := .table, members := [
    { sub := 0x0, subs := 0x100, ty := (.u 8), right := .pw, pers := .s, unitSubs := true }] },
  { chan := true, idx := 0x320, span := .upTo 16, kind := .record 0x5, members := [
    { sub := 0x1, ty := (.u 4), right := .pw, dflt := 126975, range := (.bits 0x1FFFF) },
    { sub := 0x2, ty := .bool, right := .pw, dflt := 1 },
    { sub := 0x3, ty := (.u 8), right := .ro },
    { sub := 0x4, ty := (.u 8), right := .ro },
    { sub := 0x5, ty := (.u 8), right := .ro }] } ]

/-- R389: debug, stop and decant. -/
def DictMap.chanDebug : List Obj := [
  { chan := true, idx := 0x400, span := .upTo 1, kind := .record 0xB, members := [
    { sub := 0x1, ty := (.u 1), right := .pw, range := (.set [0x1, 0x2]), blank := true },
    { sub := 0x2, ty := (.u 1), right := .ro },
    { sub := 0x3, ty := (.u 1), right := .ro },
    { sub := 0x4, ty := .t64, right := .ro },
    { sub := 0x5, ty := .bool, right := .pw, pers := .s },
    { sub := 0x6, ty := (.u 4), right := .ro },
    { sub := 0x7, ty := (.u 1), right := .pw, range := (.bits 0x7) },
    { sub := 0x8, ty := (.u 2), right := .pw, dflt := 768 },
    { sub := 0x9, ty := .t64, right := .pw },
    { sub := 0xA, ty := .bool, right := .pw, pers := .s },
    { sub := 0xB, ty := (.u 1), right := .pw, range := (.bits 0x8) }] },
  { chan := true, idx := 0x401, span := .upTo 1, kind := .record 0x6, members := [
    { sub := 0x1, ty := (.u 1), right := .ro, pers := .f },
    { sub := 0x2, ty := (.u 2), right := .pw, range := (.set [0x5EA1]), blank := true },
    { sub := 0x3, ty := (.u 1), right := .pw, range := (.set [0x1]), blank := true },
    { sub := 0x4, ty := .bool, right := .ro },
    { sub := 0x5, ty := (.u 4), right := .const, dflt := 9437184, pers := .f },
    { sub := 0x6, ty := (.u 1), right := .pw, range := (.bits 0x3) }] },
  { chan := true, idx := 0x402, span := .upTo 1, kind := .record 0x5, members := [
    { sub := 0x1, ty := .bool, right := .pw, pers := .s },
    { sub := 0x2, ty := (.u 1), right := .pw },
    { sub := 0x3, ty := (.domain 1536), right := .ro, privRead := true },
    { sub := 0x4, ty := (.u 4), right := .ro },
    { sub := 0x5, ty := (.u 1), right := .pw, range := (.set [0x1]), blank := true }] },
  { chan := true, idx := 0x403, span := .upTo 1, kind := .var, members := [
    { sub := 0x0, ty := (.u 2), right := .pw }] },
  { chan := true, idx := 0x404, span := .upTo 1, kind := .record 0xA, members := [
    { sub := 0x1, ty := .bool, right := .pw, pers := .s },
    { sub := 0x2, ty := (.u 2), right := .pw, dflt := 100, range := (.bounds 1 10000), pers := .s },
    { sub := 0x3, ty := .bool, right := .pw, dflt := 1, pers := .s },
    { sub := 0x4, ty := (.u 4), right := .ro },
    { sub := 0x5, ty := (.u 4), right := .ro },
    { sub := 0x6, ty := (.u 8), right := .ro },
    { sub := 0x7, ty := (.u 4), right := .ro },
    { sub := 0x8, ty := (.u 1), right := .pw, range := (.bounds 0 1) },
    { sub := 0x9, ty := (.domain 262144), right := .ro, privRead := true },
    { sub := 0xA, ty := (.u 1), right := .ro }] } ]

/-- R390: compute. -/
def DictMap.chanCompute : List Obj := [
  { chan := true, idx := 0x500, span := .upTo 1, kind := .record 0x4, members := [
    { sub := 0x1, ty := (.u 8), right := .const, dflt := 201326592, pers := .f },
    { sub := 0x2, ty := (.u 8), right := .const, dflt := 25769803776, pers := .f },
    { sub := 0x3, ty := (.u 8), right := .ro },
    { sub := 0x4, ty := (.u 8), right := .ro }] },
  { chan := true, idx := 0x501, span := .upTo 1, kind := .record 0x5, members := [
    { sub := 0x1, ty := (.u 1), right := .ro },
    { sub := 0x2, ty := (.u 4), right := .ro },
    { sub := 0x3, ty := (.u 4), right := .ro },
    { sub := 0x4, ty := (.u 4), right := .ro },
    { sub := 0x5, ty := (.u 1), right := .ro }] },
  { chan := true, idx := 0x510, span := .upTo 1, kind := .record 0x6, members := [
    { sub := 0x1, ty := (.u 8), right := .pw, range := (.bounds 0 25769803775) },
    { sub := 0x2, ty := (.u 8), right := .pw, range := (.bounds 128 25769803776) },
    { sub := 0x3, ty := (.u 1), right := .pw, range := (.bounds 0 15) },
    { sub := 0x4, ty := (.u 1), right := .pw, range := (.bounds 0 15) },
    { sub := 0x5, ty := (.u 1), right := .pw, range := (.set [0x1, 0x2]), blank := true },
    { sub := 0x6, ty := (.u 1), right := .ro }] },
  { chan := true, idx := 0x520, span := .upTo 16, kind := .record 0x8, members := [
    { sub := 0x1, ty := (.u 1), right := .ro },
    { sub := 0x2, ty := (.u 8), right := .ro },
    { sub := 0x3, ty := (.u 1), right := .ro },
    { sub := 0x4, ty := (.u 4), right := .ro },
    { sub := 0x5, ty := (.u 2), right := .ro },
    { sub := 0x6, ty := (.u 8), right := .ro },
    { sub := 0x7, ty := (.u 1), right := .ro },
    { sub := 0x8, ty := (.u 1), right := .ro }] },
  { chan := true, idx := 0x540, span := .upTo 4, kind := .record 0x9, members := [
    { sub := 0x1, ty := (.u 1), right := .pw, range := (.set [0, 1, 2]), pers := .s },
    { sub := 0x2, ty := (.u 1), right := .ro },
    { sub := 0x3, ty := (.u 4), right := .ro },
    { sub := 0x4, ty := (.u 4), right := .ro },
    { sub := 0x5, ty := (.u 4), right := .ro },
    { sub := 0x6, ty := (.u 4), right := .ro },
    { sub := 0x7, ty := (.u 4), right := .ro },
    { sub := 0x8, ty := (.u 4), right := .ro },
    { sub := 0x9, ty := (.u 1), right := .ro }] },
  { chan := true, idx := 0x550, span := .upTo 2, kind := .record 0x5, members := [
    { sub := 0x1, ty := (.u 4), right := .ro },
    { sub := 0x2, ty := (.u 4), right := .ro },
    { sub := 0x3, ty := (.u 1), right := .pw, range := (.bits 0x1F) },
    { sub := 0x5, ty := (.u 4), right := .const, pers := .f }] } ]

/-- R391: owners and keys. -/
def DictMap.chanKeys : List Obj := [
  { chan := true, idx := 0x600, span := .upTo 1, kind := .record 0x5, members := [
    { sub := 0x1, ty := (.u 2), right := .ro },
    { sub := 0x2, ty := (.u 4), right := .ro, pers := .s },
    { sub := 0x4, ty := (.u 4), right := .ro },
    { sub := 0x5, ty := (.u 4), right := .ro }] },
  { chan := true, idx := 0x601, span := .upTo 1, kind := .var, members := [
    { sub := 0x0, ty := (.u 2), right := .pw }] },
  { chan := true, idx := 0x602, span := .upTo 1, kind := .var, members := [
    { sub := 0x0, ty := (.u 2), right := .pw }] },
  { chan := true, idx := 0x610, span := .upTo 16, kind := .record 0x7, members := [
    { sub := 0x1, ty := (.u 1), right := .ro },
    { sub := 0x2, ty := (.domain 72), right := .pw, range := (.exact 72), blank := true },
    { sub := 0x3, ty := (.u 4), right := .ro },
    { sub := 0x4, ty := (.u 4), right := .ro },
    { sub := 0x5, ty := (.u 1), right := .pw, range := (.set [0x1]), blank := true },
    { sub := 0x6, ty := (.u 1), right := .ro },
    { sub := 0x7, ty := (.u 1), right := .ro }] } ]

/-- R392: power and wear. -/
def DictMap.chanPower : List Obj := [
  { chan := true, idx := 0x700, span := .upTo 1, kind := .record 0x9, members := [
    { sub := 0x1, ty := (.u 2), right := .ro },
    { sub := 0x2, ty := (.u 2), right := .ro },
    { sub := 0x3, ty := (.u 1), right := .ro },
    { sub := 0x4, ty := (.u 2), right := .pw, dflt := 1500, range := (.stepped 600 1500 25) },
    { sub := 0x5, ty := (.u 2), right := .pw, range := (.zeroOr 600 1500 25) },
    { sub := 0x6, ty := (.u 2), right := .pw, dflt := 170, range := (.bounds 50 170), pers := .s },
    { sub := 0x7, ty := (.u 2), right := .ro },
    { sub := 0x8, ty := (.u 2), right := .ro },
    { sub := 0x9, ty := .bool, right := .pw, dflt := 1, pers := .s }] },
  { chan := true, idx := 0x701, span := .upTo 1, kind := .record 0x4, members := [
    { sub := 0x1, ty := (.u 4), right := .ro },
    { sub := 0x2, ty := (.u 4), right := .ro },
    { sub := 0x3, ty := (.u 8), right := .ro },
    { sub := 0x4, ty := (.u 4), right := .ro }] },
  { chan := true, idx := 0x702, span := .upTo 1, kind := .record 0x3, members := [
    { sub := 0x1, ty := (.u 2), right := .ro, pers := .s },
    { sub := 0x2, ty := (.i 4), right := .ro, pers := .s },
    { sub := 0x3, ty := (.u 1), right := .ro, pers := .s }] } ]

/-- Module objects (R382 to R385). -/
def DictMap.module : List Obj :=
  DictMap.identity ++ DictMap.moduleWear ++ DictMap.moduleTime ++ DictMap.moduleObserve

/-- Objects of a channel block (R386 to R392). -/
def DictMap.channel : List Obj :=
  DictMap.chanTime ++ DictMap.chanCounters ++ DictMap.chanTrace ++ DictMap.chanDebug ++ DictMap.chanCompute ++
  DictMap.chanKeys ++ DictMap.chanPower

/-- The object covers this index or offset (R379). -/
def Obj.covers (o : Obj) (idx : Nat) : Bool :=
  match o.span with
  | .upTo n => o.idx ≤ idx && idx < o.idx + n
  | .units => o.idx ≤ idx && isChannelUnit (idx - o.idx)

/-- The member covers this subindex. -/
def Member.covers (m : Member) (sub : Nat) : Bool :=
  m.sub ≤ sub && sub < m.sub + m.subs && (!m.unitSubs || isChannelUnit sub)

/-- :00 of a RECORD: a CONST U8 with the highest subindex defined (R351). -/
def topMember (top : Nat) : Member :=
  { sub := 0, ty := .u 1, right := .const, dflt := top, pers := .f }

/-- The member at a subindex of an object. -/
def Obj.member (o : Obj) (sub : Nat) : Option Member :=
  match o.kind, sub with
  | .record top, 0 => some (topMember top)
  | _, _ => o.members.find? (·.covers sub)

/-- The member of a module object. -/
def DictMap.lookupModule (idx sub : Nat) : Option Member :=
  (DictMap.module.find? (·.covers idx)).bind (·.member sub)

/-- The member of a channel object at an offset. -/
def DictMap.lookupChannel (off sub : Nat) : Option Member :=
  (DictMap.channel.find? (·.covers off)).bind (·.member sub)

/-- Key of an index or offset and a subindex. -/
def dkey (idx sub : Nat) : Nat := idx * 256 + sub

/-- The default of a member as a value; 0 where the map lists none. -/
def dfltOf (m : Option Member) : Word :=
  match m with
  | some m => wInt m.dflt
  | none => 0

end Sys2Proof.Machine
end

