-- ==== Sys2Proof/Machine/State.lean ====
section
/-! DEFINITION. State: everything the manual gives the module, as plain data; the two closed types of
stops; and State.reset, the module right after its own power-on reset, before any channel has booted.

Numeric dictionary members live in `Dict` stores under their own index and subindex (R351, R379): what a
store does not list reads as the default of "The dictionary map". -/

namespace Sys2Proof.Machine

open Sys2Proof

/-- Why the module's behaviour stops being defined. -/
inductive Fault where
  /-- R1, R154: a TAIL was written outside the readable blocks.  Raised by no arm of this model: the ring's own TAIL takes a
  free value (log entry 100).  Safe. -/
  | tailOutsideRing
  /-- R1, R85: a partner sent what R81 to R85 forbid and the manual names no reaction to.  Raised by no arm of this model: the
  port reacts in a way that is left free (log entry 100).  Safe. -/
  | partnerBreach
deriving DecidableEq, Repr

/-- Why the model has no meaning to give. -/
inductive Refusal where
  /-- The command's row has no meaning in the model.  Raised by no arm of this model.  Safe. -/
  | notModelled (mnemonic : String)
deriving DecidableEq, Repr

/-! ## What the module puts out -/

/-- What leaves the module: a log of the model's own, newest last, so that statements can name it. -/
inductive Out where
  /-- A posted MSI-X message of channel c: vector, address, data (R274, R290). -/
  | msix (c : Chan) (vector : Nat) (addr : Word) (data : BitVec 32)
  /-- A sealed 4 KiB block of channel c written to host memory (R150, R260): stream kind, slot, block sequence,
  address, first 16 clear bytes, plaintext payload of bytes 16 to 4079, and the stream key that seals it. -/
  | block (c : Chan) (kind : Byte) (s : Slot) (seq : Word) (addr : Word) (clear : Bytes)
      (payload : Bytes) (key : BitVec 256)
  /-- A flit sent on port p of channel c (R82), and what lanes 0 to 3 carry of it, scrambled (R81). -/
  | flit (c : Chan) (p : Port) (f : Flit) (lanes : List Bytes)
  /-- Training blocks that begin on lanes 0 to 3 of the port (R83, R84, R465), and what the lanes carry, scrambled (R81). -/
  | training (c : Chan) (p : Port) (blocks : List TrainingBlock) (lanes : List Bytes)
  /-- A frame put on the field-network segment (R321). -/
  | frame (bytes : Bytes)
  /-- A beacon sent by the coordinator (R312). -/
  | beacon
  /-- A PDU or reply given to the USB host (R452, R453). -/
  | usb (bytes : Bytes)
  /-- The USB host's request is stalled (R452). -/
  | usbStall
  /-- The bytes a BAR4 read returns (R297). -/
  | bar4 (c : Chan) (bytes : Bytes)
  /-- The value a register read returns (R6, R277). -/
  | readReg (c : Chan) (v : BitVec 32)
  /-- Both halves of a pair from one instant, as an aligned 8-byte read returns them (R277). -/
  | readPair (c : Chan) (v : Word)
  /-- The abort code, 0 for none, of a dictionary write made by a row of its own (R370). -/
  | answer (code : BitVec 32)
  /-- A STOP_N, SYNC_OUT or TRIG level change (R25): pin number 0 STOP_N, 1 SYNC_OUT, 2 TRIG; 3 is the
  PWR status LED, on when it reports a failure (R35). -/
  | pin (which : Nat) (c : Chan) (n : Nat) (level : Bool)
  /-- The bit a test port drives on TDO (R217). -/
  | tdo (c : Chan) (bit : Bool)
deriving DecidableEq, Repr

/-! ## Time -/

/-- The time states of R55. -/
inductive TimeState where
  | freeRun | acquiring | locked | holdover
deriving DecidableEq, Repr

/-- A correction on its way between the slot edge and the load strobe (R31). -/
inductive Load where
  /-- A step of the signed number of ns (R50). -/
  | step (v : Word)
  /-- A PPS load: the T64 the edge carries, and the TCLK edge of the pin (R52). -/
  | pps (value : T64) (edge : Nat)
deriving DecidableEq, Repr

/-- A PPS load that has been written (R52). -/
structure PpsLoad where
  value : T64
  /-- TCLK count at which it is discarded. -/
  deadline : Nat
  /-- TCLK count of the captured pin edge. -/
  edge : Option Nat
deriving DecidableEq, Repr

/-- The time base (R36 to R39) and the servo (R53). -/
structure TimeBase where
  /-- R38: T64 of every TBU and of the Reeve (R39: one value), 64 bits. -/
  t64 : T64
  /-- T64 at the edge before, by which a multiple reached on this edge is known (R144, R182). -/
  prev : T64
  /-- R38: fraction accumulator, 32 bits. -/
  frac : BitVec 32
  /-- R38: increment in force, 8.32 ns in bits 39 to 0. -/
  incr : Word
  /-- R39: increment accepted and waiting for its slot. -/
  pendIncr : Option Word
  /-- R69: increment that shares a slot with a step and waits for the edge after the strobe. -/
  afterStrobe : Option Word
  /-- R50: step accepted and waiting for its slot. -/
  pendStep : Option Word
  /-- R52: pending PPS load. -/
  ppsLoad : Option PpsLoad
  /-- R31: correction in its 4-TCLK hold: TCLK count of the strobe, and the correction. -/
  load : Option (Nat × Load)
  /-- R31: T64 distributed to the other domains while the hold lasts. -/
  frozen : Option T64
  /-- R39: TCLK count of the next correction-bus slot. -/
  nextSlot : Nat
  /-- R163: step epoch, counted up at each load strobe. -/
  epoch : Nat
  /-- R55: time state. -/
  ts : TimeState
  /-- R50: step allowance. -/
  allowance : Bool
  /-- R53: offset measurements counted since ACQUIRING was entered, oldest first, in ns. -/
  meas : List Int
  /-- R53: the step decision of this acquisition has been taken. -/
  decided : Bool
  /-- R55: consecutive measurements below 500 ns. -/
  goodRun : Nat
  /-- R53: integral term of the servo, a rate. -/
  integral : Rat
  /-- R53: TCLK count of the last measurement. -/
  lastMeas : Option Nat
  /-- R59: offsets of the last 8 PTP exchanges, newest first. -/
  offsets : List Int
  /-- R59: path delays of the last 8 PTP exchanges, newest first. -/
  delays : List Int
  /-- R36: REF10M qualified. -/
  refQualified : Bool
  /-- R55: TCLK count of the last PPS capture while PPS_IN is the source. -/
  lastPps : Option Nat
  /-- R35: the TCXO has failed and the module is held in reset. -/
  tcxoFailed : Bool
deriving DecidableEq, Repr

/-- The roles of the PTP port (R58). -/
inductive PtpRole where
  | listening | slave | master
deriving DecidableEq, Repr

/-- One entry of the transmit-timestamp queue (R60). -/
structure TsqEntry where
  stamp : T64
  messageType : Byte
  seqId : BitVec 16
deriving DecidableEq, Repr

/-- A delay exchange in progress (R59): times in ns as they become known. -/
structure Exchange where
  /-- Corrections of the Sync and its Follow_Up, in ns. -/
  corr : Int
  syncSeq : BitVec 16
  t1 : Option T64
  t2 : Option T64
  reqSeq : BitVec 16
  t3 : Option T64
  /-- Receive time of the Delay_Resp, less its correction. -/
  t4 : Option Int
deriving DecidableEq, Repr

/-- PTP on the field network (R55, R58 to R61). -/
structure Ptp where
  /-- R58: port role. -/
  role : PtpRole
  /-- R55: selected master, as its last Announce described it. -/
  master : Option Announce
  /-- R55: grandmaster held before Holdover began. -/
  held : Option (BitVec 64)
  /-- R55: TCLK count of the last Sync from the master. -/
  lastSync : Option Nat
  /-- R55: logMessageInterval of the master's last Sync. -/
  advertised : Option Int
  /-- R58: TCLK count of the last Announce. -/
  lastAnnounce : Option Nat
  /-- R59: exchange in progress. -/
  exch : Exchange
  /-- R59: TCLK count at which the Sync burst of a new master ends. -/
  burstEnd : Option Nat
  /-- R59: TCLK count of the last Delay_Req queued. -/
  lastReq : Nat
  /-- R58: TCLK count of the last Announce queued. -/
  lastAnn : Nat
  /-- R49: T64 multiple at which the next Sync is launched. -/
  nextSyncT64 : T64
  /-- Sequence IDs of the messages sent. -/
  syncSeq : BitVec 16
  reqSeq : BitVec 16
  annSeq : BitVec 16
  /-- R60: transmit-timestamp queue, oldest first, 16 at most. -/
  tsq : List TsqEntry
deriving DecidableEq, Repr

/-! ## Field network and TLX -/

/-- The order classes of R321. -/
inductive TxClass where
  | ptpEvent | ptpGeneral | timeLaunched | tlxResponse | tlxEvent | identify
deriving DecidableEq, Repr

/-- A frame waiting for the segment (R321). -/
structure TxFrame where
  cls : TxClass
  /-- Destination, Ethertype and payload, without source address, padding and FCS (R323). -/
  bytes : Bytes
  /-- messageType and sequenceId of a PTP event frame (R60). -/
  event : Option (Byte × BitVec 16)
  /-- Session slot that a response or notification belongs to. -/
  session : Option (Fin 32)
deriving DecidableEq, Repr

/-- A time-launched frame (R49, R322, R323). -/
structure TlFrame where
  launch : T64
  bytes : Bytes
  /-- TCLK count of its release. -/
  released : Option Nat
  /-- Reported late once. -/
  late : Bool
  /-- sequenceId when it is the module's own Sync (R49). -/
  sync : Option (BitVec 16)
deriving DecidableEq, Repr

/-- PLCA (R311 to R318), beside the members of 0x1100 and 0x1101. -/
structure Plca where
  /-- R312: TCLK count at which the coordinator's 10 ms of listening ends. -/
  listenEnd : Option Nat
  /-- R312: a beacon was heard while listening. -/
  heard : Bool
  /-- R313: TCLK count of the last beacon, or of the start of waiting for one. -/
  lastBeacon : Nat
  /-- R314: opportunity counter k of the cycle. -/
  k : Nat
  /-- R313: node count the coordinator's cycles imply. -/
  seen : Nat
  /-- R317: silent opportunities of the cycle. -/
  silent : Nat
  /-- R317: a receive error occurred in the cycle. -/
  rxError : Bool
  /-- R318: the own opportunity of the cycle started with no carrier. -/
  ownClean : Bool
  /-- R318: a sample outside the bound was taken in the cycle. -/
  outside : Bool
  /-- R317: the last 16 deviation samples, newest first, in ppm. -/
  samples : List Rat
  /-- R311: node count, TO timer, max burst and burst timer in force since the last beacon. -/
  nodeCount : Nat
  toBits : Nat
  burst : Nat
  burstBits : Nat
  /-- R314: TCLK count at which the previous opportunity, or the beacon, ended. -/
  prevEnd : Nat
  /-- R316: the own opportunity of the cycle has been yielded and is left silent. -/
  yielded : Bool
  /-- R314: TCLK count of the start of the own opportunity in progress while nothing has been sent in it. -/
  ownOpen : Option Nat
deriving DecidableEq, Repr

/-- A held segmented write (R293, R334). -/
structure Pend where
  idx : Nat
  sub : Nat
  data : Bytes
  /-- TCLK count at which it is discarded. -/
  deadline : Nat
deriving DecidableEq, Repr

/-- An event subscription (R335). -/
structure Sub where
  handle : Fin 8
  idx : Nat
  sub : Nat
  periodic : Bool
  minMs : Nat
  periodMs : Nat
  /-- TCLK count of the last notification. -/
  lastSent : Option Nat
  /-- Value last seen or sent, for the change test. -/
  lastValue : Bytes
  /-- R335: the member has been committed since the last notification. -/
  dirty : Bool
deriving DecidableEq, Repr

/-- A notification without an acknowledge yet (R336). -/
structure Unacked where
  seq : BitVec 16
  bytes : Bytes
  /-- TCLK count at which it is sent again. -/
  retryAt : Nat
  tries : Nat
deriving DecidableEq, Repr

/-- Session states (R328). -/
inductive SessSt where
  | closed | authWait | opened
deriving DecidableEq, Repr

/-- One TLX session slot (R327 to R336). -/
structure Session where
  st : SessSt
  sid : BitVec 16
  src : TlxSrc
  role : Role
  /-- TCLK count at which the lease ends. -/
  leaseEnd : Nat
  challenge : BitVec 128
  /-- R332: transaction ID and PDU of the last request and response. -/
  last : Option (BitVec 16 × Bytes)
  pend : Option Pend
  /-- R333: copy of a value longer than 1,024 bytes. -/
  copy : Option Bytes
  subs : List Sub
  evSeq : BitVec 16
  unacked : List Unacked
deriving DecidableEq, Repr

/-- The USB service port (R451 to R454). -/
structure Usb where
  attached : Bool
  address : Nat
  configured : Bool
  testMode : Bool
  /-- ENDPOINT_HALT of 0x01 and 0x81. -/
  haltOut : Bool
  haltIn : Bool
  ctlQ : List Bytes
  bulkQ : List Bytes
deriving DecidableEq, Repr

/-! ## The Reeve, flash and supply -/

/-- What the Reeve reads of an image header (R441). -/
structure ImageHdr where
  version : BitVec 32
  ifMajor : Nat
  ifMinor : Nat
  ifMinPartner : Nat
  /-- Stepping or hardware-revision table. -/
  steppings : List Nat
deriving DecidableEq, Repr

/-- A flash bank (R440): its readable header, and whether it is valid under R444. -/
structure Bank where
  hdr : Option ImageHdr
  valid : Bool
deriving DecidableEq, Repr

/-- The SPI NOR flash (R440). -/
structure Flash where
  reeveA : Bank
  reeveB : Bank
  stewardA : Bank
  stewardB : Bank
  /-- Active bank of each target: false A, true B. -/
  activeReeve : Bool
  activeSteward : Bool
deriving DecidableEq, Repr

/-- Wear sums of a channel (R421), saved. -/
structure WearSums where
  /-- Equivalent hours, in units of 2^-64 s of AF. -/
  hEff : Nat
  /-- Operating seconds (R419). -/
  opSeconds : Nat
  sxg : Rat
  sxx : Rat
  sgg : Rat
  days : Nat
  /-- R419: wear-saving frequency, MHz. -/
  fWear : Nat
  /-- R431: the ring oscillators that have read outside their calibration, bit i. -/
  excluded : BitVec 16
deriving DecidableEq, Repr

/-- The saved state in the journal (R359): numeric members, and the members longer than 8 bytes. -/
structure Journal where
  mod : Dict
  chans : List Dict
  profile : Bytes
  accessKey : Option Bytes
  /-- R360: a restore takes effect at the next power-on. -/
  restore : Bool
  wear : List WearSums
deriving DecidableEq, Repr

/-- Values written at manufacture (R358 class factory). -/
structure Factory where
  serial : Bytes
  mac : BitVec 48
  hwRevision : Nat
  made : BitVec 32
  kekId : BitVec 32
  steppings : List Nat
deriving DecidableEq, Repr

/-- Firmware update (R447). -/
structure Update where
  /-- Image held in Reeve RAM, checked. -/
  held : Option ImageHdr
  /-- A bank is being written. -/
  writing : Bool
deriving DecidableEq, Repr

/-- The board manager (R35, R359, R400, R440). -/
structure Reeve where
  /-- The module has power (R436). -/
  powered : Bool
  /-- Reeve firmware is running (R35). -/
  running : Bool
  /-- Recovery with both banks invalid (R463). -/
  recovery : Bool
  /-- R443: the pair fallback has been used since power-on. -/
  pairUsed : Bool
  /-- R443: no channel has paired since the last Reeve boot. -/
  reviewing : Bool
  /-- R441: header and bank (false A, true B) of the Reeve image that runs. -/
  image : Option ImageHdr
  bank : Bool
  /-- R443: cause of the restart in progress. -/
  restartCause : Nat
  /-- R369: TCLK count at which power was lost. -/
  lostAt : Nat
  /-- R359: TCLK count by which a store falls due. -/
  saveDue : Option Nat
  journal : Journal
  flash : Flash
  factory : Factory
  update : Update
  /-- 0x2060:05. -/
  profile : Bytes
  /-- 0x1200:03, once set. -/
  accessKey : Option Bytes
  /-- 0x1040:02. -/
  tlHeld : Bytes
  /-- R369: calendar clock, TAI seconds, and the TCLK count at which it held them. -/
  calSec : Nat
  calAt : Nat
  /-- R368: TAI second at which the pending leap second takes effect. -/
  leapAt : Option Nat
  /-- R368: the same of a +1 set during an inserted second. -/
  leapNext : Option Nat
  /-- R400: rung 1 holds every ceiling at 600 MHz. -/
  supplyHold : Bool
  /-- R400: channels are down for undervoltage. -/
  underDown : Bool
  /-- R252: module service key. -/
  serviceKey : Option (BitVec 256)
  /-- R252, R253: its generation. -/
  serviceGen : BitVec 32
  /-- R419, R421: UTC date of the last daily wear step. -/
  wearDay : Word
deriving DecidableEq, Repr

/-! ## Module pins and alignment -/

/-- STOP_N and SYNC (R191, R192, R213). -/
structure Pins where
  /-- R213: TCLK count at which the Reeve releases STOP_N. -/
  stopNEnd : Option Nat
  /-- R247: TCLK count of the last falling edge. -/
  stopNLow : Option Nat
  /-- R247: the line has been found held low by a fault, and has not fallen again since. -/
  stopNStuck : Bool
  /-- R191: TCLK count of the captured rising edge of the pulse being measured. -/
  syncRise : Option Nat
  /-- R191: the pulse has been recognised as a stop. -/
  syncStop : Bool
  /-- R192: the pulse is ignored, having begun in the 1 µs after an origination. -/
  syncIgnored : Bool
  /-- R192: TCLK count at which a pulse to be originated begins, and its length in TCLK. -/
  outStart : Option (Nat × Nat)
  /-- R192: TCLK count at which the originated pulse ends. -/
  outEnd : Option Nat
  /-- R192: TCLK count at which repeating may resume. -/
  repeatFrom : Nat
  /-- R192: TCLK count at which the 1 µs ends. -/
  holdoffEnd : Option Nat
deriving DecidableEq, Repr

/-- Offset measurement by link round trip (R471). -/
structure Align where
  running : Bool
  /-- Exchange number of the next probe. -/
  x : Nat
  /-- Probe under way: t1, 0x3000:05 before it, TCLK count of the 10 µs limit. -/
  probe : Option (T64 × Word × Nat)
  /-- TCLK count at which the next probe falls due. -/
  nextProbe : Nat
  offs : List Int
  rts : List Int
  /-- The measurement of the first UP has been started. -/
  autoDone : Bool
deriving DecidableEq, Repr

/-! ## Channel: host port -/

/-- States of a channel (R438). -/
inductive ChanSt where
  | booting | ready | quarantine | computeDisabled | poweredDown
deriving DecidableEq, Repr

/-- A sealed block waiting for its write (R150, R260). -/
structure Block where
  seq : Word
  /-- Bytes 6–7. -/
  word67 : BitVec 16
  payload : Bytes
  /-- MSI-X vectors of completions that end in it (R288, R307). -/
  irq : Bool
  /-- Records in it, for the loss count (R153), and the T64 of the first and the last of them. -/
  records : Nat
  first : T64
  last : T64
  /-- The stream key it is sealed under. -/
  key : BitVec 256
deriving DecidableEq, Repr

/-- Ring registers of one kind (R153, R154, R233, R285, R287). -/
structure Ring where
  base : Word
  /-- LOG2_SIZE or LOG2_ENTRIES. -/
  size : BitVec 5
  head : BitVec 32
  tail : BitVec 32
  enable : Bool
  /-- R153: ENABLE rewritten to 1 while draining. -/
  reenable : Bool
  /-- CTRL bit 1. -/
  irqOnBlock : Bool
  active : Bool
  fault : Bool
  /-- STATUS bit 4: LOSS, TRUNC or SKIP. -/
  bit4 : Bool
  /-- STATUS bit 5 of the job ring: TAIL_ERR. -/
  tailErr : Bool
deriving DecidableEq, Repr

/-- A trace record inside the channel (R140, R141). -/
structure Rec where
  type : Byte
  unit : Byte
  code : BitVec 16
  /-- Full T64. -/
  t : T64
  payload : Word
  /-- R163: step epoch in which it was stamped. -/
  epoch : Nat
  /-- R147: owner of an owner-attributed record. -/
  owner : Option Slot
  /-- R147: source group bit; none for the module units. -/
  group : Option Nat
  /-- R148. -/
  privileged : Bool
  /-- R147: only to owners that may read counters. -/
  counters : Bool
  /-- R170: this copy goes to the faithful owner alone. -/
  only : Option Slot
deriving DecidableEq, Repr

/-- Accumulated drops of an owner (R156). -/
structure Loss where
  cause : BitVec 16
  count : Nat
  first : T64
  last : T64
deriving DecidableEq, Repr

/-- A run of withheld records (R148, R164): cause, first and last T64. -/
structure GapRun where
  cause : BitVec 16
  first : T64
  last : T64
deriving DecidableEq, Repr

/-- The trace stream of an owner (R150 to R153). -/
structure TraceStream where
  /-- Records of the open block, oldest first; empty: no block is open. -/
  recs : List Rec
  /-- Base in force (R144). -/
  base : T64
  /-- TCLK count of the first record of the open block. -/
  since : Nat
  sealedQ : List Block
  loss : List Loss
  gap : Option GapRun
  /-- R156: records that are never dropped and wait for room, oldest first, with what must follow each at once. -/
  wait : List (Rec × Option Rec)
  /-- T64 from which the stream has been silent with its ring enabled (R164), and the cause. -/
  silent : Option (BitVec 16 × T64)
  /-- T64 of the last record staged, or of the ring's enable (R164, R169). -/
  lastT : T64
  /-- No block is open and the last one was sealed because it was full (R152, R165). -/
  full : Bool
deriving DecidableEq, Repr

/-- A byte stream in blocks: results (R288) or decant records (R234). -/
structure ByteStream where
  /-- Payload bytes of the open block. -/
  buf : Bytes
  /-- First granule at which a record header begins in it. -/
  first : Option Nat
  since : Nat
  irq : Bool
  sealedQ : List Block
deriving DecidableEq, Repr

/-- Owner slot states (R248). -/
inductive SlotSt where
  | empty | keyed | retiring
deriving DecidableEq, Repr

/-- A key in a slot (R248, R253). -/
structure Key where
  key : BitVec 256
  gen : BitVec 32
  /-- Its stream key of R253. -/
  stream : BitVec 256
deriving DecidableEq, Repr

/-- One owner slot: key, rings and streams. -/
structure Owner where
  st : SlotSt
  key : Option Key
  pendKey : Option Key
  job : Ring
  result : Ring
  trace : Ring
  decant : Ring
  ts : TraceStream
  rs : ByteStream
  ds : ByteStream
  /-- TRACE_LOSS_COUNT. -/
  lost : BitVec 32
  /-- R99: next completion sequence. -/
  compSeq : BitVec 32
  /-- R234: next decant record sequence. -/
  decSeq : BitVec 32
deriving DecidableEq, Repr

/-- The mailbox (R291 to R295). -/
structure Mailbox where
  index : BitVec 26
  last : Bool
  busy : Bool
  done : Bool
  err : Bool
  abort : BitVec 32
  len : BitVec 13
  offset : BitVec 32
  seq : BitVec 16
  committed : BitVec 16
  valid : Bool
  total : BitVec 32
  data : Bytes
  pend : Option Pend
  /-- The operation in progress: true a write; and its answer once the server has one. -/
  op : Option (Bool × Option (BitVec 32))
  /-- TCLK count at which the operation started. -/
  since : Nat
  /-- R363: object and copy of the last read at offset 0. -/
  copy : Option (Nat × Nat × Bytes)
deriving DecidableEq, Repr

/-- An owner-window mirror (R296). -/
structure Mirror where
  index : BitVec 24
  busy : Bool
  done : Bool
  err : Bool
  abort : BitVec 32
  len : BitVec 9
  offset : BitVec 32
  total : BitVec 32
  data : Bytes
  /-- The answer of the operation in progress. -/
  answer : Option (BitVec 32)
  since : Nat
  copy : Option (Nat × Nat × Bytes)
deriving DecidableEq, Repr

/-- An MSI-X table entry (R290). -/
structure Vec where
  addr : Word
  data : BitVec 32
  masked : Bool
deriving DecidableEq, Repr

/-- The host port of a channel (R280 to R299). -/
structure HostPort where
  ready : Bool
  irqStatus : BitVec 7
  irqEnable : BitVec 7
  accessErr : BitVec 4
  resetCancel : BitVec 16
  tagFirst : BitVec 19
  tagCount : BitVec 19
  tagTag : BitVec 5
  tagErr : Bool
  mbx : Mailbox
  mir : Vector Mirror 16
  msix : Vector Vec 64
  pba : BitVec 64
  /-- R6, R278: latched _HI halves, by view address of the _LO. -/
  latches : List (Nat × BitVec 32)
  /-- R6: _LO values held aside. -/
  aside : List (Nat × BitVec 32)
  /-- R308: the internal link is down. -/
  linkDown : Bool
  /-- R460: a warm reset waits for the endpoint to be ready. -/
  warmWaits : Bool
deriving DecidableEq, Repr

/-! ## Channel: compute -/

/-- A plan slot (R91). -/
structure Plan where
  /-- 0 EMPTY, 1 LOADING, 2 READY, 3 UNLOADING. -/
  st : Nat
  id : Word
  owner : Slot
  cycles : Nat
  floor : Nat
  larder : Nat
  cellar : Nat
  splitCount : Nat
  splitIndex : Nat
  tiles : Nat
  hatchMask : BitVec 16
  inPorts : BitVec 4
  outPorts : BitVec 4
  source : Nat
  fmt : Byte
  count : Nat
  outBytes : Nat
  stepCount : Nat
  /-- Cellar byte address of the image (R91). -/
  at_ : Nat
  /-- Cellar pages the image lies in: first and count. -/
  page : Nat
  pages : Nat
  /-- Larder granules its sections fill (R78). -/
  grains : List Nat
  /-- R118: the register files that the load filled, of Stillroom 0 and of Stillroom 1. -/
  consts : List (BitVec 32) × List (BitVec 32)
  facts : ProgramFacts
deriving DecidableEq, Repr

/-- The load in progress (R91): what the command found in 0x8510. -/
structure LoadReq where
  slot : Fin 16
  off : Nat
  len : Nat
  owner : Slot
  /-- R267: the owner's key has been destroyed since; the image as the load reads it under that key, and the whitening key that
  fills its lines. -/
  image : Option (Bytes × BitVec 256)
deriving DecidableEq, Repr

/-- A job descriptor (R92). -/
structure Desc where
  plan : Fin 16
  arrival : Bool
  runLate : Bool
  irq : Bool
  port : Port
  tag : BitVec 32
  /-- launch, or A_open. -/
  t0 : T64
  /-- A_close. -/
  t1 : T64
  stream : Fin 16
deriving DecidableEq, Repr

/-- A queued or running job (R94 to R98). -/
structure Job where
  /-- The model's number of the job, by which frames name it. -/
  num : Nat
  owner : Slot
  desc : Desc
  running : Bool
  /-- Reservation, while it is held. -/
  resv : Option (Nat × Nat)
  /-- T64 at which a time-launched job comes due: its launch time, or S of a RUN_LATE job (R48, R94). -/
  launchAt : T64
  /-- Arrival stamp of the frame that an arrival-launched job has taken (R93). -/
  arrived : Option T64
  late : Bool
  /-- T64 of the first Loom cycle; 0 before the launch. -/
  launched : T64
  breach : Option Byte
  clip : Bool
  inShort : Bool
  inLong : Bool
  /-- R88: sample or element format of the frame that it has taken. -/
  inFmt : Byte
  /-- R99: elements of its input frame that have entered the Hatch, and bytes of padding still to follow. -/
  inTaken : Nat
  pad : Nat
  /-- First STILLROOM_CLIP and STILLROOM_NAN already sent. -/
  clipSent : Bool
  nanSent : Bool
  /-- R299: its completion is discarded. -/
  discard : Bool
  /-- Tiles that have entered the Slate so far. -/
  issued : Nat
  /-- TCLK count of the last retirement or of the launch (R225). -/
  progress : Nat
  /-- Payload bytes handed to the result writer. -/
  payload : Bytes
  /-- Decant points that have captured for this job. -/
  captured : List (Fin 8)
  /-- R231: bytes of each tensor that have entered their Hatch. -/
  made : List (BitVec 16 × Nat)
  /-- R146: LOOM_START has been emitted. -/
  begun : Bool
deriving DecidableEq, Repr

/-- One Slate entry (R97). -/
structure Tile where
  k : Nat
  cycle : Nat
  deadline : T64
  /-- Its deadline has passed (R97). -/
  missed : Bool
  /-- R80: what is left of its work, once a Hatch has held it. -/
  left : Option (List TileOp)
deriving DecidableEq, Repr

/-- A completion record (R99) waiting for its ring (R100). -/
structure Completion where
  slot : Slot
  tag : BitVec 32
  status : Byte
  code : Byte
  flags : Byte
  plan : Byte
  launch : T64
  result : T64
  payload : Bytes
  irq : Bool
  /-- T64 of the result is fixed when the record enters the stream (a job that never launched). -/
  never : Bool
deriving DecidableEq, Repr

/-- A frame being received on a port (R88). -/
structure RxFrame where
  stream : Fin 16
  kind : Byte
  length : Nat
  got : Nat
  seq : BitVec 32
  /-- The frame is being discarded. -/
  drop : Bool
  /-- Number of the job that consumes it. -/
  job : Option Nat
deriving DecidableEq, Repr

/-- A 256-byte receive slot that holds frame data on its way to a Hatch (R80, R82, R88). -/
structure RxSlot where
  /-- Number of the job that consumes it. -/
  job : Nat
  data : Bytes
  /-- The flit was the LAST of its frame. -/
  last : Bool
deriving DecidableEq, Repr

/-- A DATA flit kept for replay, and how often it has been sent again (R85, R86). -/
structure Sent where
  flit : Flit
  times : Nat
deriving DecidableEq, Repr

/-- A frame waiting to be sent on a port (R87). -/
structure TxData where
  stream : Fin 16
  /-- Bytes at hand and not yet sent: the header, or a whole probe. -/
  bytes : Bytes
  /-- Hatch that the rest comes from, and how many bytes are still to come. -/
  hatch : Option (Fin 16)
  need : Nat
  /-- Number of the sending job. -/
  job : Option Nat
  /-- No flit of it has been sent. -/
  fresh : Bool
  kind : Byte
  tag : BitVec 32
  owner : Option Slot
  total : Nat
deriving DecidableEq, Repr

/-- An RLink port (R84 to R88), beside the members of 0x8540 + p. -/
structure RPort where
  /-- R465: sender ID taken at the last change from DOWN to TRAIN. -/
  sender : BitVec 32
  /-- TCLK count at which DOWN was entered. -/
  downSince : Nat
  /-- Consecutive valid TS2 in CONFIRM. -/
  ts2 : Nat
  /-- Credits held for sending. -/
  credits : Nat
  /-- Receive slots the partner may still use. -/
  offered : Nat
  /-- Receive slots freed and not yet returned. -/
  freed : Nat
  txSeq : BitVec 16
  rxNext : BitVec 16
  /-- A NAK has been answered and the expected flit has not come (R85). -/
  nakked : Bool
  /-- A NAK is due. -/
  nakDue : Bool
  /-- Unacknowledged DATA flits, oldest first, 128 at most. -/
  replay : List Sent
  /-- Flits of the replay buffer still to be sent again. -/
  resend : List Flit
  /-- TCLK count of the last progress in the ack field. -/
  ackAt : Nat
  /-- Flits since the last IDLE. -/
  sinceIdle : Nat
  /-- R81: the last 58 bits that each lane's scrambler has put out. -/
  scram : List (BitVec 58)
  /-- Receive slots whose data waits for its job or its Hatch, oldest first. -/
  held : List RxSlot
  rx : Option RxFrame
  txq : List TxData
deriving DecidableEq, Repr

/-- A Loom (R75): the activation vector it has taken, and the sums of the columns computed so far. -/
structure Loom where
  acts : List (BitVec 16)
  afmt : Fmt
  /-- R180: multiply-accumulates not yet counted in LOOM_KILO_MAC. -/
  macs : Nat
  /-- The sums are 32-bit integers, else FP32 patterns. -/
  int : Bool
  sums : List (BitVec 32)
deriving DecidableEq, Repr

/-- A Stillroom (R110, R118, R119, R122): the row in flight and its per-lane accumulators. -/
structure Still where
  /-- Row use of the running job's plan whose row is in flight. -/
  use : Option Nat
  /-- Elements of the present pass taken, and whether it is the apply pass of a row recipe. -/
  taken : Nat
  second : Bool
  /-- The row has had a NaN (for row normalisation also an infinity), a clipped logit. -/
  spoilt : Bool
  clipped : Bool
  /-- Rows finished for the running job, by their row use. -/
  done : List Nat
  /-- R116: wide accumulators of the lanes: sign, 10-bit exponent, 30-bit mantissa. -/
  acc : List (BitVec 41)
  /-- R122: n, mean and m2 of the lanes, FP32. -/
  lanes : List (BitVec 32 × BitVec 32 × BitVec 32)
deriving DecidableEq, Repr

/-! ## Channel: observation -/

/-- Stocktake (R189 to R195), beside the members of 0x8202. -/
structure Stocktake where
  /-- 0 IDLE, 1 ARMED, 2 FROZEN. -/
  st : Nat
  gen : BitVec 16
  last : Nat
  t64Armed : Bool
  /-- R190, R201: the armed time was already past, or a step has crossed it. -/
  t64Late : Bool
  late : Bool
  missed : Bool
  freezeT64 : T64
  /-- TCLK count of the last freeze. -/
  at_ : Nat
  /-- R191: provisional freeze: its T64, TCLK count and the shadows it would commit. -/
  prov : Option (T64 × Nat × Dict)
  /-- R188, R193: register triggers on their way: TCLK count of the freeze edge, and whether it is the module freeze. -/
  pend : List (Nat × Bool)
  /-- R198: what selection and preset writes have replaced: TCLK count of the write, key, bits, value before it. -/
  before : List (Nat × Nat × Word × Word)
  /-- R182: TCLK count of the last gather. -/
  gatherAt : Nat
  /-- Shadows (R189): the members 0x8200 to 0x82A2 as they stood at the freeze. -/
  shadow : Dict
deriving DecidableEq, Repr

/-- A Daybook entry (R222). -/
structure DayEntry where
  event : BitVec 16
  unit : Byte
  flags : Byte
  seq : BitVec 32
  stamp : T64
  payload : Word
deriving DecidableEq, Repr

/-- The Daybook of one unit (R222): up to 64 entries, oldest first. -/
structure Daybook where
  entries : List DayEntry
  seq : BitVec 32
deriving DecidableEq, Repr

/-- An event on its way to the TIME-domain counters (R178). -/
structure CountItem where
  unit : Byte
  event : BitVec 16
  stamp : T64
  /-- 1 for an event; the amount of a quantity. -/
  amount : Nat
deriving DecidableEq, Repr

/-- The Chute (R150 to R172), beside the members of 0x8300. -/
structure Chute where
  /-- Source queues, by unit ID, oldest first, 32 records each. -/
  srcQ : List (Byte × List Rec)
  /-- R158: records held at their sources, oldest first. -/
  held : List Rec
  /-- R23, R146: the last stamp taken in each unit since the last load strobe; the value a unit sees never runs
  backwards between steps. -/
  stamps : List (Byte × T64)
  /-- R157: part of a CORE cycle of a hold not yet counted, in thousandths. -/
  heldPart : Nat
  /-- R155: token bucket, in ten-thousandths of a byte, and the TCLK count at which it was last filled. -/
  tokens : Nat
  tokensAt : Nat
  /-- R159: TCLK count since which the faithful owner's ring has been FULL. -/
  fullSince : Option Nat
  /-- R172: DISTURBED locks the mode until a channel reset. -/
  locked : Bool
  /-- R68, R163: load strobes whose global timestamp the Chute has still to write: the epoch that ended, and the T64 after it. -/
  steps : List (Nat × T64)
  /-- R144: TCLK count of the last PERIODIC. -/
  periodicAt : Nat
  /-- R169: trace mode 0 has been written and takes effect once every sealed block has been written. -/
  closing : Bool
  /-- R183, R184: records of the Tallyman not yet handed to the Chute, oldest first. -/
  tally : List Rec
  /-- R272: the GCM engine has failed. -/
  gcmFault : Bool
deriving DecidableEq, Repr

/-- Stop and release (R208 to R215), beside the members of 0x8400. -/
structure Stop where
  /-- 0 RUNNING, 1 STOPPING, 2 STOPPED. -/
  st : Nat
  source : Nat
  drained : Bool
  timeArmed : Bool
  /-- R209: the armed stop time was already past, or a step has crossed it. -/
  timeLate : Bool
  /-- R208: an event equal to 0x8400:08 has occurred. -/
  eventHit : Bool
  /-- R208: T64 of the stop's request, and its TCLK count. -/
  since : T64
  at_ : Nat
  /-- R215, R238: blocks that the DMA engines may be writing as the stop arrives: one of each ring kind is written whole. -/
  flight : List (RingKind × Slot)
  /-- R298: Cellar address at which the last BAR4 write ended. -/
  mover : Nat
deriving DecidableEq, Repr

/-- The sixteen states of the IEEE 1149.1 TAP controller (R216). -/
inductive TapSt where
  | testLogicReset | runTestIdle
  | selectDr | captureDr | shiftDr | exit1Dr | pauseDr | exit2Dr | updateDr
  | selectIr | captureIr | shiftIr | exit1Ir | pauseIr | exit2Ir | updateIr
deriving DecidableEq, Repr

/-- Test port and Seal fuse (R216 to R221). -/
structure Tap where
  ctl : TapSt
  ir : Byte
  /-- R26, R243: TAP_TRST_N is low, or open: the test logic is held in reset. -/
  trst : Bool
  /-- The shift register between TDI and TDO, SCAN_OUT's chain apart. -/
  sr : BitVec 32
  /-- Bits shifted since SCAN_OUT was selected. -/
  shifts : Nat
  /-- R217: bits by which the closed scan chain stands shifted. -/
  rot : Nat
  partialScan : Bool
  refused : Bool
  /-- 0 intact, 1 blowing, 2 blown. -/
  fuse : Nat
  /-- TCLK count at which the guard lapses. -/
  guardEnd : Option Nat
  /-- TCLK count at which the blow is sensed. -/
  senseAt : Option Nat
deriving DecidableEq, Repr

/-- A hang being handled (R226). -/
structure Hang where
  cause : Nat
  unit : Byte
  detect : T64
  /-- Its TCLK count. -/
  at_ : Nat
  seq : BitVec 32
  /-- R253, R261, R270: stream key of the service key in force for the dump. -/
  service : Option (BitVec 256)
  /-- R228: 0x8402:04 at the hang. -/
  epoch : Nat
  /-- R228: slots that held a job and a key at the hang. -/
  slots : List Slot
  /-- A dump is being written (R226, R227). -/
  dumping : Bool
deriving DecidableEq, Repr

/-- A decant point (R229). -/
structure DecantPt where
  matchTag : Bool
  plan : Fin 16
  owner : Slot
  count : BitVec 16
  tensor : BitVec 16
  step : BitVec 32
  tag : BitVec 32
  off : BitVec 32
  len : BitVec 12
  armed : Bool
  err : BitVec 4
  remaining : BitVec 16
  /-- R231: the capture for the running job: whether the window has been reached, whether the Loom's buffer was taken, so that it
  is skipped, its stamp, and what the buffer holds of it. -/
  capturing : Bool
  skip : Bool
  stamp : T64
  got : Bytes
deriving DecidableEq, Repr

/-- A capture waiting in a Loom's buffer (R231). -/
structure Capture where
  owner : Slot
  /-- Record header fields, as bytes 0 to 63 with the sequence still 0. -/
  header : Bytes
  data : Bytes
deriving DecidableEq, Repr

/-- Hang, dump and decant state of a channel. -/
structure Debug where
  hang : Option Hang
  /-- R227: length of the dump that each of the two dump slots holds; its bytes lie in the Cellar. -/
  dumps : List (Option Nat)
  /-- R227: first Cellar page of the two dump slots while they are reserved. -/
  area : Option Nat
  /-- Slot of the next dump. -/
  nextDump : Nat
  /-- Dumps written since the module's boot (R228). -/
  dumpSeq : BitVec 32
  lastReset : T64
  pts : Vector DecantPt 8
  caps : List (Option Capture)
deriving DecidableEq, Repr

/-! ## Channel: power -/

/-- A frequency change in progress (R410 to R414). -/
inductive Change where
  /-- A rise waiting for its voltage: f_new, TCLK count at which it settles. -/
  | voltage (fNew : Nat) (at_ : Nat)
  /-- A glide: f_old, f_new, TCLK count of its start. -/
  | glide (fOld fNew start : Nat)
  /-- A relock: f_old, f_new, TCLK count of the switch to the safe clock, lock seen, retries. -/
  | relock (fOld fNew start : Nat) (lockedAt : Option Nat) (retries : Nat)
deriving DecidableEq, Repr

/-- The Governor of a channel (R403 to R417). -/
structure Gov where
  fP : Nat
  below : Nat
  /-- R404: duty throttle m, and periods for which P_pred(600) has met the limit. -/
  duty : Nat
  dutyOk : Nat
  /-- R405, R406: share in force; none before the first one arrives. -/
  share : Option Nat
  newShare : Option Nat
  change : Option Change
  /-- R413: TCLK count at which a voltage fall or return settles. -/
  fallAt : Option Nat
  /-- R416: die and HBM throttles in force. -/
  dieHot : Option Nat
  hbmHot : Bool
  hotRefresh : Bool
  /-- R417: two die sensors or the HBM sensor failed: 1000 MHz until the next channel reset. -/
  sensorHold : Bool
  /-- R185: sensors that have failed: bits 0 to 5 die, 6 HBM. -/
  failed : BitVec 7
  /-- R409: the floor is breached. -/
  breached : Bool
  /-- R416: TCLK counts of the thermal trips, newest first. -/
  trips : List Nat
  /-- R416: TCLK count since which every sensor has read below 85 °C. -/
  coolSince : Option Nat
  /-- Hottest valid die temperature, 0.1 °C, over the last second (R421). -/
  hottest : Int
  wear : WearSums
  /-- R403: channel power of the last period, mW. -/
  milliwatts : Nat
deriving DecidableEq, Repr

/-! ## The channel and the module -/

/-- A hold of a Hatch (R80, R180): full, of its producer, or empty, of its consumer. -/
structure Hold where
  hatch : Fin 16
  full : Bool
  /-- TCLK count and stamp of its start. -/
  since : Nat
  stamp : T64
  /-- It has been reported: a stop has ended it. -/
  told : Bool
deriving DecidableEq, Repr

/-- One comparator's hardware beside its dictionary members (R41, R47). -/
structure Cmp where
  /-- Target in force (R41, R45): the written target, then each next boundary. -/
  target : T32
  /-- TCLK count at which arming completes. -/
  arming : Option Nat
  /-- TCLK count at which the pulse in progress ends. -/
  pulseEnd : Option Nat
  /-- R65: a forward step crossed the target by this much. -/
  crossed : Option Nat
deriving DecidableEq, Repr

/-- One Larder line's owner tag (R258). -/
structure LarderTag where
  line : Nat
  slot : Slot
deriving DecidableEq, Repr

/-- One channel. -/
structure Channel where
  st : ChanSt
  reason : Byte
  /-- The Steward image runs and serves the dictionary (R450). -/
  steward : Bool
  /-- R457: a bank request was committed while BOOTING. -/
  rebootWanted : Bool
  /-- R446: Steward bank whose check set the reason, or that runs: false A, true B. -/
  bank : Bool
  /-- R442: header of the Steward image that runs, or of the bank whose check set the reason. -/
  image : Option ImageHdr
  /-- R272: the XTS engine, the whitening engine, has failed since the last channel reset. -/
  xtsFault : Bool
  whtFault : Bool
  /-- Numeric members of the channel block, key offset × 256 + subindex. -/
  dict : Dict
  cmp : Vector Cmp 5
  ports : Vector RPort 4
  plans : Vector Plan 16
  /-- R91: plan load in progress. -/
  loading : Option LoadReq
  hatches : Vector Bytes 16
  looms : Vector Loom 2
  stills : Vector Still 2
  jobs : List Job
  /-- Number of the next job. -/
  jobNum : Nat
  slate : List Tile
  /-- R80, R180: holds of a Hatch in force, and those that a stop has ended. -/
  holds : List Hold
  /-- R92: slot whose descriptor fetch is in progress. -/
  fetching : Option Slot
  /-- R92: slot served last. -/
  served : Slot
  completions : List Completion
  owners : Vector Owner 16
  /-- R271: slot whose key is being installed. -/
  install : Option Slot
  /-- R256: number of the channel key drawn at this power-on. -/
  chanKey : Nat
  cellar : List Host.Cell
  /-- R254: pages tagged other than 0x1F: page and tag, by page. -/
  tags : List (Nat × Nat)
  /-- R257: tagging run in progress: first page, count, tag. -/
  tagging : Option (Nat × Nat × Nat)
  larder : List Host.Cell
  larderTags : List LarderTag
  host : HostPort
  chute : Chute
  countQ : List CountItem
  st0 : Stocktake
  daybooks : List (Byte × Daybook)
  stop : Stop
  tap : Tap
  dbg : Debug
  gov : Gov
deriving DecidableEq, Repr

/-- The whole module. -/
structure State where
  /-- Commands waiting, first in, first out. -/
  pending : List Instr
  /-- The model's own counter of free values drawn. -/
  free : Nat
  /-- The model's own log of what has left the module, newest last. -/
  out : List Out
  /-- TCLK edges counted by hardware time; no step of T64 touches it. -/
  tclk : Nat
  time : TimeBase
  ptp : Ptp
  /-- Numeric members of 0x1000 to 0x4FFF, key index × 256 + subindex. -/
  dict : Dict
  plca : Plca
  txq : List TxFrame
  tlq : List TlFrame
  sessions : Vector Session 32
  nextSid : BitVec 16
  usb : Usb
  reeve : Reeve
  pins : Pins
  align : Align
  /-- R299: PERST_N is asserted. -/
  perst : Bool
  /-- R308: the upstream link is up. -/
  upLink : Bool
  /-- R34: forwarded accesses that wait for the Reeve, oldest first: a channel's mailbox, or the mirror of a window. -/
  reeveQ : List (Chan × Option Slot)
  /-- R19, R82: flits in flight on the board ring, oldest first, with the port that they reach. -/
  ring : List (Chan × Port × Flit)
  chans : Vector Channel 8
deriving DecidableEq, Repr


/-! ## The state after power-on reset

The module right after its own power-on (R433, R436): Reeve firmware running, journal read and empty, T64 loaded
from the calendar clock, every channel BOOTING and about to load its Steward, PERST_N low.  What the manual leaves
without a reset value is named in the log (entries 4 to 9). -/

/-- TAI seconds at which the calendar clock restarts (R369). -/
def calendarRestart : Nat := 946684832

/-- A ring after reset (R285, R287, R299): not enabled, with the reset value of its SIZE register. -/
def Ring.reset (size : BitVec 5) : Ring :=
  { base := 0, size := size, head := 0, tail := 0, enable := false, reenable := false, irqOnBlock := false,
    active := false, fault := false, bit4 := false, tailErr := false }

def TraceStream.reset : TraceStream :=
  { recs := [], base := 0, since := 0, sealedQ := [], loss := [], gap := none, wait := [], silent := none,
    lastT := 0, full := false }

def ByteStream.reset : ByteStream :=
  { buf := [], first := none, since := 0, irq := false, sealedQ := [] }

/-- An owner slot after power-on: EMPTY, keyless (R248, R433). -/
def Owner.reset : Owner :=
  { st := .empty, key := none, pendKey := none, job := Ring.reset 6, result := Ring.reset 16,
    trace := Ring.reset 16, decant := Ring.reset 16, ts := TraceStream.reset, rs := ByteStream.reset, ds := ByteStream.reset,
    lost := 0, compSeq := 0, decSeq := 0 }

def Mailbox.reset : Mailbox :=
  { index := 0, last := true, busy := false, done := false, err := false, abort := 0, len := 0, offset := 0,
    seq := 0, committed := 0, valid := false, total := 0, data := [], pend := none, op := none, since := 0,
    copy := none }

def Mirror.reset : Mirror :=
  { index := 0, busy := false, done := false, err := false, abort := 0, len := 0, offset := 0, total := 0,
    data := [], answer := none, since := 0, copy := none }

/-- The host port after power-on: the endpoint not yet ready (R449), every MSI-X vector masked (R290). -/
def HostPort.reset : HostPort :=
  { ready := false, irqStatus := 0, irqEnable := 0, accessErr := 0, resetCancel := 0, tagFirst := 0,
    tagCount := 1, tagTag := 0x1F, tagErr := false, mbx := Mailbox.reset, mir := Vector.replicate 16 Mirror.reset,
    msix := Vector.replicate 64 { addr := 0, data := 0, masked := true }, pba := 0, latches := [], aside := [],
    linkDown := false, warmWaits := false }

def ProgramFacts.none : ProgramFacts :=
  { pairs := [], rows := [], consts0 := 0, hatches := [], shift := 0, tiles := [], tensors := [] }

/-- An EMPTY plan slot (R91). -/
def Plan.reset : Plan :=
  { st := 0, id := 0, owner := 0, cycles := 0, floor := 0, larder := 0, cellar := 0, splitCount := 0,
    splitIndex := 0, tiles := 0, hatchMask := 0, inPorts := 0, outPorts := 0, source := 0, fmt := 0, count := 0,
    outBytes := 0, stepCount := 0, at_ := 0, page := 0, pages := 0, grains := [], consts := ([], []),
    facts := ProgramFacts.none }

/-- A port DOWN, with 10 ms passed in DOWN at power-on counted from the reset (R84). -/
def RPort.reset : RPort :=
  { sender := 0, downSince := 0, ts2 := 0, credits := 0, offered := 0, freed := 0, txSeq := 0, rxNext := 0, nakked := false,
    nakDue := false, replay := [], resend := [], ackAt := 0, sinceIdle := 0, scram := [0, 0, 0, 0], held := [], rx := none,
    txq := [] }

def Loom.reset : Loom := { acts := [], afmt := .int8, macs := 0, int := false, sums := [] }

def Still.reset : Still :=
  { use := none, taken := 0, second := false, spoilt := false, clipped := false, done := [], acc := [], lanes := [] }

def DecantPt.reset : DecantPt :=
  { matchTag := false, plan := 0, owner := 0, count := 0, tensor := 0, step := 0, tag := 0, off := 0, len := 1,
    armed := false, err := 0, remaining := 0, capturing := false, skip := false, stamp := 0, got := [] }

def Cmp.reset : Cmp := { target := 0, arming := none, pulseEnd := none, crossed := none }

def WearSums.reset : WearSums :=
  { hEff := 0, opSeconds := 0, sxg := 0, sxx := 0, sgg := 0, days := 0, fWear := 1500, excluded := 0 }

/-- The Governor after power-up: no throttle, no change under way. -/
def Gov.reset : Gov :=
  { fP := 1500, below := 0, duty := 0, dutyOk := 0, share := none, newShare := none, change := none, fallAt := none,
    dieHot := none, hbmHot := false, hotRefresh := false, sensorHold := false, failed := 0, breached := false,
    trips := [], coolSince := none, hottest := 0, wear := WearSums.reset, milliwatts := 0 }

def Stocktake.reset : Stocktake :=
  { st := 0, gen := 0, last := 0, t64Armed := false, t64Late := false, late := false, missed := false, freezeT64 := 0, at_ := 0,
    prov := none, pend := [], before := [], gatherAt := 0, shadow := [] }

def Chute.reset : Chute :=
  { srcQ := [], held := [], stamps := [], heldPart := 0, tokens := 163840000, tokensAt := 0, fullSince := none, locked := false,
    steps := [], periodicAt := 0, closing := false, tally := [], gcmFault := false }

def Stop.reset : Stop :=
  { st := 0, source := 0, drained := false, timeArmed := false, timeLate := false, eventHit := false, since := 0, at_ := 0,
    flight := [], mover := 0 }

/-- The test port in Test-Logic-Reset with IDCODE selected; the Seal intact as manufactured (R216, R220). -/
def Tap.reset : Tap :=
  { ctl := .testLogicReset, ir := 1, trst := true, sr := 0, shifts := 0, rot := 0, partialScan := false, refused := false,
    fuse := 0, guardEnd := none, senseAt := none }

def Debug.reset : Debug :=
  { hang := none, dumps := [none, none], area := none, nextDump := 0, dumpSeq := 0, lastReset := 0,
    pts := Vector.replicate 8 DecantPt.reset, caps := [none, none] }

/-- A channel at the start of its boot after a power-on (R433). -/
def Channel.reset : Channel :=
  { st := .booting, reason := 0, steward := false, rebootWanted := false, bank := false,
    image := none, xtsFault := false, whtFault := false, dict := [],
    cmp := Vector.replicate 5 Cmp.reset, ports := Vector.replicate 4 RPort.reset,
    plans := Vector.replicate 16 Plan.reset, loading := none, hatches := Vector.replicate 16 [],
    looms := Vector.replicate 2 Loom.reset, stills := Vector.replicate 2 Still.reset,
    jobs := [], jobNum := 0, slate := [], holds := [], fetching := none, served := 15,
    completions := [], owners := Vector.replicate 16 Owner.reset, install := none, chanKey := 0, cellar := [],
    tags := [], tagging := none, larder := [], larderTags := [], host := HostPort.reset, chute := Chute.reset,
    countQ := [], st0 := Stocktake.reset, daybooks := [], stop := Stop.reset, tap := Tap.reset,
    dbg := { Debug.reset with lastReset := BitVec.ofNat 64 (calendarRestart * 1000000000) }, gov := Gov.reset }

def TimeBase.reset : TimeBase :=
  { t64 := BitVec.ofNat 64 (calendarRestart * 1000000000), prev := BitVec.ofNat 64 (calendarRestart * 1000000000), frac := 0, incr := 0x200000000, pendIncr := none,
    afterStrobe := none, pendStep := none, ppsLoad := none, load := none, frozen := none, nextSlot := 64,
    epoch := 0, ts := .freeRun, allowance := false, meas := [], decided := false, goodRun := 0, integral := 0,
    lastMeas := none, offsets := [], delays := [], refQualified := false, lastPps := none, tcxoFailed := false }

def Ptp.reset : Ptp :=
  { role := .listening, master := none, held := none, lastSync := none, advertised := none, lastAnnounce := none,
    exch := { corr := 0, syncSeq := 0, t1 := none, t2 := none, reqSeq := 0, t3 := none, t4 := none }, burstEnd := none, lastReq := 0,
    lastAnn := 0, nextSyncT64 := 0, syncSeq := 0, reqSeq := 0, annSeq := 0, tsq := [] }

def Plca.reset : Plca :=
  { listenEnd := none, heard := false, lastBeacon := 0, k := 0, seen := 0, silent := 0, rxError := false,
    ownClean := false, outside := false, samples := [], nodeCount := 8, toBits := 32, burst := 0, burstBits := 128,
    prevEnd := 0, yielded := false, ownOpen := none }

/-- A session slot CLOSED (R328). -/
def Session.reset : Session :=
  { st := .closed, sid := 0, src := .network 0, role := .reader, leaseEnd := 0, challenge := 0, last := none,
    pend := none, copy := none, subs := [], evSeq := 0, unacked := [] }

def Usb.reset : Usb :=
  { attached := false, address := 0, configured := false, testMode := false, haltOut := false, haltIn := false,
    ctlQ := [], bulkQ := [] }

/-- A journal that holds nothing: a module restored to factory settings (R12, R360). -/
def Journal.reset : Journal :=
  { mod := [], chans := List.replicate 8 [], profile := [], accessKey := none, restore := false,
    wear := List.replicate 8 WearSums.reset }

/-- The factory data the model names (log entry 6): serial number, MAC address, revision, date, stepping 1. -/
def Factory.reset : Factory :=
  { serial := [0x52, 0x46, 0x38, 0x2D, 0x30, 0x30, 0x30, 0x30, 0x31], mac := 0x020000000001, hwRevision := 1,
    made := 0x07E90101, kekId := 1, steppings := List.replicate 8 1 }

/-- The images the model names (log entry 6): bank A of each target as in the bench note of R463; bank B empty. -/
def Flash.reset : Flash :=
  { reeveA := { hdr := some { version := 0x02070031, ifMajor := 2, ifMinor := 4, ifMinPartner := 1,
                              steppings := [1] }, valid := true },
    reeveB := { hdr := none, valid := false },
    stewardA := { hdr := some { version := 0x02060112, ifMajor := 2, ifMinor := 3, ifMinPartner := 2,
                                steppings := [1] }, valid := true },
    stewardB := { hdr := none, valid := false },
    activeReeve := false, activeSteward := false }

def Reeve.reset : Reeve :=
  { powered := true, running := true, recovery := false, pairUsed := false, reviewing := true,
    image := Flash.reset.reeveA.hdr, bank := false, restartCause := 0, lostAt := 0, saveDue := none,
    journal := Journal.reset, flash := Flash.reset, factory := Factory.reset,
    update := { held := none, writing := false }, profile := [], accessKey := none, tlHeld := [],
    calSec := calendarRestart, calAt := 0, leapAt := none, leapNext := none, supplyHold := false, underDown := false, serviceKey := none, serviceGen := 0,
    wearDay := 0 }

def Pins.reset : Pins :=
  { stopNEnd := none, stopNLow := none, stopNStuck := false, syncRise := none, syncStop := false, syncIgnored := false,
    outStart := none, outEnd := none, repeatFrom := 0, holdoffEnd := none }

def Align.reset : Align :=
  { running := false, x := 0, probe := none, nextProbe := 0, offs := [], rts := [], autoDone := false }

/-- The module right after its power-on reset.  0x2040:05 reads CAL_LOST, since the calendar clock has restarted
(R369); every other member holds its default. -/
def State.reset : State :=
  { pending := [], free := 0, out := [], tclk := 0, time := TimeBase.reset, ptp := Ptp.reset,
    dict := [(0x2040 * 256 + 5, 1)], plca := Plca.reset, txq := [], tlq := [],
    sessions := Vector.replicate 32 Session.reset, nextSid := 1, usb := Usb.reset, reeve := Reeve.reset,
    pins := Pins.reset, align := Align.reset, perst := true, upLink := false, reeveQ := [],
    ring := [],    chans := Vector.replicate 8 Channel.reset }

end Sys2Proof.Machine
end

