-- ==== Sys2Proof/Machine/Ops.lean ====
section
/-! DEFINITION. The named operations over State that every family shares: channels, dictionary members, the log of
what leaves the module, free values, the clock of the model, and little-endian packing (R7). -/

namespace Sys2Proof.Machine

open Sys2Proof

/-! ## Clock units -/

/-- TCLK edges in n nanoseconds (2 ns each, R21). -/
def tclkOfNs (n : Nat) : Nat := n / 2
/-- TCLK edges in n microseconds. -/
def tclkOfUs (n : Nat) : Nat := n * 500
/-- TCLK edges in n milliseconds. -/
def tclkOfMs (n : Nat) : Nat := n * 500000
/-- TCLK edges in n seconds. -/
def tclkOfS (n : Nat) : Nat := n * 500000000

/-! ## Bytes -/

/-- The n low bytes of a number, least significant first (R7). -/
def leBytes (n v : Nat) : Bytes :=
  match n with
  | 0 => []
  | k + 1 => BitVec.ofNat 8 v :: leBytes k (v / 256)

/-- The n low bytes of a number, most significant first (R7). -/
def beBytes (n v : Nat) : Bytes := (leBytes n v).reverse

/-- The number whose bytes, least significant first, are given. -/
def leNat (b : Bytes) : Nat :=
  match b with
  | [] => 0
  | x :: r => x.toNat + 256 * leNat r

/-- The number whose bytes, most significant first, are given. -/
def beNat (b : Bytes) : Nat := leNat b.reverse

/-- n zero bytes. -/
def zeros (n : Nat) : Bytes := List.replicate n 0

/-- Bytes [off, off + n) of a run. -/
def slice (b : Bytes) (off n : Nat) : Bytes := (b.drop off).take n

/-- A little-endian field of n bytes at an offset. -/
def leField (b : Bytes) (off n : Nat) : Nat := leNat (slice b off n)

/-- A big-endian field of n bytes at an offset. -/
def beField (b : Bytes) (off n : Nat) : Nat := beNat (slice b off n)

/-- Zeros appended up to length n. -/
def padTo (b : Bytes) (n : Nat) : Bytes := b ++ zeros (n - b.length)

/-- Trace payload: the value at byte offset `at_` of bytes 8–15 (R140), so byte 8 is bits 7 to 0. -/
def payAt (at_ v : Nat) : Word := w (v * 2 ^ (8 * (at_ - 8)))

/-- Bit i of a value. -/
def bitOf (v : Word) (i : Nat) : Bool := v.getLsbD i

/-- A Bool as a value. -/
def wBool (b : Bool) : Word := if b then 1 else 0

/-! ## Channels -/

/-- Channel c. -/
def State.chan (s : State) (c : Chan) : Channel := s.chans[c.val]

/-- The state with channel c replaced. -/
def State.setChan (s : State) (c : Chan) (ch : Channel) : State := { s with chans := s.chans.set c.val ch }

/-- The state with channel c changed by f. -/
def State.modChan (s : State) (c : Chan) (f : Channel → Channel) : State := s.setChan c (f (s.chan c))

/-- Channels 0 to 7. -/
def allChans : List Chan := [0, 1, 2, 3, 4, 5, 6, 7]

/-- Owner slots 0 to 15. -/
def allSlots : List Slot := List.finRange 16

/-- RLink ports 0 to 3. -/
def allPorts : List Port := [0, 1, 2, 3]

/-- f applied to each channel in turn. -/
def State.eachChan (s : State) (f : State → Chan → State) : State := allChans.foldl f s

/-- Owner slot s of a channel. -/
def Channel.owner (ch : Channel) (s : Slot) : Owner := ch.owners[s.val]

def Channel.setOwner (ch : Channel) (s : Slot) (o : Owner) : Channel := { ch with owners := ch.owners.set s.val o }

def Channel.modOwner (ch : Channel) (s : Slot) (f : Owner → Owner) : Channel := ch.setOwner s (f (ch.owner s))

def Channel.port (ch : Channel) (p : Port) : RPort := ch.ports[p.val]

def Channel.setPort (ch : Channel) (p : Port) (r : RPort) : Channel := { ch with ports := ch.ports.set p.val r }

def Channel.modPort (ch : Channel) (p : Port) (f : RPort → RPort) : Channel := ch.setPort p (f (ch.port p))

def Channel.plan (ch : Channel) (i : Fin 16) : Plan := ch.plans[i.val]

def Channel.setPlan (ch : Channel) (i : Fin 16) (p : Plan) : Channel := { ch with plans := ch.plans.set i.val p }

/-! ## Numeric dictionary members (R351, R379) -/

/-- A channel member's value: as listed, else its default. -/
def Channel.get (ch : Channel) (off sub : Nat) : Word :=
  (ch.dict.find (dkey off sub)).getD (dfltOf (DictMap.lookupChannel off sub))

def Channel.put (ch : Channel) (off sub : Nat) (v : Word) : Channel := { ch with dict := ch.dict.put (dkey off sub) v }

def Channel.nat (ch : Channel) (off sub : Nat) : Nat := (ch.get off sub).toNat

/-- A BOOL member is 1. -/
def Channel.on (ch : Channel) (off sub : Nat) : Bool := ch.get off sub != 0

def Channel.orBits (ch : Channel) (off sub : Nat) (m : Word) : Channel := ch.put off sub (ch.get off sub ||| m)

def Channel.clearBits (ch : Channel) (off sub : Nat) (m : Word) : Channel :=
  ch.put off sub (ch.get off sub &&& ~~~m)

/-- A count member moved on by n, modulo its width (R381). -/
def Channel.count (ch : Channel) (off sub n : Nat) (bits : Nat := 32) : Channel :=
  ch.put off sub (w ((ch.nat off sub + n) % 2 ^ bits))

/-- A module member's value: as listed, else its default. -/
def State.mget (s : State) (idx sub : Nat) : Word :=
  (s.dict.find (dkey idx sub)).getD (dfltOf (DictMap.lookupModule idx sub))

def State.mput (s : State) (idx sub : Nat) (v : Word) : State := { s with dict := s.dict.put (dkey idx sub) v }

def State.mnat (s : State) (idx sub : Nat) : Nat := (s.mget idx sub).toNat

def State.mon (s : State) (idx sub : Nat) : Bool := s.mget idx sub != 0

def State.morBits (s : State) (idx sub : Nat) (m : Word) : State := s.mput idx sub (s.mget idx sub ||| m)

def State.mclearBits (s : State) (idx sub : Nat) (m : Word) : State := s.mput idx sub (s.mget idx sub &&& ~~~m)

def State.mcount (s : State) (idx sub n : Nat) (bits : Nat := 32) : State :=
  s.mput idx sub (w ((s.mnat idx sub + n) % 2 ^ bits))

/-- A channel member of the state. -/
def State.cget (s : State) (c : Chan) (off sub : Nat) : Word := (s.chan c).get off sub

def State.cnat (s : State) (c : Chan) (off sub : Nat) : Nat := (s.chan c).nat off sub

def State.con (s : State) (c : Chan) (off sub : Nat) : Bool := (s.chan c).on off sub

def State.cput (s : State) (c : Chan) (off sub : Nat) (v : Word) : State := s.modChan c (·.put off sub v)

def State.corBits (s : State) (c : Chan) (off sub : Nat) (m : Word) : State := s.modChan c (·.orBits off sub m)

def State.cclearBits (s : State) (c : Chan) (off sub : Nat) (m : Word) : State := s.modChan c (·.clearBits off sub m)

def State.ccount (s : State) (c : Chan) (off sub n : Nat) (bits : Nat := 32) : State :=
  s.modChan c (·.count off sub n bits)

/-- R359: a saved member has been committed: SAVE_PENDING is set and a store falls due within 500 ms. -/
def State.markSaved (s : State) : State :=
  let s := s.morBits 0x1020 2 1
  { s with reeve := { s.reeve with saveDue := some (s.reeve.saveDue.getD (s.tclk + tclkOfMs 500)) } }

/-- A saved module member changed by the device (R358, R359). -/
def State.mputSaved (s : State) (idx sub : Nat) (v : Word) : State := (s.mput idx sub v).markSaved

/-- A saved channel member changed by the device (R358, R359). -/
def State.cputSaved (s : State) (c : Chan) (off sub : Nat) (v : Word) : State := (s.cput c off sub v).markSaved

/-! ## Outputs and free values -/

/-- Something leaves the module. -/
def State.emit (s : State) (o : Out) : State := { s with out := s.out ++ [o] }

/-- The state after one free value has been drawn. -/
def State.drawn (s : State) : State := { s with free := s.free + 1 }

/-- A whole number of [lo, hi] that the manual leaves open. -/
def State.freeIn (s : State) (lo hi : Nat) : Nat := lo + Config.freeNat s.free % (hi - lo + 1)

/-! ## Readings that several families share -/

/-- Module T64 (R39: one value in all nine counters). -/
def State.now (s : State) : T64 := s.time.t64

/-- Channel T32 (R8). -/
def State.now32 (s : State) : T32 := s.time.t64.low

/-- The CORE clock in MHz (R29); 0 before the channel first sets it. -/
def Channel.freq (ch : Channel) : Nat := ch.nat 0x700 1

/-- The Observatory is powered: switched on, and no reset holds it (R138, R434). -/
def Channel.observed (ch : Channel) : Bool := ch.on 0x300 1 && ch.steward

/-- The CORE frequency at a TCLK count: a glide moves it by 25 MHz per µs, in steps of 1 MHz (R411). -/
def Channel.liveFreq (ch : Channel) (tclk : Nat) : Nat :=
  match ch.gov.change with
  | some (.glide fOld fNew start) =>
    let d := (tclk - start) / 20
    if fOld ≤ fNew then min fNew (fOld + d) else max fNew (fOld - d)
  | _ => ch.freq

/-- The channel is STOPPING or STOPPED (R210). -/
def Channel.stopped (ch : Channel) : Bool := ch.stop.st != 0

/-- CORE runs on the safe clock (R410 to R414). -/
def Channel.onSafeClock (ch : Channel) : Bool :=
  match ch.gov.change with
  | some (.relock ..) => true
  | _ => false

/-- The CORE clock in force (R32, R157, R411): the 400 MHz safe clock in a relock and before the first start. -/
def Channel.coreMHz (ch : Channel) (tclk : Nat) : Nat :=
  if ch.onSafeClock || ch.freq == 0 then 400 else ch.liveFreq tclk

/-- The answer of a dictionary write made by a row of its own. -/
def State.answer (s : State) (code : BitVec 32) : State := s.emit (.answer code)

/-! ## What has to stand for a command to be an event of the machine

A command that cannot occur in the present state (no power, no channel, its condition not met) is no event: the state
stays as it is (log entry 2). -/

/-- The module has power and is not held in reset by a TCXO failure (R35, R436). -/
def State.live (s : State) : Bool := s.reeve.powered && !s.time.tcxoFailed

/-- f, while the module has power. -/
def State.whenLive (s : State) (f : State → Host.Outcome State Fault Refusal) : Host.Outcome State Fault Refusal :=
  if s.live then f s else .next s

/-- The Reeve firmware runs, outside recovery (R35, R463). -/
def State.reeveUp (s : State) : Bool := s.live && s.reeve.running && !s.reeve.recovery

/-- f, while the Reeve serves. -/
def State.whenReeve (s : State) (f : State → Host.Outcome State Fault Refusal) : Host.Outcome State Fault Refusal :=
  if s.reeveUp then f s else .next s

/-- Channel c has power. -/
def State.chanUp (s : State) (c : Chan) : Bool := s.live && (s.chan c).st != .poweredDown

/-- f, while channel c has power. -/
def State.whenChan (s : State) (c : Chan) (f : State → Host.Outcome State Fault Refusal) :
    Host.Outcome State Fault Refusal :=
  if s.chanUp c then f s else .next s

/-- The channel has power and its endpoint answers (R281, R299, R449). -/
def State.hostUp (s : State) (c : Chan) : Bool :=
  s.chanUp c && !s.perst && s.upLink && (s.chan c).host.ready && !(s.chan c).host.linkDown

/-- f, while the host reaches the registers of channel c. -/
def State.whenHost (s : State) (c : Chan) (f : State → Host.Outcome State Fault Refusal) :
    Host.Outcome State Fault Refusal :=
  if s.hostUp c then f s else .next s

/-- A T64 in ns as an integer. -/
def tInt (t : T64) : Int := t.toNat

/-- Signed difference of two T64, in ns. -/
def tDiff (a b : T64) : Int := (a - b).toInt

end Sys2Proof.Machine
end

