-- ==== Sys2Proof/Machine/Crypto.lean ====
section
/-! DEFINITION. The standard algorithms that the manual names: IEEE 802.3 CRC-32, AES-256, AES-GCM (R249, R260), AES
CMAC and the KDF of R253, and XTS-AES-256 (R256). -/

namespace Sys2Proof.Machine

open Sys2Proof

/-! ## CRC-32 -/

/-- One bit of the reflected CRC. -/
def crcBit (r : Nat) : Nat := if r % 2 = 1 then Nat.xor (r / 2) 0xEDB88320 else r / 2

/-- n bits. -/
def crcBits (n r : Nat) : Nat :=
  match n with
  | 0 => r
  | k + 1 => crcBits k (crcBit r)

/-- IEEE 802.3 CRC-32 of a run of bytes. -/
def crc32 (b : Bytes) : BitVec 32 :=
  BitVec.ofNat 32 (Nat.xor (b.foldl (fun r x => crcBits 8 (Nat.xor r x.toNat)) 0xFFFFFFFF) 0xFFFFFFFF)

/-! ## AES-256 -/

/-- Multiplication by x in GF(2^8), on numbers below 256. -/
def xtimes (a : Nat) : Nat := Nat.xor (2 * a) (2 * a / 256 * 0x11B)

/-- Multiplication by x in GF(2^8). -/
def xtime (a : Byte) : Byte := BitVec.ofNat 8 (xtimes a.toNat)

/-- Multiplication in GF(2^8) by the low n bits of b. -/
def gmul (n a b : Nat) : Nat :=
  match n with
  | 0 => 0
  | k + 1 => Nat.xor (b % 2 * a) (gmul k (xtimes a) (b / 2))

def gfMul (a b : Byte) : Byte := BitVec.ofNat 8 (gmul 8 a.toNat b.toNat)

/-- The inverse in GF(2^8), a^254; 0 for 0. -/
def gfInv (a : Byte) : Byte :=
  let a2 := gfMul a a
  let a3 := gfMul a2 a
  let a6 := gfMul a3 a3
  let a12 := gfMul a6 a6
  let a15 := gfMul a12 a3
  let a30 := gfMul a15 a15
  let a60 := gfMul a30 a30
  let a120 := gfMul a60 a60
  let a126 := gfMul a120 a6
  let a127 := gfMul a126 a
  gfMul a127 a127

/-- The S-box. -/
def sbox (a : Byte) : Byte :=
  let i := gfInv a
  i ^^^ i.rotateLeft 1 ^^^ i.rotateLeft 2 ^^^ i.rotateLeft 3 ^^^ i.rotateLeft 4 ^^^ 0x63

/-- The S-box from its output back. -/
def sboxInv (a : Byte) : Byte := gfInv (a.rotateLeft 1 ^^^ a.rotateLeft 3 ^^^ a.rotateLeft 6 ^^^ 0x05)

/-- Two runs combined by exclusive or. -/
def xorBytes (a b : Bytes) : Bytes := a.zipWith (· ^^^ ·) b

/-- The next schedule word: word i of 60 from those before it, newest first. -/
def nextWord (ws : List Bytes) (i : Nat) (rcon : Byte) : Bytes :=
  let prev := ws.getD 0 []
  let old := ws.getD 7 []
  let t :=
    if i % 8 = 0 then xorBytes ((prev.drop 1 ++ prev.take 1).map sbox) [rcon, 0, 0, 0]
    else if i % 8 = 4 then prev.map sbox
    else prev
  xorBytes old t

/-- Words 8 + (52 − n) and up, newest first. -/
def expandKey (n : Nat) (rcon : Byte) (ws : List Bytes) : List Bytes :=
  match n with
  | 0 => ws
  | k + 1 =>
    let i := 60 - (k + 1)
    expandKey k (if i % 8 = 0 then xtime rcon else rcon) (nextWord ws i rcon :: ws)

/-- A run cut into pieces of n bytes. -/
def chunksN (k n : Nat) (b : Bytes) : List Bytes :=
  match k with
  | 0 => []
  | j + 1 => b.take n :: chunksN j n (b.drop n)

/-- The pieces of a run, the last one possibly short. -/
def chunks (n : Nat) (b : Bytes) : List Bytes := chunksN ((b.length + n - 1) / n) n b

/-- The 15 round keys of a 32-byte key. -/
def roundKeys (key : Bytes) : List Bytes :=
  let ws := (expandKey 52 1 (chunks 4 key).reverse).reverse
  chunks 16 ws.flatten

/-- ShiftRows on the column-major state; `back` undoes it. -/
def shiftRows (back : Bool) (b : Bytes) : Bytes :=
  (List.range 16).map fun i =>
    let c := i / 4
    let r := i % 4
    b.getD (4 * ((if back then c + 4 - r else c + r) % 4) + r) 0

/-- One column times the matrix row (a, b, c, d) rotated. -/
def mixColumn (m : Bytes) (col : Bytes) : Bytes :=
  (List.range 4).map fun r =>
    (List.range 4).foldl (fun acc j => acc ^^^ gfMul (m.getD ((j + 4 - r) % 4) 0) (col.getD j 0)) 0

def mixColumns (m : Bytes) (b : Bytes) : Bytes := (chunks 4 b).flatMap (mixColumn m)

/-- AES-256 encryption of one block under expanded keys. -/
def aesBlock (ks : List Bytes) (b : Bytes) : Bytes :=
  let s := xorBytes b (ks.getD 0 [])
  let s := ((ks.drop 1).take 13).foldl (fun s k => xorBytes (mixColumns [2, 3, 1, 1] (shiftRows false (s.map sbox))) k) s
  xorBytes (shiftRows false (s.map sbox)) (ks.getD 14 [])

/-- AES-256 decryption of one block. -/
def aesUnblock (ks : List Bytes) (b : Bytes) : Bytes :=
  let s := (shiftRows true (xorBytes b (ks.getD 14 []))).map sboxInv
  let s := ((ks.drop 1).take 13).reverse.foldl
    (fun s k => (shiftRows true (mixColumns [14, 11, 13, 9] (xorBytes s k))).map sboxInv) s
  xorBytes s (ks.getD 0 [])

/-- The 32 bytes of a 256-bit key: byte 0 is the least significant (R7). -/
def keyBytes (k : BitVec 256) : Bytes := leBytes 32 k.toNat

/-- The 256-bit key of 32 bytes. -/
def keyOf (b : Bytes) : BitVec 256 := BitVec.ofNat 256 (leNat b)

/-! ## GCM -/

/-- One step of the GF(2^128) product: the bit of x, the running v, the result z. -/
def ghashStep (p : Nat × Nat) (bit : Bool) : Nat × Nat :=
  let z := if bit then Nat.xor p.1 p.2 else p.1
  (z, if p.2 % 2 = 1 then Nat.xor (p.2 / 2) (0xE1 * 2 ^ 120) else p.2 / 2)

/-- Product in the field of GCM, blocks as big-endian numbers. -/
def ghashMul (x h : Nat) : Nat :=
  ((List.range 128).foldl (fun p i => ghashStep p (x.testBit (127 - i))) (0, h)).1

/-- GHASH of zero-padded data and its lengths. -/
def ghash (h : Nat) (aad ct : Bytes) : Nat :=
  let blocks := (chunks 16 aad).map (padTo · 16) ++ (chunks 16 ct).map (padTo · 16) ++
    [beBytes 8 (8 * aad.length) ++ beBytes 8 (8 * ct.length)]
  blocks.foldl (fun y b => ghashMul (Nat.xor y (beNat b)) h) 0

/-- The key stream from counter block (nonce, c). -/
def gctr (ks : List Bytes) (nonce : Bytes) (c : Nat) (b : Bytes) : Bytes :=
  ((chunks 16 b).zipIdx.flatMap fun p => xorBytes p.1 (aesBlock ks (nonce ++ beBytes 4 (c + p.2))))

/-- The tag over additional data and ciphertext. -/
def gcmTag (ks : List Bytes) (nonce aad ct : Bytes) : Bytes :=
  let h := beNat (aesBlock ks (zeros 16))
  xorBytes (beBytes 16 (ghash h aad ct)) (aesBlock ks (nonce ++ beBytes 4 1))

/-- AES-GCM-256: ciphertext and 16-byte tag. -/
def gcmSeal (key nonce aad pt : Bytes) : Bytes × Bytes :=
  let ks := roundKeys key
  let ct := gctr ks nonce 2 pt
  (ct, gcmTag ks nonce aad ct)

/-- The plaintext when the tag verifies. -/
def gcmOpen (key nonce aad ct tag : Bytes) : Option Bytes :=
  let ks := roundKeys key
  if gcmTag ks nonce aad ct = tag then some (gctr ks nonce 2 ct) else none

/-! ## CMAC and the KDF of R253 -/

/-- Doubling in GF(2^128). -/
def cmacDouble (x : Nat) : Nat :=
  let y := 2 * x % 2 ^ 128
  if 2 ^ 127 ≤ x then Nat.xor y 0x87 else y

/-- AES-256-CMAC of a message. -/
def cmac (key msg : Bytes) : Bytes :=
  let ks := roundKeys key
  let k1 := cmacDouble (beNat (aesBlock ks (zeros 16)))
  let cs := if msg.isEmpty then [[]] else chunks 16 msg
  let last := cs.getLastD []
  let last := if last.length = 16 then xorBytes last (beBytes 16 k1)
    else xorBytes (padTo (last ++ [0x80]) 16) (beBytes 16 (cmacDouble k1))
  (cs.dropLast ++ [last]).foldl (fun y b => aesBlock ks (xorBytes y b)) (zeros 16)

/-- A subkey of R253: label, channel byte, slot byte, generation. -/
def subkey (key : BitVec 256) (label : Bytes) (chan slot : Byte) (gen : BitVec 32) : BitVec 256 :=
  let ctx := [chan, slot] ++ leBytes 4 gen.toNat
  let out := fun (i : Byte) => cmac (keyBytes key) ([i] ++ label ++ [0] ++ ctx ++ [1, 0])
  keyOf (out 1 ++ out 2)

def labelData : Bytes := [0x52, 0x46, 0x38, 0x2D, 0x58, 0x54, 0x53, 0x2D, 0x44]
def labelTweak : Bytes := [0x52, 0x46, 0x38, 0x2D, 0x58, 0x54, 0x53, 0x2D, 0x54]
def labelGcm : Bytes := [0x52, 0x46, 0x38, 0x2D, 0x47, 0x43, 0x4D]
def labelWht : Bytes := [0x52, 0x46, 0x38, 0x2D, 0x57, 0x48, 0x54]

/-- Key check of R253. -/
def keyCheck (key : BitVec 256) : BitVec 32 :=
  BitVec.ofNat 32 (leNat ((aesBlock (roundKeys (keyBytes key)) (zeros 16)).take 4))

/-- The stream key of slot s of channel c under an installed key. -/
def streamKey (c : Chan) (s : Slot) (k : Key) : BitVec 256 :=
  subkey k.key labelGcm (BitVec.ofNat 8 c.val) (BitVec.ofNat 8 s.val) k.gen

/-! ## XTS (R256) -/

/-- The tweak times x, as a little-endian number. -/
def xtsNext (t : Nat) : Nat :=
  let y := 2 * t % 2 ^ 128
  if 2 ^ 127 ≤ t then Nat.xor y 0x87 else y

/-- Blocks of a data unit under successive tweaks. -/
def xtsBlocks (f : Bytes → Bytes) (t : Nat) (bs : List Bytes) : Bytes :=
  match bs with
  | [] => []
  | b :: r =>
    let tw := leBytes 16 t
    xorBytes (f (xorBytes b tw)) tw ++ xtsBlocks f (xtsNext t) r

/-- XTS-AES-256 of one 64-byte unit: encryption, or decryption where `back`. -/
def xts (back : Bool) (dataKey tweakKey : BitVec 256) (unit : Nat) (b : Bytes) : Bytes :=
  let ks := roundKeys (keyBytes dataKey)
  let t := leNat (aesBlock (roundKeys (keyBytes tweakKey)) (leBytes 16 unit))
  xtsBlocks (if back then aesUnblock ks else aesBlock ks) t (chunks 16 b)

end Sys2Proof.Machine
end

