-- ==== Sys2Proof/Machine/Calendar.lean ====
section
/-! DEFINITION. The calendar (R365 to R369): leap years, DATE checks, and the derivation of UTC from T64. -/

namespace Sys2Proof.Machine

open Sys2Proof

/-- Leap years of R365. -/
def leapYear (y : Nat) : Bool := (y % 4 == 0 && y % 100 != 0) || y % 400 == 0

/-- Days of month m, 0 for no month (R365). -/
def monthDays (leap : Bool) (m : Nat) : Nat :=
  match m with
  | 1 | 3 | 5 | 7 | 8 | 10 | 12 => 31
  | 4 | 6 | 9 | 11 => 30
  | 2 => if leap then 29 else 28
  | _ => 0

/-- Fields of a DATE (R8). -/
def dateYear (d : Word) : Nat := d.toNat / 65536 % 65536
def dateMonth (d : Word) : Nat := d.toNat / 256 % 256
def dateDay (d : Word) : Nat := d.toNat % 256

/-- A DATE from its fields (R8). -/
def mkDate (y m d : Nat) : Word := w (y * 65536 + m * 256 + d)

/-- Month and day exist in the year as written, or in a leap year for a recurring date (R365, R366). -/
def dateDayOk (d : Word) : Bool :=
  let leap := dateYear d == 0xFFFF || leapYear (dateYear d)
  1 ≤ dateDay d && dateDay d ≤ monthDays leap (dateMonth d)

/-- The occurrence of a DATE in year y: of a recurring one the given month and day, 29 February on 28 February in a common year
(R366); a DATE with a year of its own occurs in that year alone. -/
def occurrence (d : Word) (y : Nat) : Option Word :=
  if dateYear d ≠ 0xFFFF then (if dateYear d = y then some d else none)
  else if dateMonth d = 2 ∧ dateDay d = 29 ∧ leapYear y = false then some (mkDate y 2 28)
  else some (mkDate y (dateMonth d) (dateDay d))

/-- Date of a day count since 1970-01-01 (R367). -/
def civilOfDay (day : Int) : Int × Int × Int :=
  let z := day + 719468
  let era := z / 146097
  let doe := z - era * 146097
  let yoe := (doe - doe / 1460 + doe / 36524 - doe / 146096) / 365
  let doy := doe - (365 * yoe + yoe / 4 - yoe / 100)
  let mp := (5 * doy + 2) / 153
  let d := doy - (153 * mp + 2) / 5 + 1
  let m := if mp < 10 then mp + 3 else mp - 9
  (yoe + era * 400 + (if m ≤ 2 then 1 else 0), m, d)

/-- DATE of a day count: 0 before 2000-01-01, 2399-12-31 after the last valid day (R367). -/
def dateOfDay (day : Int) : Word :=
  let (y, m, d) := civilOfDay day
  if y < 2000 then 0
  else if 2399 < y then mkDate 2399 12 31
  else mkDate y.toNat m.toNat d.toNat

/-- UTC seconds since 1970-01-01 of a T64 under a TAI offset (R367). -/
def utcSeconds (t : T64) (off : Int) : Int := (t.toNat / 1000000000 : Nat) - off

/-- TAI offset 0x3007:00. -/
def State.taiOffset (s : State) : Int := (s.mget 0x3007 0).toInt

/-- Pending leap second 0x3009:00. -/
def State.leapPending (s : State) : Int := (s.mget 0x3009 0).toInt

/-- TAI second of a T64. -/
def taiSecond (t : T64) : Nat := t.toNat / 1000000000

/-- TAI second at which a leap second p set at TAI second sec takes effect: the end of the inserted second, or the
instant of 23:59:59 (R368). -/
def leapDue (sec : Nat) (off p : Int) : Nat :=
  let u := (sec : Int) - off
  let d := u / 86400
  if p = 1 then ((d + 1) * 86400 + off + 1).toNat
  else
    let t := d * 86400 + 86399
    (if u < t then t + off else t + 86400 + off).toNat

/-- The inserted second 23:59:60 of a pending +1 is running (R368). -/
def State.inserting (s : State) : Bool :=
  match s.reeve.leapAt with
  | some a => s.leapPending == 1 && a == taiSecond s.now + 1
  | none => false

/-- UTC DATE and second of day from the Reeve's T64 (R367); in an inserted second, 86,400 of the ending date. -/
def State.utcNow (s : State) : Word × Nat :=
  let u := utcSeconds s.now s.taiOffset
  if s.inserting then (dateOfDay (u / 86400 - 1), 86400)
  else (dateOfDay (u / 86400), (u % 86400).toNat)

/-- The pending leap second takes a value (R368): a +1 set in an inserted second waits for the following day. -/
def State.setLeap (s : State) (p : Int) : State :=
  let sec := taiSecond s.now
  if s.inserting && p == 1 then
    { s with reeve := { s.reeve with leapNext := some (leapDue (sec + 1) (s.taiOffset + 1) 1) } }
  else
    let s := s.mput 0x3009 0 (wInt p)
    { s with
      reeve := { s.reeve with leapAt := if p = 0 then none else some (leapDue sec s.taiOffset p), leapNext := none } }

/-- 0x3007:00 takes a value; a pending leap second acts at the first instant of the new scale (R368, R376). -/
def State.setTaiOffset (s : State) (off : Int) : State :=
  if off = s.taiOffset then s
  else
    let s := s.mputSaved 0x3007 0 (wInt off)
    let p := s.leapPending
    { s with reeve := { s.reeve with leapAt := if p = 0 then none else some (leapDue (taiSecond s.now) off p) } }

/-- LEAP_SECOND (R368): 0x3007:00 moves by the pending value, which returns to 0. -/
def State.leap (s : State) : State :=
  let p := s.leapPending
  let s := s.mputSaved 0x3007 0 (wInt (s.taiOffset + p))
  match s.reeve.leapNext with
  | some a => { s with reeve := { s.reeve with leapAt := some a, leapNext := none } }
  | none => { s.mput 0x3009 0 0 with reeve := { s.reeve with leapAt := none } }

/-- LEAP_SECOND: due once T64 has reached the instant that the pending value names. -/
def execLeapSecond (s : State) : Host.Outcome State Fault Refusal :=
  s.whenReeve fun s =>
    match s.reeve.leapAt with
    | some a => if a ≤ taiSecond s.now then .next s.leap else .next s
    | none => .next s

/-- TAI seconds of the calendar clock now (R369). -/
def State.calendar (s : State) : Nat := s.reeve.calSec + (s.tclk - s.reeve.calAt) / tclkOfS 1

/-- The calendar clock is set. -/
def State.setCalendar (s : State) (sec : Nat) : State :=
  { s with reeve := { s.reeve with calSec := sec, calAt := s.tclk } }

/-- CALENDAR_SYNC (R369): once a second outside FREE_RUN the calendar clock is set from T64. -/
def execCalendarSync (s : State) : Host.Outcome State Fault Refusal :=
  s.whenReeve fun s => if s.time.ts = .freeRun then .next s else .next (s.setCalendar (taiSecond s.now))

end Sys2Proof.Machine
end

