-- ==== Sys2Proof/Machine/Irq.lean ====
section
/-! DEFINITION. MSI-X vectors and the interrupt status of a channel (R274, R290, R291), and ring readiness
(R153, R154, R285, R287). -/

namespace Sys2Proof.Machine

open Sys2Proof

/-- Vector v of channel c is raised: its message leaves, or its pending bit is set while it is masked (R291). -/
def State.raiseVector (s : State) (c : Chan) (v : Nat) : State :=
  match (s.chan c).host.msix[v]? with
  | none => s
  | some e =>
    if e.masked then s.modChan c fun ch => { ch with host := { ch.host with pba := ch.host.pba ||| w (2 ^ v) } }
    else s.emit (.msix c v e.addr e.data)

/-- Bit b of CHAN_IRQ_STATUS is set by its cause; vector 49 + b is raised when it changes from 0 to 1 while
enabled (R291). -/
def State.raiseIrq (s : State) (c : Chan) (b : Fin 7) : State :=
  let h := (s.chan c).host
  if h.irqStatus.getLsbD b then s
  else
    let s := s.modChan c fun ch =>
      { ch with host := { ch.host with irqStatus := ch.host.irqStatus ||| BitVec.ofNat 7 (2 ^ b.val) } }
    if h.irqEnable.getLsbD b then s.raiseVector c (49 + b.val) else s

/-- CHAN_IRQ_STATUS bits. -/
abbrev irqMbx : Fin 7 := 0
abbrev irqStop : Fin 7 := 1
abbrev irqHang : Fin 7 := 2
abbrev irqStocktake : Fin 7 := 3
abbrev irqState : Fin 7 := 4
abbrev irqRingFault : Fin 7 := 5
abbrev irqKey : Fin 7 := 6

/-! ## Rings -/

/-- Size of a block ring in bytes, 2^LOG2_SIZE (R153). -/
def Ring.bytes (r : Ring) : Nat := 2 ^ r.size.toNat

/-- LOG2_SIZE of a block ring is outside 16 to 30. -/
def Ring.sizeErr (r : Ring) : Bool := r.size.toNat < 16 || 30 < r.size.toNat

/-- LOG2_ENTRIES of the job ring is outside 6 to 12. -/
def Ring.jobSizeErr (r : Ring) : Bool := r.size.toNat < 6 || 12 < r.size.toNat

/-- FULL: (HEAD + 4096) mod size = TAIL. -/
def Ring.full (r : Ring) : Bool := (r.head.toNat + 4096) % r.bytes == r.tail.toNat

/-- HEAD moved past one block. -/
def Ring.advance (r : Ring) : Ring := { r with head := BitVec.ofNat 32 ((r.head.toNat + 4096) % r.bytes) }

/-- Descriptors waiting in a job ring (R286). -/
def Ring.waiting (r : Ring) : Nat := (r.tail.toNat + 2 ^ r.size.toNat - r.head.toNat) % 2 ^ r.size.toNat

/-- The slot holds a key (R248). -/
def Owner.keyed (o : Owner) : Bool := o.key.isSome

/-- R153: a block ring becomes ACTIVE when enabled, with SIZE_ERR, NO_KEY and FAULT clear. -/
def Ring.mayRun (r : Ring) (keyed : Bool) : Bool := r.enable && !r.sizeErr && keyed && !r.fault

/-- NO_RESULT_RING (R285, R289): the result ring is not ACTIVE, or its ENABLE is 0. -/
def Owner.noResultRing (o : Owner) : Bool := !o.result.active || !o.result.enable

/-- R285: the job ring is ACTIVE. -/
def Owner.jobActive (o : Owner) : Bool :=
  o.job.enable && !o.job.fault && !o.job.jobSizeErr && o.keyed && o.st != .retiring && !o.noResultRing

/-- The ring routes new data: ACTIVE and not draining after a write of 0 (R153). -/
def Ring.routing (r : Ring) : Bool := r.active && r.enable

end Sys2Proof.Machine
end

