-- ==== Sys2Proof/Machine/Event.lean ====
section
/-! DEFINITION. An event of a unit: its stamp (R23), its Daybook entry (R222), its count (R178), the stop it may
cause (R208) and its way into the unit's source queue (R138 to R148, R156, R158). -/

namespace Sys2Proof.Machine

open Sys2Proof

/-- Event numbers of R180 that have a fixed counter, in table order: counter j counts the j-th. -/
def architecturalEvents : List Nat :=
  [0x0100, 0x0101, 0x0102, 0x0103, 0x0104, 0x0105, 0x0106, 0x0107, 0x0108,
   0x0200, 0x0201, 0x0202, 0x0203, 0x0204, 0x0205, 0x0206,
   0x0300, 0x0340, 0x0341,
   0x0400, 0x0401, 0x0402, 0x0403, 0x0440, 0x0480, 0x0481,
   0x0500, 0x0501, 0x0502, 0x0503, 0x0540, 0x0580] ++
  [0x0600, 0x0601, 0x0602, 0x0680,
   0x0700, 0x0701, 0x0702, 0x0780, 0x0781,
   0x0840, 0x0841, 0x0880, 0x0881,
   0x0900, 0x0901, 0x0902, 0x0903, 0x0940, 0x0941, 0x0980, 0x0981,
   0x0A00, 0x0A01, 0x0A02, 0x0A03, 0x0A04, 0x0A05, 0x0A80,
   0x0B00, 0x0B01, 0x0B02, 0x0B03] ++
  [0x0B80, 0x0B81,
   0x0C00, 0x0C01, 0x0C02, 0x0C03, 0x0C04,
   0x0D00, 0x0D01, 0x0D02, 0x0D03, 0x0D04,
   0x0E00, 0x0E01, 0x0E02, 0x0E03, 0x0E04, 0x0E05, 0x0E06, 0x0E80,
   0x0F00, 0x0F01, 0x0F02, 0x0F03,
   0x1000, 0x1001, 0x1002, 0x1003, 0x1004, 0x1100, 0x1101, 0x1102]

/-- The common events of class 0x00 (R173). -/
def commonEvents : List Nat := [0x0080, 0x0081, 0x0082, 0x0083]

/-- The unit class of a unit ID (R173). -/
def unitClass (u : Nat) : Nat :=
  if u = 0x00 then 0x01 else if u = 0x01 then 0x02 else if u = 0x02 then 0x03
  else if u = 0x10 ∨ u = 0x11 then 0x04 else if u = 0x18 ∨ u = 0x19 then 0x05
  else if u = 0x20 then 0x06 else if u = 0x21 then 0x07
  else if 0x28 ≤ u ∧ u ≤ 0x37 then 0x08 else if 0x38 ≤ u ∧ u ≤ 0x3B then 0x09
  else if u = 0x3C then 0x0A else if u = 0x3D then 0x0B else if u = 0x3E then 0x0C
  else if u = 0x40 then 0x0D else if u = 0x41 then 0x0E else if u = 0x42 then 0x0F
  else if u = 0xF0 then 0x10 else 0x11

/-- The number can be counted by a block of unit u (R176): class 0x00 or the block's class, and in the table. -/
def selectable (u num : Nat) : Bool :=
  commonEvents.contains num || (architecturalEvents.contains num && num / 256 == unitClass u)

/-- A number that a stop event may name (R209): in the table, with a low byte below 0x80. -/
def stoppable (num : Nat) : Bool := architecturalEvents.contains num && num % 256 < 0x80

/-- TCLK, MHz. -/
def tclkMHz : Nat := 500

/-- The clock, in MHz, whose 2 to 3 cycles are the lag of the stamps of unit u (R23, R32): TCLK for the HOST domain, 875
LINK, 800 STEW, 1600 MEM, else CORE; none in TIME.  Unit 0x20, the Larder, stands in no row of the crossing table: CORE is
the model's choice (log entry 110). -/
def lagMHz (ch : Channel) (tclk u : Nat) : Option Nat :=
  let cls := unitClass u
  if cls = 0x01 ∨ cls = 0x0C then none                              -- TBU, Tallyman: TIME
  else if cls = 0x10 ∨ cls = 0x11 then none                         -- Reeve and Porter: the Reeve's own T64
  else if cls = 0x07 then some 1600                                 -- MEM
  else if cls = 0x09 then some 875                                  -- LINK
  else if cls = 0x0A ∨ cls = 0x0B then some tclkMHz                 -- HOST
  else if cls = 0x0D ∨ cls = 0x0E ∨ cls = 0x0F then some 800        -- STEW
  else some (ch.coreMHz tclk)

/-- Smallest and largest t − s of R23 in whole ns, with the increment in force: L ≤ t − s < L + I for an L of 2 to 3 cycles
of f MHz. -/
def lagNs (incr : Word) (f : Nat) : Nat × Nat :=
  ((2000 + f - 1) / f, (3000 * 2 ^ 32 + f * incr.toNat + f * 2 ^ 32 - 1) / (f * 2 ^ 32) - 1)

/-- The stamp of an event of unit u of channel c that occurs now (R23), and the state after it is taken; in the hold of a
step every other domain sees the frozen value itself (R31). -/
def State.stamp (s : State) (c : Chan) (u : Nat) : T64 × State :=
  match lagMHz (s.chan c) s.tclk u with
  | none => (s.now, s)
  | some f =>
    let d := lagNs s.time.incr f
    let t := s.time.frozen.getD (s.now - BitVec.ofNat 64 (s.freeIn d.1 d.2))
    let ch := s.chan c
    let key := BitVec.ofNat 8 u
    let old := ((ch.chute.stamps.find? (·.1 == key)).map (·.2)).getD 0
    let t := if t.toNat < old.toNat then old else t
    let seen := (key, t) :: ch.chute.stamps.filter (·.1 != key)
    (t, s.drawn.setChan c { ch with chute := { ch.chute with stamps := seen } })

/-! ## Daybook, counts -/

/-- R148: the privileged events. -/
def privilegedEvent (u num : Nat) : Bool :=
  u == 0x40 || (u == 0x3C && (num == 0x0A01 || num == 0x0A02 || num == 0x0A03)) ||
  (u == 0x42 && (num == 0x0F00 || num == 0x0F01 || num == 0x0F02))

/-- The Daybook of a unit; empty when it has no entry yet. -/
def Channel.daybook (ch : Channel) (u : Byte) : Daybook :=
  ((ch.daybooks.find? (·.1 == u)).map (·.2)).getD { entries := [], seq := 0 }

/-- R222: one entry is written to the unit's Daybook, which keeps the last 64. -/
def Channel.writeDaybook (ch : Channel) (u num : Nat) (t : T64) (pay : Word) : Channel :=
  if !ch.on 0x402 1 then ch
  else
    let key := BitVec.ofNat 8 u
    let d := ch.daybook key
    let e : DayEntry := {
      event := BitVec.ofNat 16 num, unit := key,
      flags := BitVec.ofNat 8 (ch.nat 0x402 4 % 16 + (if privilegedEvent u num then 16 else 0)),
      seq := d.seq, stamp := t, payload := pay }
    let es := d.entries ++ [e]
    let d' : Daybook := { entries := es.drop (es.length - 64), seq := d.seq + 1 }
    { ch with daybooks := (key, d') :: ch.daybooks.filter (·.1 != key) }

/-- R175, R178: the count of n occurrences sets out for the TIME domain; counters run only while the Observatory
is powered. -/
def Channel.pushCount (ch : Channel) (u num : Nat) (t : T64) (n : Nat := 1) : Channel :=
  if ch.observed && n != 0 then
    { ch with countQ := ch.countQ ++ [{ unit := BitVec.ofNat 8 u, event := BitVec.ofNat 16 num, stamp := t,
                                        amount := n }] }
  else ch

/-! ## Routing (R147, R148) -/

/-- R147: the source group of a record of unit u. -/
def groupOf (u type num : Nat) : Option Nat :=
  match unitClass u with
  | 0x01 => some 0 | 0x02 => some 1 | 0x03 => some 2 | 0x04 => some 3 | 0x05 => some 4
  | 0x06 => some 5 | 0x07 => some 6 | 0x08 => some 7
  | 0x09 => if type == 4 && (num == 0x0900 || num == 0x0901) then some 8 else some 16
  | 0x0A => some 9 | 0x0B => some 10
  | 0x0C => if type == 6 || (type == 4 && num == 0x0C01) then some 15 else some 11
  | 0x0D => some 12 | 0x0E => some 13 | 0x0F => some 14
  | _ => none

/-- The slots whose masks select a record, their ring and the authorisation of R148 left aside. -/
def Channel.wants (ch : Channel) (r : Rec) (s : Slot) : Bool :=
  (match r.only with | some o => o == s | none => true) &&
  (match r.owner with
   | some o => o == s
   | none => ch.on (0x320 + s.val) 2 && (!r.counters || bitOf (ch.get 0x201 0) s.val)) &&
  (match r.group with | some g => bitOf (ch.get (0x320 + s.val) 1) g | none => true)

/-- The slots whose ring and masks select a record. -/
def Channel.selects (ch : Channel) (r : Rec) (s : Slot) : Bool := (ch.owner s).trace.routing && ch.wants r s

/-- R171: the owners whose ring a failed write has halted, and which would have the record. -/
def Channel.halted (ch : Channel) (r : Rec) : List Slot :=
  allSlots.filter fun s => (ch.owner s).trace.enable && (ch.owner s).trace.fault && ch.wants r s &&
    (!r.privileged || bitOf (ch.get 0x301 0) s.val)

/-- R147, R148: the owners a record is written to. -/
def Channel.targets (ch : Channel) (r : Rec) : List Slot :=
  allSlots.filter fun s => ch.selects r s && (!r.privileged || bitOf (ch.get 0x301 0) s.val)

/-- R148: the owners for which a privileged record becomes part of a GAP. -/
def Channel.excluded (ch : Channel) (r : Rec) : List Slot :=
  if r.privileged then allSlots.filter fun s => ch.selects r s && !bitOf (ch.get 0x301 0) s.val else []

/-! ## Drops (R156) -/

/-- Loss causes of R142. -/
def lossCap : BitVec 16 := 1
def lossSourceQueue : BitVec 16 := 2
def lossStaging : BitVec 16 := 3
def lossRing : BitVec 16 := 4
def lossAbandoned : BitVec 16 := 5

/-- n lost records of one cause, from first to last, are added to an owner's account. -/
def Owner.lose (o : Owner) (cause : BitVec 16) (n : Nat) (first last : T64) : Owner :=
  let old := o.ts.loss.find? (·.cause == cause)
  let l : Loss := match old with
    | none => { cause := cause, count := n, first := first, last := last }
    | some l => { l with count := l.count + n, last := last }
  let loss := if old.isSome then o.ts.loss.map (fun x => if x.cause == cause then l else x) else o.ts.loss ++ [l]
  { o with ts := { o.ts with loss := loss }, lost := BitVec.ofNat 32 (min (o.lost.toNat + n) 0xFFFFFFFF) }

/-- Lost records of slot s are accounted: the LOSS accumulator, TRACE_LOSS_COUNT, the quantity
TRACE_RECORDS_DROPPED, and the sticky STAGING_FULL for that cause (R156, R171, R172). -/
def Channel.lose (ch : Channel) (now : T64) (s : Slot) (cause : BitVec 16) (n : Nat) (first last : T64) : Channel :=
  if n = 0 then ch
  else
    let ch := (ch.modOwner s (·.lose cause n first last)).pushCount 0x3D 0x0B80 now n
    if cause = lossStaging then ch.orBits 0x300 6 8 else ch

/-! ## Source queues -/

/-- Records in a unit's source queue. -/
def Channel.queueOf (ch : Channel) (u : Byte) : List Rec :=
  ((ch.chute.srcQ.find? (·.1 == u)).map (·.2)).getD []

def Channel.setQueue (ch : Channel) (u : Byte) (q : List Rec) : Channel :=
  let rest := ch.chute.srcQ.filter (·.1 != u)
  { ch with chute := { ch.chute with srcQ := if q.isEmpty then rest else rest ++ [(u, q)] } }

/-- The trace mode in force. -/
def Channel.traceMode (ch : Channel) : Nat := ch.nat 0x300 2

/-- Records reach the Chute (R138); none once mode 0 has been written (R169). -/
def Channel.tracing (ch : Channel) : Bool := ch.observed && ch.traceMode != 0 && !ch.chute.closing

/-- The faithful owner of R158, while faithful mode runs and no stop suspends it. -/
def Channel.faithful (ch : Channel) : Option Slot :=
  if ch.traceMode = 2 ∧ ch.stopped = false then some (Fin.ofNat 16 (ch.nat 0x300 8)) else none

/-- The unit whose queue a record takes: the Tallyman emits every SNAPSHOT, whatever unit it names (R183, R205). -/
def Rec.source (r : Rec) : Byte := if r.type = 5 then 0x3E else r.unit

/-- A record enters its source's queue of 32; a full queue drops it, or holds the source for the faithful owner's
copy (R156, R158, R169, R170). -/
def Channel.enqueue (ch : Channel) (now : T64) (r : Rec) : Channel :=
  let q := ch.queueOf r.source
  if r.source = 0x3E ∧ ch.chute.tally ≠ [] then { ch with chute := { ch.chute with tally := ch.chute.tally ++ [r] } }
  else if q.length < 32 then ch.setQueue r.source (q ++ [r])
  else
    let ts := ch.targets r
    let held := match ch.faithful with
      | some f => if ts.contains f then some f else none
      | none => none
    let ch := (ts.filter fun s => held != some s).foldl
      (fun ch s => ch.lose now s lossSourceQueue 1 r.t r.t) ch
    match held with
    | some f => { ch with chute := { ch.chute with held := ch.chute.held ++ [{ r with only := some f }] } }
    | none => ch

/-- A record of the Tallyman is handed over as its queue has room, behind those still waiting (R183, R184). -/
def Channel.hand (ch : Channel) (r : Rec) : Channel :=
  let q := ch.queueOf r.source
  if ch.chute.tally.isEmpty && q.length < 32 then ch.setQueue r.source (q ++ [r])
  else { ch with chute := { ch.chute with tally := ch.chute.tally ++ [r] } }

/-- The next waiting record of the Tallyman enters its queue once that has room. -/
def Channel.feedTally (ch : Channel) : Channel :=
  match ch.chute.tally with
  | [] => ch
  | r :: rest =>
    let q := ch.queueOf r.source
    if q.length < 32 then ({ ch with chute := { ch.chute with tally := rest } }).setQueue r.source (q ++ [r]) else ch

/-! ## Events -/

/-- What a unit reports: number, payload bytes 8–15, and where R142 gives the record a type, code or stamp of its
own, those. -/
structure Ev where
  unit : Nat
  num : Nat
  pay : Word := 0
  type : Nat := 4
  code : Option (BitVec 16) := none
  owner : Option Slot := none
  at_ : Option T64 := none
  epoch : Option Nat := none
deriving Repr

/-- R138, R139: the event reaches the Chute. -/
def Channel.traces (ch : Channel) (e : Ev) : Bool :=
  ch.tracing && e.num % 256 < 0x40 &&
  (e.unit ≥ 0xF0 || bitOf (ch.get 0x302 e.unit) (e.num % 256))

/-- The trace record of an event. -/
def Ev.record (e : Ev) (t : T64) (epoch : Nat) : Rec :=
  { type := BitVec.ofNat 8 e.type, unit := BitVec.ofNat 8 e.unit,
    code := e.code.getD (BitVec.ofNat 16 e.num), t := t, payload := e.pay, epoch := e.epoch.getD epoch,
    owner := e.owner, group := groupOf e.unit e.type e.num, privileged := privilegedEvent e.unit e.num,
    counters := e.type == 6, only := none }

/-- An event inside a channel that has power: Daybook, count, stop match, source queue. -/
def Channel.occur (ch : Channel) (now t : T64) (epoch : Nat) (e : Ev) : Channel :=
  let ch := if e.num % 256 < 0x80 then ch.writeDaybook e.unit e.num t e.pay else ch
  let ch := ch.pushCount e.unit e.num t
  let ch := if bitOf (ch.get 0x400 7) 1 && ch.nat 0x400 8 == e.num then
      { ch with stop := { ch.stop with eventHit := true } } else ch
  if ch.traces e then ch.enqueue now (e.record t epoch) else ch

/-- The running job whose first Loom cycle has come, its LOOM_START not yet emitted (R146). -/
def Channel.loomDue (ch : Channel) (now : T64) : Option Job :=
  ch.jobs.find? fun j => j.running && !j.begun && decide (j.launched.toNat ≤ now.toNat)

/-- LOOM_START, at the first Loom cycle of a job, ahead of every later record of a Loom (R142, R146). -/
def Channel.loomStart (ch : Channel) (now : T64) (epoch : Nat) : Channel :=
  match ch.loomDue now with
  | none => ch
  | some j =>
    let key : Byte := 0x10
    let ch := { ch with
      jobs := ch.jobs.map fun (x : Job) => if x.num = j.num then { x with begun := true } else x
      chute := { ch.chute with stamps := (key, j.launched) :: ch.chute.stamps.filter (·.1 != key) } }
    ch.occur now j.launched epoch {
      unit := 0x10, num := 0x0400, pay := payAt 8 j.desc.plan.val ||| payAt 12 j.desc.tag.toNat, owner := some j.owner }

/-- Event e occurs in channel c now (R173, R174); nothing occurs in a channel without power. -/
def State.event (s : State) (c : Chan) (e : Ev) : State :=
  if (s.chan c).st = .poweredDown then s
  else
    match e.at_ with
    | some t => s.modChan c (·.occur s.now t s.time.epoch e)
    | none =>
      let (t, s) := s.stamp c e.unit
      s.modChan c (·.occur s.now t s.time.epoch e)

/-- An event of a module unit, delivered to every channel (R173). -/
def State.moduleEvent (s : State) (e : Ev) : State := s.eachChan fun s c => s.event c e

/-- A register access of channel c through a view: a BAR0 access is an event of the endpoint (R148, R180). -/
def State.access (s : State) (view : View) (c : Chan) (off : Nat) (write : Bool := true) : State :=
  match view with
  | .bar0 => s.event c { unit := 0x3C, num := 0x0A01, pay := payAt 8 (if write then 1 else 0) ||| payAt 12 off }
  | .window => s

/-- BAR0 offset of a slot-copy register (R280). -/
def slotCopy (i : Slot) (off : Nat) : Nat := 0x100000 + 0x10000 * i.val + off

/-- f on channel c after a register access, while the host reaches it. -/
def State.viewWrite (s : State) (view : View) (c : Chan) (i : Slot) (off : Nat)
    (f : State → Host.Outcome State Fault Refusal) : Host.Outcome State Fault Refusal :=
  s.whenHost c fun s => f (s.access view c (slotCopy i off))

end Sys2Proof.Machine
end

