-- ==== Sys2Proof/Machine/Trace.lean ====
section
/-! DEFINITION. The Chute (R138 to R172, R482): open blocks and their records, drops, gaps, sealing, merging, and the
meanings of the trace commands. -/

namespace Sys2Proof.Machine

open Sys2Proof

/-! ## Larder and Cellar left free (R78, R79) -/

/-- A Loom's capture granules are taken: one of its points is armed, or a capture waits in its buffer (R231, R236). -/
def Channel.captureHeld (ch : Channel) (loom : Nat) : Bool :=
  ((List.range 4).any fun i => match ch.dbg.pts[4 * loom + i]? with
    | some p => p.armed || p.capturing
    | none => false) ||
  (match ch.dbg.caps[loom]? with | some (some _) => true | _ => false)

/-- 64 KiB granules of a plan's Larder sections (R78). -/
def Plan.granules (p : Plan) : Nat := if p.st = 0 ∨ p.st = 1 then 0 else (p.larder + 65535) / 65536

/-- The features of the Observatory whose tables state a Larder cost (R161, R196, R236). -/
inductive Feature where
  | observatory | traceOn | fixedCounters | programmableCounters | gather | stocktake | stopTree | daybooks | hangDumps
  | decant (loom : Nat)
deriving DecidableEq, Repr

def allFeatures : List Feature :=
  [.observatory, .traceOn, .fixedCounters, .programmableCounters, .gather, .stocktake, .stopTree, .daybooks, .hangDumps,
    .decant 0, .decant 1]

/-- 64 KiB granules of the Larder that a feature takes as the channel stands: one for trace in a mode other than 0 (R161), two
for each Loom with an armed point (R236), none for any other. -/
def Channel.featureGranules (ch : Channel) (x : Feature) : Nat :=
  match x with
  | .observatory => 0
  | .traceOn => if ch.traceMode = 0 then 0 else 1
  | .fixedCounters | .programmableCounters | .gather | .stocktake => 0      -- R196: none
  | .stopTree | .daybooks | .hangDumps => 0                                 -- R236: none
  | .decant l => if ch.captureHeld l then 2 else 0

/-- 0x8500:03: 192 MiB less the granules of loaded plans and of what the Observatory takes (R78, R161, R196, R236). -/
def Channel.larderFree (ch : Channel) : Nat :=
  201326592 - 65536 * ((ch.plans.toList.map (·.granules)).sum + (allFeatures.map ch.featureGranules).sum)

/-- 0x8500:04: 24 GiB less plan images' working areas, the dump slots (R227) and the decant staging (R235). -/
def Channel.cellarFree (ch : Channel) : Nat :=
  25769803776 - ((ch.plans.toList.map fun p => if p.st = 0 ∨ p.st = 1 then 0 else 65536 * p.pages + p.cellar).sum +
    (if ch.on 0x404 1 then 524288 else 0) +
    (if ch.dbg.pts.toList.any (·.armed) then 1048576 else 0))

/-! ## Records in an open block -/

/-- 2^28 ns (R144). -/
def span28 : Nat := 268435456

/-- Two T64 lie 2^28 ns or more apart. -/
def farApart (a b : T64) : Bool := decide (span28 ≤ a.toNat - b.toNat ∨ span28 ≤ b.toNat - a.toNat)

/-- A GLOBAL_TIMESTAMP record (R142). -/
def globalStamp (reason : BitVec 16) (base : T64) : Rec :=
  { type := 1, unit := 0x3D, code := reason, t := base, payload := base, epoch := 0, owner := none, group := none,
    privileged := false, counters := false, only := none }

/-- A GAP record from first to last (R148, R164). -/
def gapRecord (cause : BitVec 16) (first last : T64) : Rec :=
  { type := 2, unit := 0x3D, code := cause, t := first, payload := last - first, epoch := 0, owner := none,
    group := none, privileged := false, counters := false, only := none }

/-- A LOSS record of accumulated drops (R156). -/
def lossRecord (l : Loss) : Rec :=
  { type := 3, unit := 0x3D, code := l.cause, t := l.first,
    payload := w (min l.count 0xFFFFFFFF + 2 ^ 32 * l.last.low.toNat), epoch := 0, owner := none, group := none,
    privileged := false, counters := false, only := none }

/-- The 16 bytes of a record (R140). -/
def Rec.bytes (r : Rec) : Bytes :=
  [r.type, r.unit] ++ leBytes 2 r.code.toNat ++ leBytes 4 r.t.low.toNat ++ leBytes 8 r.payload.toNat

/-- T64 of the first and of the last record other than GLOBAL_TIMESTAMP. -/
def recSpan (l : List Rec) : Option (T64 × T64) :=
  match l.filter (·.type != 1) with
  | [] => none
  | r :: rest => some (r.t, ((r :: rest).getLast?.map (·.t)).getD r.t)

/-- The open trace block of slot s is sealed under the slot's key and takes the next block sequence (R150 to R152);
a slot without a key keeps nothing unsealed. -/
def Channel.sealTrace (ch : Channel) (now : T64) (s : Slot) : Channel :=
  let o := ch.owner s
  if o.ts.recs.isEmpty then ch
  else
    match o.key with
    | none => ch.modOwner s fun o => { o with ts := { o.ts with recs := [] } }
    | some k =>
      let seq := ch.get (0x320 + s.val) 5
      let span := (recSpan o.ts.recs).getD (0, 0)
      let blk : Block := {
        seq := seq, word67 := BitVec.ofNat 16 o.ts.recs.length,
        payload := padTo (o.ts.recs.flatMap Rec.bytes) 4064, irq := o.trace.irqOnBlock,
        records := (o.ts.recs.filter (·.type != 1)).length, first := span.1, last := span.2, key := k.stream }
      let ch := ch.modOwner s fun o =>
        { o with ts := { o.ts with recs := [], sealedQ := o.ts.sealedQ ++ [blk] } }
      (ch.put (0x320 + s.val) 5 (seq + 1)).pushCount 0x3D 0x0B81 now

/-- The slot's blocks are subject to the cap (R155, R158). -/
def Channel.capped (ch : Channel) (s : Slot) : Bool := !(ch.traceMode == 2 && ch.nat 0x300 8 == s.val)

/-- The tokens of one block, 4,096 bytes (R155). -/
def blockTokens : Nat := 40960000

/-- The tokens of one block are spent as it opens (R155). -/
def Channel.spend (ch : Channel) (s : Slot) : Channel :=
  if (ch.owner s).ts.recs.isEmpty && ch.capped s then
    { ch with chute := { ch.chute with tokens := ch.chute.tokens - blockTokens } } else ch

/-- A record is appended to the open block of slot s.  The block opens with its BLOCK record when there is none; a BLOCK record
that stands alone takes the base of the record that follows it (R144). -/
def Channel.appendRec (ch : Channel) (tclk : Nat) (s : Slot) (r : Rec) : Channel :=
  (ch.spend s).modOwner s fun o =>
    let ts := if o.ts.recs.isEmpty then
        { o.ts with recs := [globalStamp 1 r.t], base := r.t, since := tclk, full := false }
      else if o.ts.recs.length = 1 then { o.ts with recs := [globalStamp 1 r.t], base := r.t }
      else o.ts
    { o with ts := { ts with
        recs := ts.recs ++ [r], base := if r.type = 1 then r.payload else ts.base, lastT := r.t } }

/-- The open block is sealed because it is full (R152, R165). -/
def Channel.sealAsFull (ch : Channel) (now : T64) (s : Slot) : Channel :=
  (ch.sealTrace now s).modOwner s fun o => { o with ts := { o.ts with full := true } }

/-- The block is sealed once its 254th record is written (R152). -/
def Channel.sealFull (ch : Channel) (now : T64) (s : Slot) : Channel :=
  if 254 ≤ (ch.owner s).ts.recs.length then ch.sealAsFull now s else ch

/-- Record r is written to slot s, after a REBASE where R144 needs one and before the GLOBAL_TIMESTAMP `follow` where
R144 demands one; the pairs of R482 are never split. -/
def Channel.putRec (ch : Channel) (now : T64) (tclk : Nat) (s : Slot) (r : Rec) (follow : Option Rec := none) :
    Channel :=
  let o := ch.owner s
  let rebase := decide (1 < o.ts.recs.length) && farApart r.t o.ts.base
  let need := (if rebase then 2 else 1) + (if follow.isSome then 1 else 0)
  let fits := o.ts.recs.length + need ≤ 254
  let ch := if o.ts.recs.isEmpty || fits then ch else ch.sealAsFull now s
  let ch := if rebase && fits then ch.appendRec tclk s (globalStamp 5 r.t) else ch
  let ch := ch.appendRec tclk s r
  let ch := match follow with | some g => ch.appendRec tclk s g | none => ch
  ch.sealFull now s

/-! ## Delivery to one owner (R147, R148, R155, R156, R158) -/

/-- 0x8300:05: the effective cap, 5 while a rung above the request rung limits (R160). -/
def Channel.effectiveCap (ch : Channel) : Nat :=
  let rung := ch.nat 0x700 3
  if 1 ≤ rung ∧ rung ≤ 5 then 5 else ch.nat 0x300 3

/-- THROTTLED: the effective cap is below the requested cap (R160). -/
def Channel.throttled (ch : Channel) : Bool := decide (ch.effectiveCap < ch.nat 0x300 3)

/-- The token bucket filled up to TCLK count `tclk`: 15.75 GB/s × cap × 0.1 % for 2 ns an edge, 16 KiB deep (R155). -/
def Channel.refill (ch : Channel) (tclk : Nat) : Channel :=
  { ch with chute := { ch.chute with
      tokens := min 163840000 (ch.chute.tokens + (tclk - ch.chute.tokensAt) * ch.effectiveCap * 315)
      tokensAt := tclk } }

/-- Bytes held in the 64 KiB staging SRAM. -/
def Channel.staged (ch : Channel) : Nat :=
  (ch.owners.toList.map fun o => 16 * o.ts.recs.length + 4096 * o.ts.sealedQ.length).sum

/-- Slots of the open block that what waits for owner o takes at most. -/
def Owner.heldSlots (o : Owner) : Nat :=
  o.ts.loss.length + 3 * o.ts.wait.length + (if o.ts.gap.isSome then 3 else 0)

/-- Blocks that n more records open. -/
def Owner.opened (o : Owner) (n : Nat) : Nat :=
  if o.ts.recs.isEmpty then (n + 252) / 253 else (o.ts.recs.length + n - 1) / 254

/-- The staging SRAM has no room for n more records. -/
def Channel.stagingFull (ch : Channel) (n : Nat) : Bool := decide (65536 < ch.staged + 16 * (4 + n))

/-- There are no tokens for the blocks that n more records open (R155). -/
def Channel.noTokens (ch : Channel) (s : Slot) (n : Nat) : Bool :=
  ch.capped s && decide (ch.chute.tokens < blockTokens * (ch.owner s).opened n)

/-- Why a record that takes n slots cannot be placed for slot s now, if it cannot (R156). -/
def Channel.noRoomFor (ch : Channel) (s : Slot) (n : Nat) : Option (BitVec 16) :=
  if ch.stagingFull n then some lossStaging
  else if (ch.owner s).trace.full then some lossRing
  else if ch.noTokens s n then some lossCap
  else none

/-- The same for one record behind what waits for the slot. -/
def Channel.noRoom (ch : Channel) (s : Slot) : Option (BitVec 16) := ch.noRoomFor s ((ch.owner s).heldSlots + 3)

/-- A record that is never dropped can be placed (R156). -/
def Channel.mayKeep (ch : Channel) (s : Slot) (n : Nat) : Bool := !ch.stagingFull n && !ch.noTokens s n

/-- Records that are never dropped are written in order while there is room; the rest waits. -/
def Channel.putAll (ch : Channel) (now : T64) (tclk : Nat) (s : Slot) (l : List (Rec × Option Rec)) : Channel :=
  match l with
  | [] => ch
  | x :: rest =>
    if ch.mayKeep s 3 then (ch.putRec now tclk s x.1 x.2).putAll now tclk s rest
    else ch.modOwner s fun o => { o with ts := { o.ts with wait := x :: rest } }

/-- A run of withheld records ends: its GAP waits to be written (R148). -/
def Owner.closeGap (o : Owner) : Owner :=
  match o.ts.gap with
  | some g => { o with ts := { o.ts with
      gap := none, wait := o.ts.wait ++ [(gapRecord g.cause g.first g.last, some (globalStamp 3 g.last))] } }
  | none => o

/-- What waits for the owner is written ahead of the next record: the accumulated LOSS records, then the rest (R156). -/
def Channel.putHeld (ch : Channel) (now : T64) (tclk : Nat) (s : Slot) : Channel :=
  let ch := ch.modOwner s (·.closeGap)
  let loss := (ch.owner s).ts.loss
  if ch.mayKeep s loss.length then
    let wait := (ch.owner s).ts.wait
    let ch := ch.modOwner s fun o =>
      { o with
        ts := { o.ts with loss := [], wait := [] }
        trace := { o.trace with bit4 := o.trace.bit4 || !loss.isEmpty } }
    (loss.foldl (fun ch l => ch.putRec now tclk s (lossRecord l)) ch).putAll now tclk s wait
  else ch

/-- A record that is never dropped, with what must follow it, is written, or waits for room (R156). -/
def Channel.putKept (ch : Channel) (now : T64) (tclk : Nat) (s : Slot) (r : Rec) (follow : Option Rec := none) : Channel :=
  (ch.modOwner s fun o => { o.closeGap with ts := { o.closeGap.ts with wait := o.closeGap.ts.wait ++ [(r, follow)] } }).putHeld
    now tclk s

/-- The TIME_STEP event of a load (R142, R163). -/
def Rec.isStep (r : Rec) : Bool := r.type == 4 && r.unit == 0x00 && r.code == 0x0100

/-- Record r is delivered to slot s, or dropped with its cause. -/
def Channel.deliver (ch : Channel) (now : T64) (tclk : Nat) (r : Rec) (s : Slot) : Channel :=
  match ch.noRoom s with
  | some cause => ch.lose now s cause 1 r.t r.t
  | none => (ch.putHeld now tclk s).putRec now tclk s r

/-- A privileged record is withheld from slot s: its run becomes one GAP (R148). -/
def Channel.withhold (ch : Channel) (r : Rec) (s : Slot) : Channel :=
  ch.modOwner s fun o =>
    let cause : BitVec 16 := if r.unit = 0x40 then 1 else 2
    let g : GapRun := match o.ts.gap with
      | some g => { g with last := r.t }
      | none => { cause := cause, first := r.t, last := r.t }
    { o with ts := { o.ts with gap := some g } }

/-- The owners of a record, the faithful one first, so that copies for others take no room from it (R158, R170). -/
def Channel.inTurn (ch : Channel) (l : List Slot) : List Slot :=
  match ch.faithful with
  | some f => l.filter (· == f) ++ l.filter (· != f)
  | none => l

/-- Record r leaves its queue: it is routed, copied and placed (R147, R148, R168); a halted ring loses it (R171). -/
def Channel.route (ch : Channel) (now : T64) (tclk : Nat) (r : Rec) : Channel :=
  let out := ch.excluded r
  let gone := ch.halted r
  let ch := (ch.inTurn (ch.targets r)).foldl (fun ch s => ch.deliver now tclk r s) ch
  let ch := gone.foldl (fun ch s => ch.lose now s lossRing 1 r.t r.t) ch
  out.foldl (fun ch s => ch.withhold r s) ch

/-- The end of an epoch in every ring that takes records (R68, R163): TIME_STEP where it is selected and has room, with its
AFTER_STEP; elsewhere the GLOBAL_TIMESTAMP alone (log entry 121). -/
def Channel.routeStep (ch : Channel) (now : T64) (tclk : Nat) (r : Option Rec) (base : T64) : Channel :=
  let takes : List Slot := match r with | some r => ch.targets r | none => []
  (ch.inTurn (allSlots.filter fun s => (ch.owner s).trace.routing)).foldl (fun ch s =>
    match r with
    | some r =>
      if takes.contains s then
        match ch.noRoom s with
        | some cause => (ch.lose now s cause 1 r.t r.t).putKept now tclk s (globalStamp 4 base)
        | none => (ch.putHeld now tclk s).putRec now tclk s r (some (globalStamp 4 base))
      else ch.putKept now tclk s (globalStamp 4 base)
    | none => ch.putKept now tclk s (globalStamp 4 base)) ch

/-! ## Merging -/

/-- The record's faithful copy has no room, so its source is held (R158). -/
def Channel.blocked (ch : Channel) (r : Rec) : Bool :=
  match ch.faithful with
  | some f => (ch.targets r).contains f && (ch.noRoom f).isSome
  | none => false

/-- a comes before b: by step epoch, then by full T64 (R146, R163). -/
def Rec.before (a b : Rec) : Bool := a.epoch < b.epoch || (a.epoch == b.epoch && a.t.toNat < b.t.toNat)

/-- Records in source queues, at held sources and with the Tallyman. -/
def Channel.waiting (ch : Channel) : List Rec := ch.chute.srcQ.flatMap (·.2) ++ ch.chute.held ++ ch.chute.tally

/-- No record of an older epoch waits anywhere, and TIME_STEP goes behind every other record of its epoch (R163). -/
def Channel.inEpoch (ch : Channel) (r : Rec) : Bool :=
  ch.waiting.all fun x => decide (r.epoch < x.epoch) || (x.epoch == r.epoch && (!r.isStep || x.isStep))

/-- The queue head that the Chute merges next, among heads whose source is not held.  A STOCKTAKE record has not crossed its
queue on the edge of its own freeze `edge`, nor while the pulse of that freeze is measured: a later trigger may still mend it
(R200). -/
def Channel.mergeHead (ch : Channel) (edge : Option T64) : Option Rec :=
  let heads := (ch.chute.srcQ.filterMap fun q => q.2.head?).filter fun r =>
    !ch.blocked r && ch.inEpoch r &&
      !(r.type == 6 && edge.isSome && (edge == some r.t || (ch.st0.prov.map (·.1)) == some r.t))
  heads.foldl (fun best r => match best with
    | none => some r
    | some b => if r.before b then some r else best) none

/-- The first held record of a unit whose queue has room again moves into it (R158). -/
def Channel.admitHeld (ch : Channel) (u : Byte) : Channel :=
  match ch.chute.held.find? (·.source == u) with
  | some r =>
    if (ch.queueOf u).length < 32 then
      ({ ch with chute := { ch.chute with held := ch.chute.held.erase r } }).setQueue u (ch.queueOf u ++ [r])
    else ch
  | none => ch

/-- A source that serves a stage is held: the Tallyman serves none (R157, R158, R205). -/
def Channel.stageHeld (ch : Channel) : Bool := ch.chute.held.any fun r => r.source != 0x3E

/-- R159: since when the faithful owner's ring has been FULL. -/
def Channel.watchFull (ch : Channel) (tclk : Nat) : Channel :=
  let full := match ch.faithful with | some f => (ch.owner f).trace.full && (ch.owner f).trace.active | none => false
  { ch with chute := { ch.chute with fullSince := if full then some (ch.chute.fullSince.getD tclk) else none } }

/-- The step whose global timestamp is due: no record of its epoch or an older one waits any more but TIME_STEP itself (R163). -/
def Channel.stepDue (ch : Channel) : Option (Nat × T64) :=
  match ch.chute.steps with
  | [] => none
  | x :: _ => if ch.waiting.all fun r => decide (x.1 < r.epoch) then some x else none

/-- The oldest step has been shown in every stream. -/
def Channel.stepShown (ch : Channel) : Channel := { ch with chute := { ch.chute with steps := ch.chute.steps.drop 1 } }

/-- The Chute merges one queue head (R147), or writes the global timestamp of a step (R163); what waits for room is written
first. -/
def Channel.mergeOne (ch : Channel) (now : T64) (tclk : Nat) (edge : Option T64) : Channel :=
  let ch := allSlots.foldl (fun (ch : Channel) s =>
    if (ch.owner s).ts.wait.isEmpty then ch else ch.putHeld now tclk s) (ch.refill tclk)
  match ch.stepDue with
  | some x => (ch.stepShown).routeStep now tclk none x.2
  | none =>
    match ch.mergeHead edge with
    | none => ch
    | some r =>
      let ch := ((ch.setQueue r.source (ch.queueOf r.source).tail).admitHeld r.source).feedTally
      if r.isStep then (ch.stepShown).routeStep now tclk (some r) (r.t + r.payload) else ch.route now tclk r

/-- Up to n queue heads are merged. -/
def Channel.mergeAll (ch : Channel) (now : T64) (tclk n : Nat) : Channel :=
  match n with
  | 0 => ch
  | k + 1 => (ch.mergeOne now tclk none).mergeAll now tclk k

/-- Merges that empty the queues. -/
def Channel.queued (ch : Channel) : Nat := ch.waiting.length + ch.chute.steps.length

/-- Every source is released: held records are dropped or queued as bounded mode treats them (R159, R169). -/
def Channel.releaseSources (ch : Channel) (now : T64) (cause : BitVec 16) : Channel :=
  let hs := ch.chute.held
  let ch := { ch with chute := { ch.chute with held := [] } }
  hs.foldl (fun ch r =>
    if (ch.queueOf r.source).length < 32 then ch.setQueue r.source (ch.queueOf r.source ++ [r])
    else (ch.targets r).foldl (fun ch s => ch.lose now s cause 1 r.t r.t) ch) ch

/-! ## Silences (R164) -/

/-- Trace falls silent for a cause on every ring that takes records. -/
def Channel.fallSilent (ch : Channel) (now : T64) (cause : BitVec 16) : Channel :=
  allSlots.foldl (fun ch s => ch.modOwner s fun o =>
    if o.trace.routing && o.ts.silent.isNone then { o with ts := { o.ts with silent := some (cause, now) } }
    else o) ch

/-- Trace resumes: each silent ring gets its GAP, with AFTER_GAP (R164). -/
def Channel.resumeTrace (ch : Channel) (now : T64) (tclk : Nat) : Channel :=
  allSlots.foldl (fun ch s =>
    match (ch.owner s).ts.silent with
    | none => ch
    | some (cause, t0) =>
      let ch := ch.modOwner s fun o => { o with ts := { o.ts with silent := none } }
      if (ch.owner s).trace.routing then ch.putKept now tclk s (gapRecord cause t0 now) (some (globalStamp 3 now))
      else ch) (ch.refill tclk)

/-! ## Mode and power -/

/-- Every open block is sealed after the queues have been merged (R169). -/
def Channel.sealEvery (ch : Channel) (now : T64) (tclk : Nat) : Channel :=
  let ch := ch.mergeAll now tclk ch.queued
  allSlots.foldl (fun ch s => ch.sealTrace now s) ch

/-- Mode 0 takes effect once every sealed block has been written (R169). -/
def Channel.settleMode (ch : Channel) : Channel :=
  if ch.chute.closing && ch.owners.toList.all (fun (o : Owner) => o.ts.sealedQ.isEmpty) then
    ({ ch with chute := { ch.chute with closing := false } }).put 0x300 2 0
  else ch

/-- Trace goes silent: sources are released and open blocks sealed.  A mode 0 that has been `written` takes effect once the
sealed blocks have been (R164, R169). -/
def Channel.closeTrace (ch : Channel) (now : T64) (tclk : Nat) (silentCause : BitVec 16) (written : Bool) : Channel :=
  let ch := (((ch.releaseSources now lossSourceQueue).sealEvery now tclk).fallSilent now silentCause)
  if written then { ch with chute := { ch.chute with closing := true, fullSince := none } }.settleMode
  else { ch with chute := { ch.chute with closing := false, fullSince := none } }.put 0x300 2 0

/-- The trace mode changes to m: TRACE_MODE with the reason, blocks sealed, sources released, silences begun or
ended (R138, R159, R161, R164, R169). -/
def State.changeTraceMode (s : State) (c : Chan) (m reason : Nat) (silentCause : BitVec 16) (written : Bool := false) : State :=
  let ch := s.chan c
  let old := if ch.chute.closing then 0 else ch.traceMode
  let ev : Ev := { unit := 0x3D, num := 0x0B00, pay := payAt 8 m ||| payAt 9 old ||| payAt 10 reason }
  if m = 0 then
    let s := if old = m then s else s.event c ev
    s.modChan c (·.closeTrace s.now s.tclk silentCause (written && old != 0))
  else
    let s := s.modChan c fun ch =>
      let ch := ({ ch with chute := { ch.chute with closing := false, fullSince := none } }).put 0x300 2 (w m)
      let ch := if m = 1 then ch.releaseSources s.now lossSourceQueue else ch
      (if old = 0 then ch.resumeTrace s.now s.tclk else ch).watchFull s.tclk
    if old = m then s else s.event c ev

/-- The answer of R138, R161 and R172 to a write of trace mode m: an abort code, or 0. -/
def Channel.traceModeCheck (ch : Channel) (m : Nat) : BitVec 32 :=
  if m ≠ 0 ∧ (ch.observed = false ∨ ch.chute.locked = true) then 0x04000002
  else if m ≠ 0 ∧ ch.traceMode = 0 ∧ ch.larderFree < 65536 then 0x05000001
  else 0

/-! ## Ring commands -/

/-- A block ring becomes ACTIVE when it may (R153). -/
def Ring.settle (r : Ring) (keyed : Bool) : Ring := { r with active := r.mayRun keyed }

/-- ENABLE written 1 (R153): HEAD and TAIL restart when it changes from 0 to 1; while the ring drains, the write
waits for ACTIVE to clear. -/
def Ring.enableWrite (r : Ring) (keyed irq : Bool) : Ring :=
  let r := { r with irqOnBlock := irq }
  if r.enable then r
  else if r.active then { r with reenable := true }
  else ({ r with enable := true, head := 0, tail := 0 }).settle keyed

/-- A draining ring whose last sealed block has gone: ACTIVE clears, and a waiting re-enable takes effect (R153). -/
def Ring.drained (r : Ring) (keyed : Bool) : Ring :=
  if !r.enable && r.active then
    let r := { r with active := false }
    if r.reenable then ({ r with reenable := false, enable := true, head := 0, tail := 0 }).settle keyed else r
  else r

/-- A readable-block test for TAIL (R154): on a block boundary between the previous TAIL and HEAD.  While the ring is
neither enabled nor draining, TAIL only holds what is written, ENABLE sets it to 0 (R153, log entry 100). -/
def Ring.tailOk (r : Ring) (v : Nat) : Bool :=
  !r.enable && !r.active ||
  v < r.bytes && v % 4096 == 0 &&
  (v + r.bytes - r.tail.toNat) % r.bytes ≤ (r.head.toNat + r.bytes - r.tail.toNat) % r.bytes

/-- The TAIL of a block ring written with a value whose reserved bits are ignored. -/
def Ring.writeTail (r : Ring) (v : BitVec 32) : Ring := { r with tail := BitVec.ofNat 32 (v.toNat / 4096 * 4096) }

/-- The 16 clear bytes of a sealed block (R150). -/
def blockClear (kind : Byte) (c : Chan) (s : Slot) (b : Block) : Bytes :=
  leBytes 2 0x4254 ++ [1, kind, BitVec.ofNat 8 c.val, BitVec.ofNat 8 s.val] ++ leBytes 2 b.word67.toNat ++
  leBytes 8 b.seq.toNat

/-- A sealed block goes to host memory at BASE + HEAD. -/
def blockOut (kind : Byte) (c : Chan) (s : Slot) (r : Ring) (b : Block) : Out :=
  .block c kind s b.seq (r.base + w r.head.toNat) (blockClear kind c s b) b.payload b.key

/-- DMA of the channel may write a block of a ring: PCIe is up, and in a stop only the block in progress is written (R215, R238). -/
def Channel.dmaRuns (ch : Channel) (k : RingKind) (i : Slot) : Bool :=
  !ch.host.linkDown && !ch.chute.gcmFault && (!ch.stopped || ch.stop.flight.contains (k, i))

/-- The engine of a ring kind has written its block; in a stop it halts there (R215). -/
def Channel.wrote (ch : Channel) (k : RingKind) : Channel :=
  { ch with stop := { ch.stop with flight := ch.stop.flight.filter (·.1 != k) } }

/-- A block write has failed (R153): FAULT, and ACTIVE clears. -/
def Ring.failed (r : Ring) : Ring := { r with fault := true, active := r.active && !r.enable }

/-- A sealed trace block of the channel can go upstream now; its credit class is served ahead of the others (R18). -/
def Channel.traceAhead (ch : Channel) : Bool :=
  allSlots.any fun i =>
    let o := ch.owner i
    !o.ts.sealedQ.isEmpty && o.trace.active && !o.trace.full && ch.dmaRuns .trace i

/-- Every staged record of slot s is lost, sealed or not; a ring that was draining has nothing left to write (R153, R171). -/
def Channel.loseTrace (ch : Channel) (now : T64) (s : Slot) (cause : BitVec 16) : Channel :=
  let o := ch.owner s
  let n := (o.ts.sealedQ.map (·.records)).sum + (o.ts.recs.filter (·.type != 1)).length
  let spans := ((o.ts.sealedQ.filter (·.records != 0)).map fun (b : Block) => (b.first, b.last)) ++ (recSpan o.ts.recs).toList
  let first := ((spans.head?).map (·.1)).getD 0
  let last := ((spans.getLast?).map (·.2)).getD 0
  let ch := ch.modOwner s fun o =>
    { o with ts := { o.ts with recs := [], sealedQ := [] }, trace := o.trace.drained o.keyed }
  (ch.lose now s cause n first last).settleMode

/-- Trace of slot s becomes inactive with its staged blocks lost (R153, R171). -/
def Channel.discardTrace (ch : Channel) (now : T64) (s : Slot) : Channel := ch.loseTrace now s lossRing

/-! ## Meanings -/

/-- TRACE_RECORD_MERGE (R147). -/
def execTraceRecordMerge (c : Chan) (s : State) : Host.Outcome State Fault Refusal :=
  s.whenChan c fun s => .next (s.modChan c fun ch => (ch.mergeOne s.now s.tclk (some s.now)).watchFull s.tclk)

/-- A REBASE stands or is due on the same record as the PERIODIC of t: they are written as one REBASE (R165). -/
def Channel.rebaseDue (ch : Channel) (i : Slot) (t : T64) : Bool :=
  let o := ch.owner i
  (o.ts.recs.any fun r => r.type == 1 && r.code == 5 && decide (t.toNat ≤ r.t.toNat)) ||
  (decide (1 < o.ts.recs.length) &&
    ch.waiting.any fun r => (ch.targets r).contains i && decide (t.toNat ≤ r.t.toNat) && farApart r.t o.ts.base)

/-- A PERIODIC record enters the stream of every ring that takes records (R144); after a full block it opens the next one
and is dropped (R165). -/
def Channel.periodic (ch : Channel) (now t : T64) (tclk : Nat) : Channel :=
  if ch.tracing then
    allSlots.foldl (fun (ch : Channel) i =>
      let o := ch.owner i
      if !o.trace.routing then ch
      else if o.ts.recs.isEmpty && o.ts.full && o.ts.wait.isEmpty && ch.mayKeep i 1 then
        (ch.spend i).modOwner i fun o =>
          { o with ts := { o.ts with
              recs := [globalStamp 1 t], base := t, since := tclk, full := false, lastT := t } }
      else if ch.rebaseDue i t then ch
      else ch.putKept now tclk i (globalStamp 2 t)) (ch.refill tclk)
  else ch

/-- T64 has reached a multiple of 2^28 ns on this edge, counting, not by a load (R144). -/
def State.periodicDue (s : State) (c : Chan) : Bool :=
  s.time.prev.toNat / span28 < s.now.toNat / span28 && decide (s.now.toNat - s.time.prev.toNat < 4) &&
  (s.chan c).chute.periodicAt != s.tclk

/-- PERIODIC_TIMESTAMP (R144, R165). -/
def execPeriodicTimestamp (c : Chan) (s : State) : Host.Outcome State Fault Refusal :=
  s.whenChan c fun s =>
    if s.periodicDue c then
      .next (s.modChan c fun ch =>
        ({ ch with chute := { ch.chute with periodicAt := s.tclk } }).periodic s.now
          (BitVec.ofNat 64 (s.now.toNat / span28 * span28)) s.tclk)
    else .next s

/-- TRACE_RING_FLUSH (R152): the open block is sealed. -/
def execTraceRingFlush (view : View) (c : Chan) (i : Slot) (s : State) : Host.Outcome State Fault Refusal :=
  s.viewWrite view c i 0x314 fun s =>
    .next (s.modChan c fun ch => if (ch.owner i).trace.routing then ch.sealTrace s.now i else ch)

/-- TRACE_RING_ENABLE (R153): TRACE_LOSS_COUNT counts from the enable. -/
def execTraceRingEnable (view : View) (c : Chan) (i : Slot) (irq : Bool) (s : State) :
    Host.Outcome State Fault Refusal :=
  s.viewWrite view c i 0x314 fun s =>
    .next (s.modChan c fun ch => ch.modOwner i fun o =>
      { o with
        trace := o.trace.enableWrite o.keyed irq
        lost := if o.trace.enable then o.lost else 0
        ts := if o.trace.enable then o.ts else { o.ts with silent := none, gap := none, lastT := s.now } })

/-- What waits for a ring that takes records is written, and the open block sealed. -/
def Channel.disableTrace (ch : Channel) (now : T64) (tclk : Nat) (i : Slot) : Channel :=
  let ch := if (ch.owner i).trace.routing then ((ch.refill tclk).putHeld now tclk i) else ch
  ch.sealTrace now i

/-- TRACE_RING_DISABLE (R153, R156): what waits is written, the open block sealed, routing ends, sealed blocks still drain; what
has no room even now waits on. -/
def execTraceRingDisable (view : View) (c : Chan) (i : Slot) (irq : Bool) (s : State) :
    Host.Outcome State Fault Refusal :=
  s.viewWrite view c i 0x314 fun s =>
    .next (s.modChan c fun ch =>
      (ch.disableTrace s.now s.tclk i).modOwner i fun o =>
        let r := { o.trace with enable := false, reenable := false, irqOnBlock := irq }
        { o with
          trace := if o.ts.sealedQ.isEmpty then r.drained o.keyed else r
          ts := { o.ts with silent := none } })

/-- A TAIL outside the readable blocks: R171 leaves what that ring then does undefined, and R1 keeps it to that ring.  HEAD and
TAIL become free values, on block boundaries (log entry 100). -/
def Ring.astray (r : Ring) (a b : Nat) : Ring :=
  { r with head := BitVec.ofNat 32 (4096 * (a % (r.bytes / 4096))), tail := BitVec.ofNat 32 (4096 * (b % (r.bytes / 4096))) }

/-- A write of a block ring's TAIL (R154, R171). -/
def State.tailWritten (s : State) (r : Ring) (v : BitVec 32) : Ring × State :=
  if r.tailOk (v.toNat / 4096 * 4096) then (r.writeTail v, s)
  else (r.astray (s.freeIn 0 0xFFFFFFFF) (s.drawn.freeIn 0 0xFFFFFFFF), s.drawn.drawn)

/-- TRACE_RING_TAIL_WRITE (R154, R171): blocks are freed. -/
def execTraceRingTailWrite (view : View) (c : Chan) (i : Slot) (v : BitVec 32) (s : State) :
    Host.Outcome State Fault Refusal :=
  s.viewWrite view c i 0x310 fun s =>
    let x := s.tailWritten ((s.chan c).owner i).trace v
    .next (x.2.modChan c fun ch => (ch.modOwner i fun o => { o with trace := x.1 }).watchFull s.tclk)

/-- The oldest sealed trace block of slot i reaches host memory and HEAD advances (R153, R154). -/
def State.traceBlockDone (s : State) (c : Chan) (i : Slot) (b : Block) (rest : List Block) : State :=
  let r := ((s.chan c).owner i).trace
  let s := (s.emit (blockOut 1 c i r b)).modChan c fun ch =>
    (ch.modOwner i fun o =>
      { o with
        ts := { o.ts with sealedQ := rest }
        trace := if rest.isEmpty then o.trace.advance.drained o.keyed else o.trace.advance }).settleMode.watchFull s.tclk |>.pushCount 0x3C 0x0A80 s.now 64
  if r.irqOnBlock then s.raiseVector c (16 + i.val) else s

/-- The block write fails: FAULT, ACTIVE clear, staged records lost (R171). -/
def State.traceBlockFailed (s : State) (c : Chan) (i : Slot) : State :=
  let s := s.modChan c fun ch =>
    ((ch.modOwner i fun o => { o with trace := o.trace.failed }).discardTrace
      s.now i).watchFull s.tclk
  (s.event c { unit := 0x3D, num := 0x0B02, pay := payAt 8 i.val }).raiseIrq c irqRingFault

/-- TRACE_BLOCK_WRITTEN (R153, R154, R171): the oldest sealed block is accepted at HEAD, or its write fails. -/
def execTraceBlockWritten (c : Chan) (i : Slot) (ok : Bool) (s : State) : Host.Outcome State Fault Refusal :=
  s.whenHost c fun s =>
    let o := (s.chan c).owner i
    match o.ts.sealedQ with
    | [] => .next s
    | b :: rest =>
      if !o.trace.active || o.trace.full || !(s.chan c).dmaRuns .trace i then .next s
      else
        let s := s.modChan c (·.wrote .trace)
        .next (if ok then s.traceBlockDone c i b rest else s.traceBlockFailed c i)

/-- Faithful mode is abandoned for bounded mode (R159). -/
def State.abandonFaithful (s : State) (c : Chan) (f : Slot) : State :=
  let s := s.modChan c fun ch =>
    let hs := ch.chute.held
    let ch := { ch with chute := { ch.chute with held := [], fullSince := none } }
    let ch := match hs.head?, hs.getLast? with
      | some a, some b => ch.lose s.now f lossAbandoned hs.length a.t b.t
      | _, _ => ch
    (ch.put 0x300 2 1).orBits 0x300 6 4
  (s.event c { unit := 0x3D, num := 0x0B00, pay := payAt 8 1 ||| payAt 9 2 ||| payAt 10 1 }).markSaved

/-- FAITHFUL_TIMEOUT (R159): due when the faithful owner's ring has been FULL beyond the timeout. -/
def execFaithfulTimeout (c : Chan) (s : State) : Host.Outcome State Fault Refusal :=
  s.whenChan c fun s =>
    let ch := s.chan c
    match ch.faithful, ch.chute.fullSince with
    | some f, some t0 =>
      let r := (ch.owner f).trace
      if r.full && r.active && decide (t0 + tclkOfMs (ch.nat 0x300 9) < s.tclk) then .next (s.abandonFaithful c f) else .next s
    | _, _ => .next s

/-- TRACE_DISTURBED (R157, R171, R172): the disturbance counter advances in bounded mode, a device fault. -/
def execTraceDisturbed (c : Chan) (cycles : Nat) (s : State) : Host.Outcome State Fault Refusal :=
  s.whenChan c fun s =>
    if (s.chan c).traceMode = 1 ∧ cycles ≠ 0 then
      let s := s.ccount c 0x300 4 cycles 64
      let s := s.event c { unit := 0x3D, num := 0x0B01, pay := s.cget c 0x300 4 }
      let s := s.changeTraceMode c 0 0 3
      .next (s.modChan c fun ch =>
        let ch := ch.orBits 0x300 6 2
        { ch with chute := { ch.chute with locked := true } }).markSaved
    else .next s

/-- The open and sealed trace blocks of slot i are discarded and counted as lost (R171). -/
def Channel.loseStaged (ch : Channel) (now : T64) (i : Slot) : Channel := ch.loseTrace now i lossStaging

/-- STAGING_PARITY_ERROR (R171): the affected blocks are discarded unsealed and staging is cleared. -/
def execStagingParityError (c : Chan) (s : State) : Host.Outcome State Fault Refusal :=
  s.whenChan c fun s =>
    .next (s.modChan c fun ch => ((allSlots.foldl (fun ch i => ch.loseStaged s.now i) ch).orBits 0x300 6 8).watchFull s.tclk)

end Sys2Proof.Machine
end

