-- ==== Sys2Proof/Machine/DictCheck.lean ====
section
/-! DEFINITION. The checks of a dictionary operation in the order of R361 (R350 to R357, R370), and the form every
write row takes: check, commit, answer. -/

namespace Sys2Proof.Machine

open Sys2Proof

/-! ## Abort codes (R370) -/

abbrev AbortCode := BitVec 32
def abortServiceUnknown : AbortCode := 0x01000001
def abortNoSession : AbortCode := 0x01000002
def abortSessionLimit : AbortCode := 0x01000003
def abortSubscriptionLimit : AbortCode := 0x01000004
def abortSegment : AbortCode := 0x01000005
def abortAuth : AbortCode := 0x01000006
def abortNotFound : AbortCode := 0x02000001
def abortReadOnly : AbortCode := 0x02000002
def abortWriteOnly : AbortCode := 0x02000003
def abortDenied : AbortCode := 0x02000004
def abortQuarantined : AbortCode := 0x02000005
def abortLength : AbortCode := 0x03000001
def abortInvalid : AbortCode := 0x03000002
def abortRange : AbortCode := 0x03000003
def abortNotReady : AbortCode := 0x04000001
def abortConflict : AbortCode := 0x04000002
def abortStep : AbortCode := 0x04000003
def abortKey : AbortCode := 0x04000004
def abortExhausted : AbortCode := 0x05000001
def abortSaveFailed : AbortCode := 0x05000002
def abortHardware : AbortCode := 0x06000001

/-! ## Objects -/

/-- Where an index lies (R350): a module object, or an offset in a channel's block; none in the reserved ranges. -/
inductive Place where
  | module (idx : Nat)
  | channel (c : Chan) (off : Nat)
deriving DecidableEq, Repr

/-- The place of an index (R9, R350). -/
def placeOf (idx : Nat) : Option Place :=
  if 0x1000 ≤ idx ∧ idx < 0x5000 then some (.module idx)
  else if 0x8000 ≤ idx ∧ idx < 0x10000 then
    some (.channel (Fin.ofNat 8 ((idx - 0x8000) / 0x1000)) ((idx - 0x8000) % 0x1000))
  else none

/-- The index of an offset in a channel's block (R9). -/
def chanIndex (c : Chan) (off : Nat) : Nat := 0x8000 + 0x1000 * c.val + off

/-- The map's member at a place (R379). -/
def Place.member (p : Place) (sub : Nat) : Option Member :=
  match p with
  | .module idx => DictMap.lookupModule idx sub
  | .channel _ off => DictMap.lookupChannel off sub

/-- The server of a place answers (R350, R398, R446, R450, R463): the Reeve for module objects; for channel objects the
Steward, or the Reeve while the channel is in Quarantine; for a channel without power, the Reeve with 0x8000:01 to :03. -/
def State.serves (s : State) (p : Place) (sub : Nat) (write : Bool) : Bool :=
  match p with
  | .module idx =>
    s.reeve.powered && s.reeve.running && (!s.reeve.recovery || idx == 0x1000 || idx == 0x1030)
  | .channel c off =>
    let own := off == 0 && (1 ≤ sub && sub ≤ 3) && !write
    match (s.chan c).st with
    | .poweredDown => s.reeveUp && own
    | .quarantine => s.reeveUp
    | _ => s.live && ((s.chan c).steward || (own && s.reeveUp))

/-- The path carries a request to the server (R350, R446, R450): a mailbox needs its channel's Steward, or the Reeve in its place in
Quarantine, but for 0x8000:01 to :03 of its own channel; TLX needs the Reeve. -/
def State.carries (s : State) (p : Path) (pl : Place) (sub : Nat) (write : Bool) : Bool :=
  match p with
  | .mailbox c =>
    let ch := s.chan c
    let own := pl == .channel c 0 && (1 ≤ sub && sub ≤ 3) && !write
    ch.steward || ch.st == .quarantine || own
  | .tlx _ => s.reeve.running

/-- The rights of the path allow a write under a right (R355): ACCESS_DENIED otherwise. -/
def mayWrite (p : Path) (r : Right) : Bool :=
  match p, r with
  | .mailbox _, _ => true
  | .tlx .privileged, _ => true
  | .tlx .writer, .pw => false
  | .tlx .writer, _ => true
  | .tlx .reader, _ => false

/-- A privileged-read member may be read on the path (R356). -/
def mayReadPriv (p : Path) : Bool :=
  match p with
  | .mailbox _ => true
  | .tlx r => r == .privileged

/-! ## Values -/

/-- Bytes of a fixed-length type (R352). -/
def Ty.size : Ty → Option Nat
  | .bool => some 1 | .u n => some n | .i n => some n | .f32 => some 4 | .t64 => some 8
  | .time80 => some 10 | .date => some 4 | .str _ => none | .domain _ => none

/-- A number of n bytes, sign-extended for a signed type. -/
def signExtend (n v : Nat) : Word :=
  if 2 ^ (8 * n - 1) ≤ v then wInt ((v : Int) - (2 : Int) ^ (8 * n)) else w v

/-- The value that little-endian bytes encode. -/
def Ty.decode (t : Ty) (b : Bytes) : Word :=
  match t with
  | .i n => signExtend n (leNat b)
  | _ => w (leNat b)

/-- The value as an integer: signed for the signed types, else the unsigned number. -/
def Ty.int (t : Ty) (v : Word) : Int :=
  match t with
  | .i _ => v.toInt
  | _ => (v.toNat : Int)

/-- Length check (R354, R393). -/
def lengthOk (m : Member) (n : Nat) : Bool :=
  match m.ty, m.range with
  | _, .exact k => n == k
  | .str max, _ => n ≤ max
  | .domain max, _ => n ≤ max
  | t, _ => t.size == some n

/-- Check 8 of R361: encoding, listed set, step or parity, dates (R352, R357, R365, R366). -/
def valueOk (m : Member) (data : Bytes) (v : Word) : Bool :=
  (match m.ty with
   | .bool => v.toNat ≤ 1
   | .time80 => leField data 0 4 < 1000000000
   | .date => v == 0 || dateDayOk v
   | _ => true) &&
  (match m.range with
   | .set vals => vals.contains v.toNat
   | .stepped lo _ step => (m.ty.int v - lo) % (step : Int) == 0
   | .zeroOr lo _ step => v == 0 || (m.ty.int v - lo) % (step : Int) == 0
   | .bits mask => v.toNat &&& mask == v.toNat
   | .ethertype => !([0x88F7, 0x8100, 0x88A8].contains v.toNat)
   | _ => true)

/-- Check 9 of R361: bounds. -/
def boundsOk (m : Member) (v : Word) : Bool :=
  match m.range with
  | .bounds lo hi => lo ≤ m.ty.int v && m.ty.int v ≤ hi
  | .stepped lo hi _ => lo ≤ m.ty.int v && m.ty.int v ≤ hi
  | .zeroOr lo hi _ => v == 0 || (lo ≤ m.ty.int v && m.ty.int v ≤ hi)
  | .ethertype => 0x0600 ≤ v.toNat
  | .anyDate => v == 0 || dateYear v == 0xFFFF || (2000 ≤ dateYear v && dateYear v ≤ 2399)
  | _ => true

/-! ## The check order of R361 -/

/-- Checks 1 to 5 and 6 of a write: the member, or the abort. -/
def State.checkAccess (s : State) (p : Path) (idx sub : Nat) : Except AbortCode (Place × Member) :=
  match placeOf idx with
  | none => .error abortNotFound
  | some pl =>
    if !s.serves pl sub true || !s.carries p pl sub true then .error abortNotReady
    else match pl.member sub with
      | none => .error abortNotFound
      | some m =>
        if m.right = .ro ∨ m.right = .const then .error abortReadOnly
        else if !mayWrite p m.right then .error abortDenied
        else match pl with
          | .channel c _ =>
            if (s.chan c).st = .quarantine ∧ m.quar = false then .error abortQuarantined else .ok (pl, m)
          | .module _ => .ok (pl, m)

/-- Checks 1 to 5 of a read: the member, or the abort. -/
def State.checkRead (s : State) (p : Path) (idx sub : Nat) : Except AbortCode (Place × Member) :=
  match placeOf idx with
  | none => .error abortNotFound
  | some pl =>
    if !s.serves pl sub false || !s.carries p pl sub false then .error abortNotReady
    else match pl.member sub with
      | none => .error abortNotFound
      | some m =>
        if m.right = .wo then .error abortWriteOnly
        else if m.privRead && !mayReadPriv p then .error abortDenied
        else .ok (pl, m)

/-- Checks 7 to 10 of a write. -/
def State.checkValue (s : State) (m : Member) (data : Bytes) : AbortCode :=
  let v := m.ty.decode data
  if !lengthOk m data.length then abortLength
  else if !valueOk m data v then abortInvalid
  else if !boundsOk m v then abortRange
  else if m.pers = .s ∧ bitOf (s.mget 0x1020 2) 1 = true then abortSaveFailed
  else 0

/-- Checks 1 to 10 of a write: the member, or the abort. -/
def State.checkWrite (s : State) (p : Path) (idx sub : Nat) (data : Bytes) : Except AbortCode (Place × Member) :=
  match s.checkAccess p idx sub with
  | .error e => .error e
  | .ok (pl, m) => if s.checkValue m data = 0 then .ok (pl, m) else .error (s.checkValue m data)

/-- What a commit answers: an abort code of check 11 with the state it leaves, or 0. -/
abbrev Commit := State → AbortCode × State

/-- A commit that always succeeds. -/
def commitOk (f : State → State) : Commit := fun s => (0, f s)

/-- A subscription to the member with the index and subindex has a commit to report (R335, R344). -/
def Session.touched (x : Session) (idx sub : Nat) : Session :=
  { x with subs := x.subs.map fun (u : Sub) => { u with dirty := u.dirty || (u.idx == idx && u.sub == sub) } }

/-- Every session learns of a commit to the member. -/
def State.touched (s : State) (idx sub : Nat) : State :=
  { s with sessions := s.sessions.map fun (x : Session) => x.touched idx sub }

/-- After a commit: a subscription has it to report (R335), a saved member is pending in the journal (R359), and the Steward's DICT_WRITE records a write to a
channel object (R180). -/
def State.committed (s : State) (pl : Place) (m : Member) (idx sub : Nat) : State :=
  let s := (if m.pers = .s then s.markSaved else s).touched idx sub
  match pl with
  | .channel c _ =>
    if (s.chan c).steward then s.event c { unit := 0x40, num := 0x0D04, pay := payAt 8 idx ||| payAt 10 sub } else s
  | .module _ => s

/-- A dictionary write: checks 1 to 10, then the commit with check 11 (R361, R362). -/
def State.write (s : State) (p : Path) (idx sub : Nat) (data : Bytes) (commit : Commit) : AbortCode × State :=
  match s.checkWrite p idx sub data with
  | .error e => (e, s)
  | .ok (pl, m) =>
    match commit s with
    | (code, s') => if code = 0 then (0, s'.committed pl m idx sub) else (code, s')

/-- The path carries requests: the channel's mailbox, or TLX (the service port stays up in a TCXO failure, R35). -/
def State.pathUp (s : State) (p : Path) : Bool :=
  match p with
  | .mailbox c => s.hostUp c
  | .tlx _ => s.reeve.powered

/-- A write row of its own: the write, and its abort code as the answer; nothing reaches a module without power. -/
def State.writeRow (s : State) (p : Path) (idx sub : Nat) (data : Bytes) (commit : Commit) :
    Host.Outcome State Fault Refusal :=
  if !s.pathUp p then .next s
  else
    match s.write p idx sub data commit with
    | (code, s') => .next (s'.answer code)

end Sys2Proof.Machine
end

