-- ==== Sys2Proof/Machine/Float.lean ====
section
/-! DEFINITION. The number formats of the data path (R75, R77, R111, R116): exact values, rounding to nearest even,
encodings and FP32 arithmetic. -/

namespace Sys2Proof.Machine

open Sys2Proof

/-- A value of a float format: NaN, an infinity, or a sign with an exact magnitude (zeros keep their sign). -/
inductive Num where
  | nan
  | inf (neg : Bool)
  | val (neg : Bool) (mag : Rat)
deriving DecidableEq, Repr

/-- 2 to an integer power. -/
def pow2 (e : Int) : Rat := if 0 ≤ e then (2 ^ e.toNat : Nat) else 1 / ((2 ^ (-e).toNat : Nat) : Rat)

/-- ⌊log2 q⌋ of a positive rational. -/
def log2Floor (q : Rat) : Int :=
  let e : Int := (q.num.natAbs.log2 : Int) - (q.den.log2 : Int)
  if pow2 e ≤ q then (if pow2 (e + 1) ≤ q then e + 1 else e) else e - 1

/-- The nearest whole number to a non-negative rational, ties to even. -/
def roundEven (q : Rat) : Nat :=
  let n := q.floor.toNat
  let r := q - n
  if r < 1 / 2 then n else if 1 / 2 < r then n + 1 else if n % 2 = 0 then n else n + 1

/-- A positive magnitude rounded to nearest even with m fraction bits, the exponent held at `emin` or above. -/
def roundMag (m : Nat) (emin : Int) (q : Rat) : Rat :=
  if q = 0 then 0
  else
    let u := pow2 (max (log2Floor q) emin - m)
    (roundEven (q / u) : Rat) * u

/-- A float format: fraction bits, exponent bits, bias, infinities, largest finite value. -/
structure FloatFmt where
  m : Nat
  e : Nat
  bias : Nat
  hasInf : Bool
  top : Rat
deriving Repr

def FloatFmt.emin (f : FloatFmt) : Int := 1 - f.bias

def fmtFp32 : FloatFmt := { m := 23, e := 8, bias := 127, hasInf := true, top := (2 - pow2 (-23)) * pow2 127 }
def fmtBf16 : FloatFmt := { m := 7, e := 8, bias := 127, hasInf := true, top := (2 - pow2 (-7)) * pow2 127 }
def fmtE4m3 : FloatFmt := { m := 3, e := 4, bias := 7, hasInf := false, top := 448 }
def fmtE5m2 : FloatFmt := { m := 2, e := 5, bias := 15, hasInf := true, top := 57344 }

/-- The value of a pattern. -/
def FloatFmt.decode (f : FloatFmt) (v : Nat) : Num :=
  let frac := v % 2 ^ f.m
  let ex := v / 2 ^ f.m % 2 ^ f.e
  let neg := v / 2 ^ (f.m + f.e) % 2 == 1
  if ex = 2 ^ f.e - 1 ∧ f.hasInf = true then (if frac = 0 then .inf neg else .nan)
  else if ex = 2 ^ f.e - 1 ∧ frac = 2 ^ f.m - 1 then .nan
  else if ex = 0 then .val neg ((frac : Rat) * pow2 (f.emin - f.m))
  else .val neg (((2 ^ f.m + frac : Nat) : Rat) * pow2 ((ex : Int) - f.bias - f.m))

/-- The sign bit in place. -/
def FloatFmt.sign (f : FloatFmt) (neg : Bool) : Nat := if neg then 2 ^ (f.m + f.e) else 0

/-- The pattern of a magnitude that the format holds exactly. -/
def FloatFmt.encodeMag (f : FloatFmt) (q : Rat) : Nat :=
  if q = 0 then 0
  else
    let e := log2Floor q
    if e < f.emin then (q / pow2 (f.emin - f.m)).floor.toNat
    else (e + f.bias).toNat * 2 ^ f.m + ((q / pow2 (e - f.m)).floor.toNat - 2 ^ f.m)

/-- A NaN pattern of the format: which one, the manual leaves open. -/
def FloatFmt.nan (f : FloatFmt) : Nat :=
  let r := Config.nanRaw f.m
  let frac := if f.hasInf then r % (2 ^ f.m - 1) + 1 else 2 ^ f.m - 1
  f.sign (r / 2 ^ f.m % 2 == 1) + (2 ^ f.e - 1) * 2 ^ f.m + frac

/-- The pattern of a value the format holds exactly; an infinity in a format without one is its largest finite value. -/
def FloatFmt.encode (f : FloatFmt) (x : Num) : Nat :=
  match x with
  | .nan => f.nan
  | .inf neg => f.sign neg + (if f.hasInf then (2 ^ f.e - 1) * 2 ^ f.m else f.encodeMag f.top)
  | .val neg q => f.sign neg + f.encodeMag q

/-- Conversion with saturation to the largest finite value (R77). -/
def FloatFmt.saturate (f : FloatFmt) (x : Num) : Num :=
  match x with
  | .nan => .nan
  | .inf neg => .val neg f.top
  | .val neg q =>
    let r := roundMag f.m f.emin q
    .val neg (if f.top < r then f.top else r)

/-- IEEE rounding: a magnitude past the largest finite value is an infinity. -/
def FloatFmt.round (f : FloatFmt) (x : Num) : Num :=
  match x with
  | .val neg q =>
    let r := roundMag f.m f.emin q
    if f.top < r then .inf neg else .val neg r
  | x => x

/-- An exact rational as a value. -/
def numOf (q : Rat) : Num := .val (decide (q < 0)) (if q < 0 then -q else q)

/-- The signed magnitude of a finite value; 0 else. -/
def Num.rat (x : Num) : Rat :=
  match x with
  | .val neg q => if neg then -q else q
  | _ => 0

def Num.neg (x : Num) : Num :=
  match x with
  | .nan => .nan
  | .inf n => .inf (!n)
  | .val n q => .val (!n) q

def Num.isNan (x : Num) : Bool := match x with | .nan => true | _ => false
def Num.isInf (x : Num) : Bool := match x with | .inf _ => true | _ => false
def Num.negative (x : Num) : Bool := match x with | .nan => false | .inf n => n | .val n _ => n
def Num.isZero (x : Num) : Bool := match x with | .val _ q => q == 0 | _ => false

/-- Exact sum, signs of zeros and special values by IEEE 754. -/
def Num.addExact (a b : Num) : Num :=
  match a, b with
  | .nan, _ => .nan
  | _, .nan => .nan
  | .inf x, .inf y => if x = y then .inf x else .nan
  | .inf x, _ => .inf x
  | _, .inf y => .inf y
  | .val x p, .val y q =>
    if p = 0 ∧ q = 0 then .val (x && y) 0 else numOf ((Num.val x p).rat + (Num.val y q).rat)

/-- Exact product. -/
def Num.mulExact (a b : Num) : Num :=
  match a, b with
  | .nan, _ => .nan
  | _, .nan => .nan
  | .inf x, b => if b.isZero then .nan else .inf (x != b.negative)
  | a, .inf y => if a.isZero then .nan else .inf (y != a.negative)
  | .val x p, .val y q => .val (x != y) (p * q)

/-- Exact quotient. -/
def Num.divExact (a b : Num) : Num :=
  match a, b with
  | .nan, _ => .nan
  | _, .nan => .nan
  | .inf _, .inf _ => .nan
  | .inf x, b => .inf (x != b.negative)
  | a, .inf y => .val (a.negative != y) 0
  | .val x p, .val y q => if q = 0 then (if p = 0 then .nan else .inf (x != y)) else .val (x != y) (p / q)

/-! FP32 arithmetic, each operation rounded to nearest even (R75, R122). -/
def fadd (a b : Num) : Num := fmtFp32.round (a.addExact b)
def fsub (a b : Num) : Num := fmtFp32.round (a.addExact b.neg)
def fmul (a b : Num) : Num := fmtFp32.round (a.mulExact b)
def fdiv (a b : Num) : Num := fmtFp32.round (a.divExact b)

/-- a < b for values that are not NaN. -/
def Num.lt (a b : Num) : Bool :=
  match a, b with
  | .nan, _ => false
  | _, .nan => false
  | .inf x, .inf y => x && !y
  | .inf x, _ => x
  | _, .inf y => !y
  | a, b => decide (a.rat < b.rat)

/-- The float format of a data format; FP32 for the integer formats. -/
def floatOf (f : Fmt) : FloatFmt :=
  match f with
  | .e4m3 => fmtE4m3 | .e5m2 => fmtE5m2 | .bf16 => fmtBf16 | _ => fmtFp32

/-- Bytes of an element (R87). -/
def fmtBytes : Fmt → Nat
  | .int8 => 1 | .int16 => 2 | .e4m3 => 1 | .e5m2 => 1 | .bf16 => 2 | .fp32 => 4

/-- The integer of a pattern of n bits, two's complement. -/
def signedOf (n v : Nat) : Int := if 2 ^ (n - 1) ≤ v % 2 ^ n then (v % 2 ^ n : Nat) - (2 ^ n : Nat) else (v % 2 ^ n : Nat)

/-- The exact value of an element of a data format. -/
def fmtValue (f : Fmt) (v : BitVec 32) : Num :=
  match f with
  | .int8 => numOf (signedOf 8 v.toNat : Rat)
  | .int16 => numOf (signedOf 16 v.toNat : Rat)
  | f => (floatOf f).decode v.toNat

/-- A value rounded to a whole number, ties to even, and saturated to n bits; NaN gives 0 (R77). -/
def toSigned (n : Nat) (x : Num) : Nat :=
  let top : Int := (2 ^ (n - 1) : Nat) - 1
  let i : Int := match x with
    | .nan => 0
    | .inf neg => if neg then -top - 1 else top
    | .val neg q => let r : Int := roundEven q; if neg then -r else r
  let i := if top < i then top else if i < -top - 1 then -top - 1 else i
  (i % (2 ^ n : Nat)).toNat

/-- Output conversion of R77: nearest even, saturated to the largest finite value, NaN to 0 in the integer formats. -/
def fmtConvert (f : Fmt) (x : Num) : BitVec 32 :=
  match f with
  | .int8 => BitVec.ofNat 32 (toSigned 8 x)
  | .int16 => BitVec.ofNat 32 (toSigned 16 x)
  | f => BitVec.ofNat 32 ((floatOf f).encode ((floatOf f).saturate x))

/-- The smallest magnitude a format holds. -/
def fmtTiny (f : Fmt) : Rat :=
  match f with
  | .int8 | .int16 => 0
  | f => pow2 ((floatOf f).emin - (floatOf f).m)

/-- Output conversion of the Stillroom (R126): as R77, and what lies below the smallest magnitude is a zero of its sign. -/
def fmtConvertStill (f : Fmt) (x : Num) : BitVec 32 :=
  match x with
  | .val neg q => fmtConvert f (if q < fmtTiny f then .val neg 0 else .val neg q)
  | x => fmtConvert f x

/-- An FP32 pattern's value. -/
def fp32 (v : BitVec 32) : Num := fmtFp32.decode v.toNat

/-- The FP32 pattern of a value. -/
def toFp32 (x : Num) : BitVec 32 := BitVec.ofNat 32 (fmtFp32.encode (fmtFp32.round x))

end Sys2Proof.Machine
end

