-- ==== Sys2Proof/Machine/Stillroom.lean ====
section
/-! DEFINITION. The Loom's sums and simple path (R75, R77), and the Stillroom (R110 to R137, R458). -/

namespace Sys2Proof.Machine

open Sys2Proof

/-! ## The Loom (R75) -/

/-- An activation or weight element of the Loom: 8-bit formats in the low byte, BF16 in 16 bits. -/
def loomValue (f : Fmt) (v : BitVec 16) : Num := fmtValue f (v.setWidth 32)

/-- The integer of an INT8 activation, signed or unsigned. -/
def actInt (signed : Bool) (v : BitVec 16) : Int :=
  if signed then signedOf 8 v.toNat else ((v.toNat % 256 : Nat) : Int)

/-- The format pairs of R75. -/
def loomPair (w a : Fmt) : Bool :=
  match w, a with
  | .int8, .int8 => true
  | .e4m3, .e4m3 => true | .e4m3, .e5m2 => true | .e5m2, .e4m3 => true | .e5m2, .e5m2 => true
  | .bf16, .bf16 => true
  | _, _ => false

/-- One column, added onto `acc`: a wrapping 32-bit integer sum, or an FP32 sum of exact products rounded at each addition.
DESIGN CHOICE (log entry 120): the FP32 sum goes from row 0 up; R75 names no order. -/
def loomColumn (wf af : Fmt) (signedAct : Bool) (acc : BitVec 32) (ws as_ : List (BitVec 16)) : BitVec 32 :=
  match wf with
  | .int8 =>
    (ws.zip as_).foldl (fun acc p => acc + BitVec.ofInt 32 (signedOf 8 p.1.toNat * actInt signedAct p.2)) acc
  | _ => toFp32 ((ws.zip as_).foldl
      (fun acc p => fadd acc ((loomValue wf p.1).mulExact (loomValue af p.2))) (fp32 acc))

/-! ## The simple path (R77) -/

/-- The element of an optional per-column list. -/
def columnOf (l : Option (List (BitVec 32))) (i : Nat) : Option (BitVec 32) :=
  match l with
  | none => none
  | some v => if v.length = 1 then v[0]? else v[i]?

/-- Clamp to [low, high]; a NaN stays. -/
def clampNum (lo hi x : Num) : Num := if x.lt lo then lo else if hi.lt x then hi else x

/-- One sum through the selected steps, in their fixed order, and the output conversion. -/
def simpleElement (r : SimpleRow) (isInt : Bool) (i : Nat) (v : BitVec 32) : BitVec 32 :=
  let x : Num :=
    if isInt then
      let b := (columnOf r.bias i).getD 0
      numOf ((v + b).toInt : Rat)
    else match columnOf r.bias i with | some b => fadd (fp32 v) (fp32 b) | none => fp32 v
  let x := match columnOf r.scale i with | some k => fmul (fmtFp32.round x) (fp32 k) | none => x
  let x := match r.clamp with | some (lo, hi) => clampNum (fp32 lo) (fp32 hi) x | none => x
  let x := match r.relu with
    | some k => if x.lt (.val false 0) then (if k = 0 then .val false 0 else fmul x (fp32 k)) else x
    | none => x
  fmtConvert r.out x

/-- The sums of a Loom through its simple path. -/
def simpleRow (r : SimpleRow) (isInt : Bool) (sums : List (BitVec 32)) : List (BitVec 32) :=
  sums.zipIdx.map fun p => simpleElement r isInt p.2 p.1

/-! ## Wide format (R116) -/

/-- Rounding to the wide exponent range with m fraction bits: nearest even, no subnormals. -/
def wideRound (m : Nat) (x : Num) : Num :=
  match x with
  | .val neg q =>
    let r := roundMag m (-510) q
    if r < pow2 (-510) then .val neg 0 else if pow2 512 ≤ r then .inf neg else .val neg r
  | x => x

/-- A wide sum in the accumulator's 30-bit mantissa. -/
def wideAdd (a b : Num) : Num := wideRound 30 (a.addExact b)

/-- A wide pattern with m fraction bits: sign, 10-bit exponent biased by 511, mantissa. -/
def widePattern (m : Nat) (x : Num) : Nat :=
  match x with
  | .nan => 1023 * 2 ^ m + 1
  | .inf neg => (if neg then 2 ^ (10 + m) else 0) + 1023 * 2 ^ m
  | .val neg q =>
    (if neg then 2 ^ (10 + m) else 0) +
    (if q = 0 then 0
     else
      let e := log2Floor q
      (e + 511).toNat * 2 ^ m + ((q / pow2 (e - m)).floor.toNat - 2 ^ m))

/-- The value of a wide pattern with m fraction bits (R116). -/
def wideValue (m : Nat) (v : Nat) : Num :=
  let ex := v / 2 ^ m % 1024
  let neg := v / 2 ^ (10 + m) % 2 == 1
  if ex = 0 then .val neg 0
  else if ex = 1023 then (if v % 2 ^ m = 0 then .inf neg else .nan)
  else .val neg (((2 ^ m + v % 2 ^ m : Nat) : Rat) * pow2 ((ex : Int) - 511 - m))

/-! ## Segment tables (R112, R113) -/

/-- c: 2^(−1/2) rounded to FP32. -/
def rootHalf : Rat := (fp32 0x3F3504F3).rat

/-- The pinned end knots of table t: 0 exp, 1 log2, 2 reciprocal, 3 reciprocal square root. -/
def endKnots (t : Nat) : Rat × Rat :=
  match t with
  | 0 => (1, 2)
  | 1 => (0, 1)
  | 2 => (1, 1 / 2)
  | _ => (1, rootHalf)

/-- The function values at the inner knots 1 to 15, in units of 2^-30. -/
def trueKnots (t : Nat) : List Nat :=
  match t with
  | 0 => [1121280436, 1170923762, 1222764986, 1276901417, 1333434672, 1392470869, 1454120821, 1518500250, 1585730000,
      1655936265, 1729250827, 1805811301, 1885761398, 1969251188, 2056437387]
  | 1 => [93912511, 182455581, 266210141, 345667660, 421247625, 493310944, 562170370, 628098702, 691335320, 752091421,
      810554283, 866890747, 921250079, 973766362, 1024560487]
  | 2 => [1010580540, 954437177, 904203641, 858993459, 818089009, 780903145, 746950834, 715827883, 687194767, 660764199,
      636291451, 613566757, 592409282, 572662306, 554189329]
  | _ => [1041682578, 1012333500, 985333074, 960383883, 937238702, 915690104, 895562589, 876706528, 858993459, 842312387,
      826566842, 811672525, 797555404, 784150157, 771398898]

/-- How far below and above the function an inner knot may lie for the error between knots to stay within R113, which includes the
error of the segments themselves: of 2^x a 2^-10th part, of log2 2^-12, of the reciprocal a 2^-11th and a 2^-16th part, of the
reciprocal square root a 2^-11th part. -/
def knotRange (t : Nat) (v : Rat) : Rat × Rat :=
  match t with
  | 0 => (v - v / 1024, v + v / 1024)
  | 1 => (v - 1 / 4096, v + 1 / 4096)
  | 2 => (v - v / 2048, v + v / 65536)
  | _ => (v - v / 2048, v + v / 2048)

/-- The last bit of a knot of 20 significant bits: 2^-19 in [1, 2) for exp, 2^-20 below 1. -/
def knotUnit (t : Nat) : Nat := if t = 0 then 2 ^ 19 else 2 ^ 20

/-- Knot k of table t: the ends are pinned; an inner one is what the mask ROM holds (R115), any value of 20 significant bits
within its range, so that the bounds of R113 and the monotonicity of R114 hold (log entry 25). -/
def knot (t k : Nat) : Rat :=
  let ends := endKnots t
  if k = 0 then ends.1
  else if 16 ≤ k then ends.2
  else
    let r := knotRange t (((trueKnots t).getD (k - 1) 0 : Nat) / (2 ^ 30 : Nat))
    let u : Rat := (knotUnit t : Nat)
    let lo := (r.1 * u).ceil.toNat
    let hi := (r.2 * u).floor.toNat
    ((lo + Config.segmentKnot t k % (hi + 1 - lo) : Nat) : Rat) / u

/-- The table at u = u0 + f with f in [0, 1): segment k = ⌊16 f⌋, linear between its knots. -/
def table (t : Nat) (f : Rat) : Rat :=
  let k := (f * 16).floor.toNat
  knot t k + (knot t (k + 1) - knot t k) * (f * 16 - k)

/-- Mantissa fraction and exponent of a positive magnitude: q = (1 + f) × 2^e. -/
def splitMag (q : Rat) : Rat × Int :=
  let e := log2Floor q
  (q / pow2 e - 1, e)

/-- log2(e) rounded to FP32. -/
def log2E : Num := fp32 0x3FB8AA3B

/-- ln 2 rounded to FP32. -/
def ln2 : Num := fp32 0x3F317218

/-! ## Primitives (R112, R125) -/

/-- e^x in the wide format. -/
def stillExp (x : Num) : Num :=
  match x with
  | .nan => .nan
  | .inf neg => if neg then .val false 0 else .inf false
  | x =>
    match fmul x log2E with
    | .nan => .nan
    | .inf neg => if neg then .val false 0 else .inf false
    | y =>
      let n := y.rat.floor
      if 600 < n then .inf false
      else if n < -600 then .val false 0
      else wideRound 14 (.val false (table 0 (y.rat - n) * pow2 n))

/-- log2 x, in FP32. -/
def stillLog2 (x : Num) : Num :=
  match x with
  | .nan => .nan
  | .inf neg => if neg then .nan else .inf false
  | .val neg q =>
    if q = 0 then .inf true
    else if neg then .nan
    else let (f, e) := splitMag q; fmtFp32.round (numOf ((e : Rat) + table 1 f))

/-- ln x, in FP32. -/
def stillLn (x : Num) : Num := fmul (stillLog2 x) ln2

/-- 1/x, rounded by the rounding given. -/
def recipWith (rnd : Num → Num) (x : Num) : Num :=
  match x with
  | .nan => .nan
  | .inf neg => .val neg 0
  | .val neg q =>
    if q = 0 then .inf neg else let (f, e) := splitMag q; rnd (.val neg (table 2 f * pow2 (-e)))

/-- 1/√x, in FP32. -/
def stillRsqrt (x : Num) : Num :=
  match x with
  | .nan => .nan
  | .inf neg => if neg then .nan else .val false 0
  | .val neg q =>
    if q = 0 then .inf neg
    else if neg then .nan
    else
      let (f, e) := splitMag q
      if e % 2 = 0 then fmtFp32.round (.val false (table 3 f * pow2 (-(e / 2))))
      else fmtFp32.round (.val false (table 3 f * rootHalf * pow2 (-((e - 1) / 2))))

def one : Num := .val false 1

/-- 1/(1 + e^−x), the exponential and the sum in the wide format (R116, R117). -/
def stillSigmoid (x : Num) : Num :=
  match x with
  | .nan => .nan
  | .inf neg => if neg then .val false 0 else one
  | .val neg q =>
    if q = 0 then .val false (1 / 2)
    else fmtFp32.round (recipWith (wideRound 14) (wideAdd (stillExp (.val (!neg) q)) one))

/-- 2 × sigmoid(2x) − 1. -/
def stillTanh (x : Num) : Num :=
  match x with
  | .nan => .nan
  | .inf neg => .val neg 1
  | .val neg q =>
    if q = 0 then .val neg 0
    else fsub (fmul (numOf 2) (stillSigmoid (fmul (numOf 2) x))) one

/-- x × sigmoid(k x), for SiLU (k = 1) and the GELU sigmoid form (k = 1.702 in FP32). -/
def stillGate (k x : Num) : Num :=
  match x with
  | .nan => .nan
  | .inf neg => if neg then .val true 0 else .inf false
  | .val neg q => if q = 0 then .val neg 0 else fmul x (stillSigmoid (fmul k x))

/-- 1.702 rounded to FP32. -/
def geluK : Num := fmtFp32.round (numOf (1702 / 1000))

/-- An element recipe; none for the row recipes. -/
def elementFn (r : Recipe) : Option (Num → Num) :=
  match r with
  | .exp => some stillExp
  | .log2 => some stillLog2
  | .ln => some stillLn
  | .recip => some (recipWith fmtFp32.round)
  | .rsqrt => some stillRsqrt
  | .sigmoid => some stillSigmoid
  | .tanh => some stillTanh
  | .silu => some (stillGate one)
  | .gelu => some (stillGate geluK)
  | .softmax | .rowNorm | .fused _ => none

/-- Activations of recipe 0x30 by their recipe codes, 0 for none; no other (R124; the codes: log entry 119). -/
def fusedAct (a : Nat) : Option (Num → Num) :=
  match a with
  | 0 => some id
  | 0x10 => some stillSigmoid
  | 0x11 => some stillTanh
  | 0x12 => some (stillGate one)
  | 0x13 => some (stillGate geluK)
  | _ => none

/-- The recipe of a code, with the activation of recipe 0x30; none outside the recipe table (R115, R117, R124). -/
def recipeOf (code act : Nat) : Option Recipe :=
  match code with
  | 0x01 => some .exp | 0x02 => some .log2 | 0x03 => some .ln | 0x04 => some .recip | 0x05 => some .rsqrt
  | 0x10 => some .sigmoid | 0x11 => some .tanh | 0x12 => some .silu | 0x13 => some .gelu
  | 0x20 => some .softmax | 0x21 => some .rowNorm
  | 0x30 => if (fusedAct act).isSome then some (.fused act) else none
  | _ => none

/-- A recipe that consumes its row twice (R118). -/
def isRowRecipe (r : Recipe) : Bool :=
  match r with
  | .softmax | .rowNorm => true
  | .exp | .log2 | .ln | .recip | .rsqrt | .sigmoid | .tanh | .silu | .gelu | .fused _ => false

/-! ## Input (R111) -/

/-- An element converted to FP32 on entry. -/
def stillInput (f : Fmt) (scale : Num) (v : BitVec 32) : Num :=
  match f with
  | .int8 => fmul (fmtValue f v) scale
  | .fp32 =>
    match fp32 v with
    | .val neg q => if q < pow2 (-126) then .val neg 0 else .val neg q
    | x => x
  | f => fmtValue f v

/-! ## Softmax (R119 to R121) -/

/-- The clip of a logit. -/
def clipLogit (x : Num) : Num := clampNum (numOf (-320)) (numOf 320) x

/-- A logit is clipped: |x| > 320, an infinity included. -/
def isClipped (x : Num) : Bool := (numOf 320).lt x || x.lt (numOf (-320))

/-- Neighbours 2k and 2k + 1 combined. -/
def pairUp {α : Type} (f : α → α → α) (l : List α) : List α :=
  match l with
  | a :: b :: r => f a b :: pairUp f r
  | l => l

/-- Seven levels of pairwise combination of 128 lanes. -/
def tree {α : Type} (f : α → α → α) (l : List α) : List α :=
  (List.range 7).foldl (fun l _ => pairUp f l) l

/-- Accumulator patterns as they are kept, and their values (R116). -/
def accPattern (x : Num) : BitVec 41 := BitVec.ofNat 41 (widePattern 30 x)
def accValue (v : BitVec 41) : Num := wideValue 30 v.toNat

/-- r: the wide reciprocal of the sum of the lanes. -/
def softmaxScale (acc : List (BitVec 41)) : Num :=
  recipWith (wideRound 14) (((tree wideAdd (acc.map accValue)).head?).getD (.val false 0))

/-- One output of pass 2. -/
def softmaxOut (acc : List (BitVec 41)) (x : Num) : Num :=
  wideRound 14 ((stillExp (clipLogit x)).mulExact (softmaxScale acc))

/-! ## Row normalisation (R122, R123) -/

/-- Welford state of a lane. -/
structure Welford where
  n : Nat
  mean : Num
  m2 : Num
deriving Repr

def natNum (n : Nat) : Num := fmtFp32.round (numOf (n : Rat))

def Welford.push (a : Welford) (x : Num) : Welford :=
  let n := a.n + 1
  let d := fsub x a.mean
  let mean := fadd a.mean (fdiv d (natNum n))
  { n := n, mean := mean, m2 := fadd a.m2 (fmul d (fsub x mean)) }

def Welford.merge (a b : Welford) : Welford :=
  if b.n = 0 then a
  else if a.n = 0 then b
  else
    let nn := natNum (a.n + b.n)
    let d := fsub b.mean a.mean
    { n := a.n + b.n
      mean := fadd a.mean (fmul d (fdiv (natNum b.n) nn))
      m2 := fadd (fadd a.m2 b.m2) (fmul (fmul d d) (fdiv (fmul (natNum a.n) (natNum b.n)) nn)) }

/-- A lane as it is kept: n, mean and m2 as FP32 patterns. -/
def Welford.pattern (a : Welford) : BitVec 32 × BitVec 32 × BitVec 32 := (toFp32 (natNum a.n), toFp32 a.mean, toFp32 a.m2)
def welfordOf (p : BitVec 32 × BitVec 32 × BitVec 32) : Welford :=
  { n := (fp32 p.1).rat.floor.toNat, mean := fp32 p.2.1, m2 := fp32 p.2.2 }

/-- The merged lanes of a row of n elements: var + ε, and the mean (R122). -/
def rowStats (lanes : List (BitVec 32 × BitVec 32 × BitVec 32)) (n : Nat) (eps : Num) : Num × Num :=
  let t := ((tree Welford.merge (lanes.map welfordOf)).head?).getD { n := 0, mean := .val false 0, m2 := .val false 0 }
  (fadd (fdiv t.m2 (natNum n)) eps, t.mean)

/-! ## Elements through a Stillroom -/

/-- The constants that one element meets. -/
structure ElemConsts where
  scale : Num
  gamma : Num
  beta : Num
  eps : Num
deriving Repr

/-- One output of the apply pass; a var + ε of 0 takes rstd as 0 (R122, R123). -/
def rowNormOut (lanes : List (BitVec 32 × BitVec 32 × BitVec 32)) (n : Nat) (k : ElemConsts) (x : Num) : Num :=
  let v := rowStats lanes n k.eps
  let rstd := if v.1.isZero then .val false 0 else stillRsqrt v.1
  fadd (fmul (fmul (fsub x v.2) rstd) k.gamma) k.beta

/-- What a Stillroom does with one element: its state after it, an output pattern, and what it reports. -/
structure StillStep where
  st : Still
  out : Option (BitVec 32)
  clip : Bool
  nan : Bool
  inf : Bool
  zeroVar : Bool
  rowDone : Bool

/-- The accumulators cleared for a row of a use. -/
def Still.start (st : Still) (use : Nat) (r : Recipe) : Still :=
  { st with
    use := some use, taken := 0, second := false, spoilt := false, clipped := false
    acc := if r = Recipe.softmax then List.replicate 128 0 else []
    lanes := if r = Recipe.rowNorm then List.replicate 128 (0, 0, 0) else [] }

/-- The row of a use is over: its accumulators stay until the next row (R134). -/
def Still.finish (st : Still) (use : Nat) : Still :=
  { st with use := none, taken := 0, second := false, done := st.done ++ [use] }

/-- Pass 1 of a row recipe takes element i into lane i mod 128 (R119, R122). -/
def Still.accumulate (st : Still) (r : Recipe) (x : Num) : Still :=
  let l := st.taken % 128
  match r with
  | .softmax =>
    { st with
      acc := st.acc.set l (accPattern (wideAdd (accValue (st.acc.getD l 0)) (stillExp (clipLogit x))))
      spoilt := st.spoilt || x.isNan, clipped := st.clipped || isClipped x }
  | _ =>
    { st with
      lanes := st.lanes.set l ((welfordOf (st.lanes.getD l (0, 0, 0))).push x).pattern
      spoilt := st.spoilt || x.isNan || x.isInf }

/-- The value of an element under a recipe that needs no row (R117, R124). -/
def elementOut (r : Recipe) (k : ElemConsts) (x : Num) : Num :=
  match r with
  | .fused a => fmul k.gamma (((fusedAct a).getD id) (fadd x k.beta))
  | r => ((elementFn r).getD id) x

/-- The next element of the row in flight (R110, R118 to R125). -/
def Still.step (st : Still) (use : Nat) (r : Recipe) (u : RowUse) (k : ElemConsts) (v : BitVec 32) : StillStep :=
  let x := stillInput u.fmt k.scale v
  let n := max 1 u.length
  let last := decide (n ≤ st.taken + 1)
  let next := { st with taken := st.taken + 1 }
  if isRowRecipe r && !st.second then
    let st' := st.accumulate r x
    { st := if last then { st' with taken := 0, second := true } else { st' with taken := st.taken + 1 }
      out := none, clip := r == Recipe.softmax && isClipped x && !st.clipped, nan := x.isNan, inf := x.isInf
      zeroVar := last && r == Recipe.rowNorm && !st'.spoilt && (rowStats st'.lanes n k.eps).1.isZero
      rowDone := false }
  else
    let y := if isRowRecipe r then
        (if st.spoilt then .nan else if r = Recipe.softmax then softmaxOut st.acc x else rowNormOut st.lanes n k x)
      else elementOut r k x
    { st := if last then st.finish use else next
      out := some (fmtConvertStill u.out y), clip := false, nan := !(isRowRecipe r) && x.isNan, inf := !(isRowRecipe r) && x.isInf
      zeroVar := false, rowDone := last }

/-- Recipe codes of R117. -/
def recipeCode (r : Recipe) : Nat :=
  match r with
  | .exp => 0x01 | .log2 => 0x02 | .ln => 0x03 | .recip => 0x04 | .rsqrt => 0x05
  | .sigmoid => 0x10 | .tanh => 0x11 | .silu => 0x12 | .gelu => 0x13
  | .softmax => 0x20 | .rowNorm => 0x21 | .fused _ => 0x30

/-! ## Flags (R120, R123, R125, R137) -/

def stillClip : Word := 1
def stillNanIn : Word := 2
def stillInfIn : Word := 4
def stillZeroVar : Word := 8
def stillTableFault : Word := 16

/-- What is reported of elements. -/
structure StillFlags where
  clip : Bool
  nans : Nat
  infs : Nat
  zeroVar : Bool
deriving Repr

def StillStep.flags (x : StillStep) : StillFlags :=
  { clip := x.clip, nans := x.nan.toNat, infs := x.inf.toNat, zeroVar := x.zeroVar }

/-- The flags and counts of 0x8550 + n. -/
def Channel.stillReport (ch : Channel) (n : Fin 2) (f : StillFlags) : Channel :=
  let off := 0x550 + n.val
  let ch := if f.clip then (ch.count off 1 1).orBits off 3 stillClip else ch
  let ch := if f.nans ≠ 0 then ch.orBits off 3 stillNanIn else ch
  let ch := if f.infs ≠ 0 then ch.orBits off 3 stillInfIn else ch
  let ch := ch.count off 2 (f.nans + f.infs)
  if f.zeroVar then ch.orBits off 3 stillZeroVar else ch

/-- The output patterns as bytes of the output format. -/
def rowBytes (f : Fmt) (l : List (BitVec 32)) : Bytes := l.flatMap fun v => leBytes (fmtBytes f) v.toNat

end Sys2Proof.Machine
end

