-- ==== Sys2Proof/Machine/Stream.lean ====
section
/-! DEFINITION. The result and decant streams of an owner: records in sealed 4 KiB blocks, completions and their staging,
and the meanings of the result-ring commands (R99, R100, R233, R234, R260, R287 to R289, R307). -/

namespace Sys2Proof.Machine

open Sys2Proof

/-! ## Byte streams in blocks -/

/-- Which of the two byte streams: results, or decant records. -/
inductive StreamKind where
  | result | decant
deriving DecidableEq, Repr

def Owner.stream (o : Owner) : StreamKind → ByteStream
  | .result => o.rs
  | .decant => o.ds

def Owner.setStream (o : Owner) (k : StreamKind) (b : ByteStream) : Owner :=
  match k with
  | .result => { o with rs := b }
  | .decant => { o with ds := b }

def Owner.ringOf (o : Owner) : StreamKind → Ring
  | .result => o.result
  | .decant => o.decant

def Owner.setRing (o : Owner) (k : StreamKind) (r : Ring) : Owner :=
  match k with
  | .result => { o with result := r }
  | .decant => { o with decant := r }

/-- Subindex of the next block sequence in 0x8320 + s (R151). -/
def StreamKind.seqSub : StreamKind → Nat
  | .result => 3
  | .decant => 4

/-- The stream's ring. -/
def StreamKind.ring : StreamKind → RingKind
  | .result => .result
  | .decant => .decant

/-- Stream kind of R260. -/
def StreamKind.code : StreamKind → Byte
  | .result => 3
  | .decant => 2

/-- The open block of a stream is sealed under the slot's key, with the next block sequence (R150, R151, R260). -/
def Channel.sealStream (ch : Channel) (k : StreamKind) (i : Slot) : Channel :=
  let o := ch.owner i
  let b := o.stream k
  if b.buf.isEmpty then ch
  else
    match o.key with
    | none => ch.setOwner i (o.setStream k { b with buf := [], first := none, irq := false })
    | some key =>
      let seq := ch.get (0x320 + i.val) k.seqSub
      let blk : Block := {
        seq := seq, word67 := BitVec.ofNat 16 (b.first.getD 0xFFFF), payload := padTo b.buf 4064
        irq := b.irq, records := 0, first := 0, last := 0, key := key.stream }
      (ch.setOwner i (o.setStream k { b with
        buf := [], first := none, irq := false, sealedQ := b.sealedQ ++ [blk] })).put (0x320 + i.val) k.seqSub (seq + 1)

/-- Up to n pieces of a record enter the stream; each full block is sealed. -/
def Channel.pushPieces (ch : Channel) (k : StreamKind) (i : Slot) (tclk n : Nat) (head : Bool) (data : Bytes) : Channel :=
  match n with
  | 0 => ch
  | m + 1 =>
    if data.isEmpty then ch
    else
      let o := ch.owner i
      let b := o.stream k
      let room := 4064 - b.buf.length
      let b' := { b with
        buf := b.buf ++ data.take room
        first := if head && b.first.isNone then some (b.buf.length / 32) else b.first
        since := if b.buf.isEmpty then tclk else b.since }
      let ch := ch.setOwner i (o.setStream k b')
      let ch := if 4064 ≤ b'.buf.length then ch.sealStream k i else ch
      ch.pushPieces k i tclk m false (data.drop room)

/-- A record, padded to a multiple of 32 bytes, enters the stream (R234, R288). -/
def Channel.pushRecord (ch : Channel) (k : StreamKind) (i : Slot) (tclk : Nat) (data : Bytes) : Channel :=
  let body := padTo data ((data.length + 31) / 32 * 32)
  ch.pushPieces k i tclk (body.length / 4064 + 2) true body

/-- A sealed block's 4,096 bytes as they lie in host memory (R150, R260). -/
def sealedBytes (kind : Byte) (c : Chan) (s : Slot) (seq : Word) (clear payload : Bytes) (key : BitVec 256) : Bytes :=
  let nonce := [kind, BitVec.ofNat 8 c.val, BitVec.ofNat 8 s.val, 0] ++ leBytes 8 seq.toNat
  let r := gcmSeal (keyBytes key) nonce clear payload
  clear ++ r.1 ++ r.2

/-! ## Completions (R96, R99, R100) -/

/-- The 32-byte completion header. -/
def Completion.header (x : Completion) (result : T64) (seq : BitVec 32) : Bytes :=
  leBytes 4 x.tag.toNat ++ [x.status, x.code, x.flags, x.plan] ++ leBytes 8 x.launch.toNat ++
  leBytes 8 result.toNat ++ leBytes 4 x.payload.length ++ leBytes 4 seq.toNat

/-- The slot's result ring takes a record now (R100, R289). -/
def Owner.resultOpen (o : Owner) : Bool := o.result.active && o.result.enable && !o.result.fault && !o.result.full

/-- The completion waits: its ring takes no record, or DMA does not run (R100, R289). -/
def Channel.waits (ch : Channel) (x : Completion) : Bool :=
  !(ch.owner x.slot).resultOpen || ch.stopped || ch.host.linkDown || ch.chute.gcmFault

/-- Completion flag bits of R99. -/
def flagLate : Nat := 1
def flagBreach : Nat := 2
def flagShort : Nat := 4
def flagLong : Nat := 8
def flagTrunc : Nat := 16
def flagClip : Nat := 32

/-- A waiting completion with `room` bytes of staging left: payload beyond it is discarded, with TRUNCATED and RESULT_OVERFLOW
(R100, R287). -/
def State.stageOne (s : State) (c : Chan) (room : Nat) (x : Completion) : Completion × State :=
  if room < x.payload.length then
    let s := s.modChan c fun ch => ch.modOwner x.slot fun o => { o with result := { o.result with bit4 := true } }
    ({ x with payload := x.payload.take room, flags := x.flags ||| 16 }, s.event c {
      unit := 0x3C, num := 0x0A00, pay := payAt 8 x.tag.toNat ||| payAt 12 (x.payload.length - room), owner := some x.slot })
  else (x, s)

/-- Completions in queue order, `used` bytes of the 256 KiB taken: those that wait hold their payload there. -/
def State.stageAll (s : State) (c : Chan) (used : Nat) (l : List Completion) : List Completion × State :=
  match l with
  | [] => ([], s)
  | x :: rest =>
    if (s.chan c).waits x then
      let y := s.stageOne c (262144 - used) x
      let z := y.2.stageAll c (used + y.1.payload.length) rest
      (y.1 :: z.1, z.2)
    else
      let z := s.stageAll c used rest
      (x :: z.1, z.2)

/-- The staging limit is applied to what waits now (R100, R101, R289). -/
def State.trimStaging (s : State) (c : Chan) : State :=
  let z := s.stageAll c 0 (s.chan c).completions
  z.2.modChan c fun ch => { ch with completions := z.1 }

/-- A completion joins the queue. -/
def State.complete (s : State) (c : Chan) (x : Completion) : State :=
  (s.modChan c fun ch => { ch with completions := ch.completions ++ [x] }).trimStaging c

/-- The record of a completion enters the result stream, and its block is sealed (R288). -/
def Channel.writeCompletion (ch : Channel) (now : T64) (tclk : Nat) (x : Completion) : Channel :=
  let o := ch.owner x.slot
  let body := x.header (if x.never then now else x.result) o.compSeq ++ x.payload
  let ch := { ch with completions := ch.completions.erase x }.setOwner x.slot { o with compSeq := o.compSeq + 1 }
  let ch := ch.pushRecord .result x.slot tclk body
  let ch := ch.modOwner x.slot fun o =>
    if o.rs.buf.isEmpty then
      { o with rs := { o.rs with sealedQ := o.rs.sealedQ.dropLast ++
          (o.rs.sealedQ.getLast?.map fun (b : Block) => { b with irq := b.irq || x.irq }).toList } }
    else { o with rs := { o.rs with irq := x.irq } }
  ch.sealStream .result x.slot

/-- COMPLETION_WRITE (R99, R100, R288, R289): the oldest waiting completion of the slot, once the ring takes records. -/
def execCompletionWrite (c : Chan) (i : Slot) (s : State) : Host.Outcome State Fault Refusal :=
  s.whenChan c fun s =>
    let ch := s.chan c
    match ch.completions.find? (·.slot == i) with
    | some x =>
      if !ch.waits x then
        .next (s.setChan c (ch.writeCompletion s.now s.tclk x))
      else .next s
    | none => .next s

/-! ## Ring commands of byte streams -/

/-- The oldest sealed block of a stream reaches host memory and HEAD advances (R154, R233, R288). -/
def State.blockDone (s : State) (c : Chan) (k : StreamKind) (i : Slot) (b : Block) (rest : List Block) : State :=
  let r := ((s.chan c).owner i).ringOf k
  let s := (s.emit (blockOut k.code c i r b)).modChan c fun ch =>
    (ch.modOwner i fun o =>
      let r := r.advance
      (o.setStream k { o.stream k with sealedQ := rest }).setRing k (if rest.isEmpty then r.drained o.keyed else r)).pushCount
      0x3C 0x0A80 s.now 64
  match k with
  | .result => (if b.irq then s.raiseVector c i.val else s).trimStaging c
  | .decant => if r.irqOnBlock then s.raiseVector c (32 + i.val) else s

/-- The block write fails: FAULT and RING_FAULT (R308); blocks still waiting are discarded (R153, R233, R287), and the owner's
decant points are disarmed (R247). -/
def State.blockFailed (s : State) (c : Chan) (k : StreamKind) (i : Slot) : State :=
  let s := s.modChan c fun ch =>
    let ch := ch.modOwner i fun o =>
      (o.setStream k { o.stream k with sealedQ := [] }).setRing k ((o.ringOf k).failed.drained o.keyed)
    match k with
    | .result => ch
    | .decant =>
      { ch with dbg := { ch.dbg with pts := ch.dbg.pts.map fun (p : DecantPt) =>
          if p.owner = i then { p with armed := false, capturing := false, skip := false, got := [] } else p } }
  (match k with | .result => s.trimStaging c | .decant => s).raiseIrq c irqRingFault

/-- A sealed block of a stream is accepted or refused by the endpoint; the channel's trace blocks go first (R18). -/
def State.streamBlock (s : State) (c : Chan) (k : StreamKind) (i : Slot) (ok : Bool) : State :=
  let ch := s.chan c
  let o := ch.owner i
  match (o.stream k).sealedQ with
  | [] => s
  | b :: rest =>
    if !(o.ringOf k).active || (o.ringOf k).full || !ch.dmaRuns k.ring i || ch.traceAhead then s
    else
      let s := s.modChan c (·.wrote k.ring)
      if ok then s.blockDone c k i b rest else s.blockFailed c k i

/-- RESULT_BLOCK_WRITTEN (R154, R288, R307, R308). -/
def execResultBlockWritten (c : Chan) (i : Slot) (ok : Bool) (s : State) : Host.Outcome State Fault Refusal :=
  s.whenHost c fun s => .next (s.streamBlock c .result i ok)

/-- ENABLE of a stream's ring is written 1 (R153, R233, R287). -/
def Owner.enableStream (o : Owner) (k : StreamKind) (irq : Bool) : Owner :=
  o.setRing k ((o.ringOf k).enableWrite o.keyed irq)

/-- ENABLE of a stream's ring is written 0: the open block is sealed, sealed blocks still drain (R153, R233, R289). -/
def Channel.disableStream (ch : Channel) (k : StreamKind) (i : Slot) (irq : Bool) : Channel :=
  let ch := ch.sealStream k i
  ch.modOwner i fun o =>
    let r := { o.ringOf k with enable := false, reenable := false, irqOnBlock := irq }
    o.setRing k (if (o.stream k).sealedQ.isEmpty then r.drained o.keyed else r)

/-- RESULT_RING_ENABLE (R287). -/
def execResultRingEnable (view : View) (c : Chan) (i : Slot) (s : State) : Host.Outcome State Fault Refusal :=
  s.viewWrite view c i 0x214 fun s => .next (s.modChan c fun ch => ch.modOwner i (·.enableStream .result false))

/-- RESULT_RING_DISABLE (R289). -/
def execResultRingDisable (view : View) (c : Chan) (i : Slot) (s : State) : Host.Outcome State Fault Refusal :=
  s.viewWrite view c i 0x214 fun s => .next ((s.modChan c fun ch => ch.disableStream .result i false).trimStaging c)

/-- TAIL of a stream's ring is written (R154, R171, R233, R287). -/
def State.streamTail (s : State) (c : Chan) (k : StreamKind) (i : Slot) (v : BitVec 32) : State :=
  let x := s.tailWritten (((s.chan c).owner i).ringOf k) v
  (x.2.modChan c fun ch => ch.modOwner i fun o => o.setRing k x.1).trimStaging c

/-- RESULT_RING_TAIL_WRITE (R154, R287). -/
def execResultRingTailWrite (view : View) (c : Chan) (i : Slot) (v : BitVec 32) (s : State) :
    Host.Outcome State Fault Refusal :=
  s.viewWrite view c i 0x210 fun s => .next (s.streamTail c .result i v)

/-- The open block of a stream is older than the flush interval of 0x8300:07 (R152, R234). -/
def Channel.flushDue (ch : Channel) (tclk : Nat) (i : Slot) (decant : Bool) : Bool :=
  let o := ch.owner i
  let wait := tclkOfUs (ch.nat 0x300 7)
  if decant then !o.ds.buf.isEmpty && decide (o.ds.since + wait ≤ tclk)
  else !o.ts.recs.isEmpty && decide (o.ts.since + wait ≤ tclk)

/-- FLUSH_INTERVAL (R152, R234): the interval has passed since the open block's first record. -/
def execFlushInterval (c : Chan) (i : Slot) (decant : Bool) (s : State) : Host.Outcome State Fault Refusal :=
  s.whenChan c fun s =>
    if (s.chan c).flushDue s.tclk i decant then
      .next (s.modChan c fun ch => if decant then ch.sealStream .decant i else ch.sealTrace s.now i)
    else .next s

end Sys2Proof.Machine
end

