-- ==== Sys2Proof/Machine/Decant.lean ====
section
/-! DEFINITION. Decant: arming, captures, records and the decant ring (R229 to R236, R240, R241, R245). -/

namespace Sys2Proof.Machine

open Sys2Proof

/-- Loom of point p: points 0 to 3 belong to Loom 0 (R229). -/
def loomOf (p : Fin 8) : Nat := p.val / 4

/-- Decant point p of a channel. -/
def Channel.point (ch : Channel) (p : Fin 8) : DecantPt := ch.dbg.pts[p.val]

def Channel.setPoint (ch : Channel) (p : Fin 8) (d : DecantPt) : Channel :=
  { ch with dbg := { ch.dbg with pts := ch.dbg.pts.set p.val d } }

/-- The fields of ARM_CTRL of an unarmed point; the owner is the window's slot, or the OWNER field through BAR0. -/
def DecantPt.control (d : DecantPt) (view : View) (s : Slot) (v : BitVec 32) : DecantPt :=
  { d with
    matchTag := v.getLsbD 1, plan := Fin.ofNat 16 (v.toNat / 4)
    owner := match view with | .bar0 => Fin.ofNat 16 (v.toNat / 64) | .window => s
    count := BitVec.ofNat 16 (v.toNat / 65536) }

/-- The first failing check of R230, 0 for none; the permission is the owner window's (R229, R263). -/
def Channel.armCheck (ch : Channel) (view : View) (p : Fin 8) (d : DecantPt) : Nat :=
  let pl := ch.plan d.plan
  if view = .window ∧ bitOf (ch.get 0x403 0) d.owner.val = false then 4
  else if pl.st ≠ 2 ∨ pl.owner ≠ d.owner then 8
  else match pl.facts.tensors.find? (·.id == d.tensor) with
    | none => 1
    | some t =>
      if pl.stepCount ≤ d.step.toNat ∨ t.step ≠ d.step then 2
      else if t.loom.val ≠ loomOf p then 3
      else if d.len.toNat = 0 ∨ 2048 < d.len.toNat then 5
      else if (ch.owner d.owner).decant.active = false then 6
      else if ch.captureHeld (loomOf p) = false ∧ ch.larderFree < 131072 then 7
      else 0

/-- An arming write (R230). -/
def Channel.armPoint (ch : Channel) (view : View) (s : Slot) (p : Fin 8) (v : BitVec 32) : Channel :=
  let d := ch.point p
  if d.armed then ch
  else
    let d := d.control view s v
    let err := ch.armCheck view p d
    ch.setPoint p { d with
      armed := err == 0, err := BitVec.ofNat 4 err, remaining := if err = 0 then d.count else d.remaining }

/-- DECANT_ARM (R229, R230). -/
def execDecantArm (view : View) (c : Chan) (i : Slot) (p : Fin 8) (v : BitVec 32) (s : State) :
    Host.Outcome State Fault Refusal :=
  s.whenHost c fun s =>
    let off := match view with | .bar0 => 0x800 + 0x20 * p.val | .window => 0
    .next ((s.access view c off).modChan c fun ch => ch.armPoint view i p v)

/-- The point as it stands once its capture is over. -/
def DecantPt.idle (d : DecantPt) : DecantPt := { d with capturing := false, skip := false, got := [] }

/-- ARM written 0: an armed point is disarmed by BAR0 or its own owner; an unarmed one takes the other fields. -/
def Channel.disarmPoint (ch : Channel) (view : View) (s : Slot) (p : Fin 8) (v : BitVec 32) : Channel :=
  let d := ch.point p
  if d.armed then
    if view = .window ∧ d.owner ≠ s then ch else ch.setPoint p { d.idle with armed := false }
  else ch.setPoint p (d.control view s v)

/-- DECANT_DISARM (R229). -/
def execDecantDisarm (view : View) (c : Chan) (i : Slot) (p : Fin 8) (v : BitVec 32) (s : State) :
    Host.Outcome State Fault Refusal :=
  s.whenHost c fun s =>
    let off := match view with | .bar0 => 0x800 + 0x20 * p.val | .window => 0
    .next ((s.access view c off).modChan c fun ch => ch.disarmPoint view i p v)

/-! ## Records (R234) -/

/-- What a decant record says beside its point. -/
structure DecRec where
  flags : Nat
  tag : BitVec 32
  stamp : T64
  offset : Nat
  length : Nat
  remaining : BitVec 16
deriving Repr

/-- Flag bits of a decant record. -/
def decUnreached : Nat := 1
def decShort : Nat := 2
def decSkipped : Nat := 4
def decStopped : Nat := 8
def decRejected : Nat := 16

/-- Element format code of a plan's tensor. -/
def Plan.tensorFmt (p : Plan) (id : BitVec 16) : Byte :=
  match p.facts.tensors.find? (·.id == id) with | some t => t.fmt | none => 0

/-- The 64-byte record header. -/
def decHeader (p : Fin 8) (d : DecantPt) (pl : Plan) (r : DecRec) (seq : BitVec 32) : Bytes :=
  [BitVec.ofNat 8 (128 + 4 * loomOf p + p.val % 4), BitVec.ofNat 8 r.flags] ++ leBytes 2 d.tensor.toNat ++
  leBytes 4 d.step.toNat ++ leBytes 4 r.tag.toNat ++ [BitVec.ofNat 8 d.plan.val, pl.tensorFmt d.tensor, 0, 0] ++
  leBytes 8 r.stamp.toNat ++ leBytes 4 r.offset ++ leBytes 4 r.length ++ leBytes 4 seq.toNat ++
  leBytes 2 r.remaining.toNat ++ zeros 2 ++ leBytes 8 pl.id.toNat ++ zeros 16

/-- The next record sequence of an owner is taken. -/
def Channel.takeDecSeq (ch : Channel) (i : Slot) : BitVec 32 × Channel :=
  let o := ch.owner i
  (o.decSeq, ch.setOwner i { o with decSeq := o.decSeq + 1 })

/-- A record without data enters the owner's stream while its ring takes data. -/
def Channel.putDecRecord (ch : Channel) (tclk : Nat) (p : Fin 8) (r : DecRec) : Channel :=
  let d := ch.point p
  let (seq, ch) := ch.takeDecSeq d.owner
  let ch := if (ch.owner d.owner).decant.routing then
      ch.pushRecord .decant d.owner tclk (decHeader p d (ch.plan d.plan) r seq) else ch
  if r.flags &&& decSkipped ≠ 0 then
    ch.modOwner d.owner fun o => { o with decant := { o.decant with bit4 := true } }
  else ch

/-- An armed point matches a job (R231). -/
def DecantPt.matchesJob (d : DecantPt) (j : Job) : Bool :=
  d.armed && d.owner == j.owner && d.plan == j.desc.plan && (!d.matchTag || d.tag == j.desc.tag)

/-- Points 0 to 7. -/
def allPoints : List (Fin 8) := List.finRange 8

/-- A matching job has ended without a capture by point p: the UNREACHED record and DECANT_UNREACHED (R232). -/
def State.unreached (s : State) (c : Chan) (p : Fin 8) (j : Job) (flags : Nat) : State :=
  let d := (s.chan c).point p
  let r : DecRec := {
    flags := decUnreached + flags, tag := j.desc.tag, stamp := s.now, offset := 64 * d.off.toNat, length := 0
    remaining := d.remaining }
  let s := s.modChan c fun ch => ch.putDecRecord s.tclk p r
  s.event c {
    unit := 0x10 + loomOf p, num := 0x0403
    pay := payAt 8 (p.val % 4) ||| payAt 10 d.tensor.toNat ||| payAt 12 d.step.toNat, owner := some d.owner }

/-- Every armed point that matches the job and has not captured for it reports (R232, R241). -/
def State.reportUnreached (s : State) (c : Chan) (j : Job) (flags : Nat) : State :=
  allPoints.foldl (fun s p =>
    if ((s.chan c).point p).matchesJob j && !j.captured.contains p then s.unreached c p j flags else s) s

/-! ## Captures (R231) -/

/-- REMAINING counts a capture or a skip down, and the point disarms at 0. -/
def DecantPt.counted (d : DecantPt) : DecantPt :=
  if d.count = 0 then d
  else
    let r := d.remaining - 1
    { d with remaining := r, armed := r != 0 }

/-- The buffer of Loom l holds a capture, drained or in progress (R231, log entry 122). -/
def Channel.bufferBusy (ch : Channel) (l : Nat) : Bool :=
  (match ch.dbg.caps[l]? with | some (some _) => true | _ => false) ||
  allPoints.any fun p => loomOf p == l && (ch.point p).capturing && !(ch.point p).skip

/-- The first byte of the window passes: the capture starts with its stamp, or is skipped. -/
def State.startCapture (s : State) (c : Chan) (p : Fin 8) : State :=
  let busy := (s.chan c).bufferBusy (loomOf p)
  match s.stamp c (0x10 + loomOf p) with
  | (t, s) => s.modChan c fun ch =>
      ch.setPoint p { ch.point p with capturing := true, skip := busy, stamp := if busy then s.now else t, got := [] }

/-- Bytes of a window [lo, hi) among the bytes that pass from position `at_` on. -/
def windowPart (lo hi at_ : Nat) (data : Bytes) : Bytes := (data.take (hi - at_)).drop (lo - at_)

/-- Point p sees bytes of a tensor, the first of them at position `at_`, as they enter a Hatch for the running job (R231). -/
def State.feedPoint (s : State) (c : Chan) (j : Job) (tensor : BitVec 16) (at_ : Nat) (data : Bytes) (p : Fin 8) : State :=
  let d := (s.chan c).point p
  let lo := 64 * d.off.toNat
  let hi := lo + 64 * d.len.toNat
  if d.matchesJob j && d.tensor == tensor && !j.captured.contains p then
    let s := if !d.capturing && decide (at_ ≤ lo ∧ lo < at_ + data.length) then s.startCapture c p else s
    s.modChan c fun ch =>
      let d := ch.point p
      if d.capturing && !d.skip then ch.setPoint p { d with got := d.got ++ windowPart lo hi at_ data } else ch
  else s

/-- Bytes of a tensor that have entered its Hatch for a job. -/
def Job.madeOf (j : Job) (t : BitVec 16) : Nat := ((j.made.find? (·.1 == t)).map (·.2)).getD 0

/-- More bytes of a tensor have. -/
def Job.make (j : Job) (t : BitVec 16) (n : Nat) : Job :=
  { j with made := (t, j.madeOf t + n) :: j.made.filter (·.1 != t) }

/-- Every point sees the bytes of a tensor that the running job writes to a Hatch. -/
def State.feedPoints (s : State) (c : Chan) (j : Job) (tensor : BitVec 16) (data : Bytes) : State :=
  let s := allPoints.foldl (fun s p => s.feedPoint c j tensor (j.madeOf tensor) data p) s
  s.modChan c fun ch => { ch with jobs := ch.jobs.map fun (x : Job) => if x.running then x.make tensor data.length else x }

/-- Length of the tensor that the point watches. -/
def Channel.tensorLength (ch : Channel) (d : DecantPt) : Nat :=
  (((ch.plan d.plan).facts.tensors.find? (·.id == d.tensor)).map (·.length)).getD 0

/-- The window, or the tensor inside it, has passed. -/
def Channel.windowDone (ch : Channel) (d : DecantPt) (j : Job) : Bool :=
  decide (0 < j.madeOf d.tensor) && decide (min (ch.tensorLength d) (64 * d.off.toNat + 64 * d.len.toNat) ≤ j.madeOf d.tensor)

/-- The point has captured for the job, or skipped: it counts, and the capture enters its Loom's buffer, with its header and
event (R231, R234, R240). -/
def State.capture (s : State) (c : Chan) (p : Fin 8) (j : Job) (flags : Nat) : State :=
  let s := if ((s.chan c).point p).capturing then s else s.startCapture c p
  let ch := s.chan c
  let d := ch.point p
  let d' := d.counted.idle
  let off := 64 * d.off.toNat
  let ch := { ch with jobs := ch.jobs.map fun (x : Job) => if x.num = j.num then { x with captured := p :: x.captured } else x }
  if d.skip then
    let r : DecRec := {
      flags := decSkipped, tag := j.desc.tag, stamp := d.stamp, offset := off, length := 0, remaining := d'.remaining }
    s.setChan c ((ch.putDecRecord s.tclk p r).setPoint p d')
  else
    let short := decide (flags = 0 ∧ d.got.length < 64 * d.len.toNat)
    let (seq, ch) := ch.takeDecSeq d.owner
    let r : DecRec := {
      flags := flags + (if short then decShort else 0), tag := j.desc.tag, stamp := d.stamp, offset := off
      length := d.got.length, remaining := d'.remaining }
    let cap : Capture := { owner := d.owner, header := decHeader p d (ch.plan d.plan) r seq, data := d.got }
    let s := s.setChan c (({ ch with dbg := { ch.dbg with caps := ch.dbg.caps.set (loomOf p) (some cap) } }).setPoint p d')
    s.event c {
      unit := 0x10 + loomOf p, num := 0x0402, type := 8, code := some (BitVec.ofNat 16 (p.val % 4))
      pay := payAt 8 d.tensor.toNat ||| payAt 10 d.step.toNat ||| payAt 14 (seq.toNat % 65536)
      owner := some d.owner, at_ := some d.stamp }

/-- DECANT_CAPTURE (R231): the window of an armed point has passed for the running job. -/
def execDecantCapture (c : Chan) (p : Fin 8) (s : State) : Host.Outcome State Fault Refusal :=
  s.whenChan c fun s =>
    let ch := s.chan c
    match ch.jobs.find? fun j => j.running && (ch.point p).matchesJob j && !j.captured.contains p with
    | some j => if ch.stopped || !ch.windowDone (ch.point p) j then .next s else .next (s.capture c p j 0)
    | none => .next s

/-- A running job ends: a capture whose window has passed is kept, one that a stop cuts off is kept with what it holds (R240), a
tensor that ends inside the window leaves a short one; any other is dropped (R232). -/
def State.settlePoint (s : State) (c : Chan) (j : Job) (done stopped : Bool) (p : Fin 8) : State :=
  let ch := s.chan c
  let d := ch.point p
  if d.matchesJob j && !j.captured.contains p then
    if ch.windowDone d j || (done && d.capturing) then s.capture c p j 0
    else if stopped && d.capturing then s.capture c p j decStopped
    else s.modChan c fun ch => ch.setPoint p d.idle
  else s

/-- Every point's capture for a running job is settled as the job ends. -/
def State.settleCaptures (s : State) (c : Chan) (j : Job) (done stopped : Bool) : State :=
  if j.running then allPoints.foldl (fun s p => s.settlePoint c j done stopped p) s else s

/-- Bytes of decant data staged in the Cellar (R235). -/
def Channel.decStaged (ch : Channel) : Nat :=
  (ch.owners.toList.map fun (o : Owner) => o.ds.buf.length + 4096 * o.ds.sealedQ.length).sum

/-- The record header of a capture lost on drain (R234, R247): SKIPPED alone, the stamp of the skip, length 0. -/
def skippedHeader (now : T64) (h : Bytes) : Bytes :=
  h.take 1 ++ [BitVec.ofNat 8 decSkipped] ++ slice h 2 14 ++ leBytes 8 now.toNat ++ slice h 24 4 ++ zeros 4 ++ h.drop 32

/-- The capture of Loom l drains into its owner's stream; a parity error leaves only a SKIPPED record. -/
def Channel.drain (ch : Channel) (now : T64) (tclk : Nat) (l : Fin 2) (cap : Capture) (bad : Bool) : Channel :=
  let ch := { ch with dbg := { ch.dbg with caps := ch.dbg.caps.set l.val none } }
  if bad then
    (ch.pushRecord .decant cap.owner tclk (skippedHeader now cap.header)).modOwner cap.owner fun o =>
      { o with decant := { o.decant with bit4 := true } }
  else ch.pushRecord .decant cap.owner tclk (cap.header ++ cap.data)

/-- DECANT_DRAIN (R235, R247): a full ring, or staging without room, holds the drain. -/
def execDecantDrain (c : Chan) (l : Fin 2) (parityError : Bool) (s : State) : Host.Outcome State Fault Refusal :=
  s.whenChan c fun s =>
    let ch := s.chan c
    match ch.dbg.caps[l.val]? with
    | some (some cap) =>
      let r := (ch.owner cap.owner).decant
      if r.routing && !r.full && !ch.stopped && decide (ch.decStaged + 64 + cap.data.length ≤ 1048576) then
        .next (s.setChan c (ch.drain s.now s.tclk l cap parityError))
      else .next s
    | _ => .next s

/-! ## The decant ring (R233) -/

/-- DECANT_RING_ENABLE. -/
def execDecantRingEnable (view : View) (c : Chan) (i : Slot) (irq : Bool) (s : State) :
    Host.Outcome State Fault Refusal :=
  s.viewWrite view c i 0x414 fun s => .next (s.modChan c fun ch => ch.modOwner i (·.enableStream .decant irq))

/-- DECANT_RING_DISABLE. -/
def execDecantRingDisable (view : View) (c : Chan) (i : Slot) (irq : Bool) (s : State) :
    Host.Outcome State Fault Refusal :=
  s.viewWrite view c i 0x414 fun s => .next (s.modChan c fun ch => ch.disableStream .decant i irq)

/-- DECANT_RING_FLUSH (R234). -/
def execDecantRingFlush (view : View) (c : Chan) (i : Slot) (s : State) : Host.Outcome State Fault Refusal :=
  s.viewWrite view c i 0x414 fun s =>
    .next (s.modChan c fun ch => if (ch.owner i).decant.routing then ch.sealStream .decant i else ch)

/-- DECANT_RING_TAIL_WRITE (R154, R233). -/
def execDecantRingTailWrite (view : View) (c : Chan) (i : Slot) (v : BitVec 32) (s : State) :
    Host.Outcome State Fault Refusal :=
  s.viewWrite view c i 0x410 fun s => .next (s.streamTail c .decant i v)

/-- DECANT_BLOCK_WRITTEN (R233, R247). -/
def execDecantBlockWritten (c : Chan) (i : Slot) (ok : Bool) (s : State) : Host.Outcome State Fault Refusal :=
  s.whenHost c fun s => .next (s.streamBlock c .decant i ok)

end Sys2Proof.Machine
end

