-- ==== Sys2Proof/Machine/Ending.lean ====
section
/-! DEFINITION. The end of a job: completion, the resources that it leaves, and the decant reports (R96, R99, R105, R106, R232,
R240, R241). -/

namespace Sys2Proof.Machine

open Sys2Proof

/-! ## Completion statuses (R99) -/

def statusDone : Nat := 0
def statusRejected : Nat := 1
def statusNoInput : Nat := 2
def statusLinkFail : Nat := 3
def statusMemoryFail : Nat := 4
def statusStopped : Nat := 5
def statusMalformed : Nat := 6

/-! ## The end of a job (R96, R99, R100, R232) -/

/-- Completion flags of a job. -/
def Job.flags (j : Job) : Nat :=
  (if j.running && j.late then flagLate else 0) + (if j.breach.isSome then flagBreach else 0) +
  (if j.inShort then flagShort else 0) + (if j.inLong then flagLong else 0) + (if j.clip then flagClip else 0)

/-- A job's completion with its status, code and result stamp. -/
def Job.completion (j : Job) (status code : Nat) (result : T64) : Completion :=
  { slot := j.owner, tag := j.desc.tag, status := BitVec.ofNat 8 status, code := BitVec.ofNat 8 code
    flags := BitVec.ofNat 8 j.flags, plan := BitVec.ofNat 8 j.desc.plan.val, launch := j.launched, result := result
    payload := j.payload, irq := j.desc.irq, never := !j.running }

/-- The completion of a job is queued, unless a function reset discards it (R96, R299). -/
def State.finish (s : State) (c : Chan) (j : Job) (status code : Nat) : State :=
  if j.discard then s
  else
    match s.stamp c 0x3C with
    | (t, s) => s.complete c (j.completion status code t)

/-- The running job of a channel. -/
def Channel.runningJob (ch : Channel) : Option Job := ch.jobs.find? (·.running)

/-- The running job is changed. -/
def Channel.modRunning (ch : Channel) (f : Job → Job) : Channel :=
  { ch with jobs := ch.jobs.map fun (j : Job) => if j.running then f j else j }

/-! ## Holds of a Hatch (R80, R180) -/

/-- Unit ID of a Hatch (R11). -/
def hatchId (h : Fin 16) : Nat := 0x28 + h.val

/-- A Hatch begins to hold its producer (full) or its consumer (empty). -/
def State.noteHold (s : State) (c : Chan) (h : Fin 16) (full : Bool) : State :=
  if (s.chan c).holds.any fun x => x.hatch == h && x.full == full then s
  else match s.stamp c (hatchId h) with
    | (t, s) => s.modChan c fun ch =>
        { ch with holds := ch.holds ++ [{ hatch := h, full := full, since := s.tclk, stamp := t, told := false }] }

/-- A hold is over, and reported with the cycles that it took, under the stamp of its start (log entry 128). -/
def State.tellHold (s : State) (c : Chan) (x : Hold) : State :=
  if x.told then s
  else s.event c {
    unit := hatchId x.hatch, num := if x.full then 0x0840 else 0x0841, at_ := some x.stamp
    pay := payAt 8 ((s.tclk - x.since) * (s.chan c).coreMHz s.tclk / 500 % 2 ^ 32)
    owner := (s.chan c).runningJob.map (·.owner) }

/-- What the Hatch held goes on. -/
def State.unhold (s : State) (c : Chan) (h : Fin 16) (full : Bool) : State :=
  let mine := fun (x : Hold) => x.hatch == h && x.full == full
  let gone := (s.chan c).holds.filter mine
  gone.foldl (fun s x => s.tellHold c x)
    (s.modChan c fun ch => { ch with holds := ch.holds.filter fun x => !mine x })

/-- Every hold is over: CORE has stopped, or the job that it held has ended.  A stop keeps them for the dump (R228). -/
def State.endHolds (s : State) (c : Chan) (keep : Bool) : State :=
  (s.chan c).holds.foldl (fun s x => s.tellHold c x)
    (s.modChan c fun ch => { ch with holds := if keep then ch.holds.map fun x => { x with told := true } else [] })

/-- A port drops what it holds for a job: its frame in reception is discarded from here on, its receive slots are freed, and what
it has still to send is not sent (R88, R106, log entry 123). -/
def RPort.dropJob (r : RPort) (num : Nat) : RPort :=
  { r with
    rx := r.rx.map fun (f : RxFrame) => if f.job = some num then { f with job := none, drop := true } else f
    held := r.held.filter (·.job != num)
    freed := r.freed + (r.held.filter (·.job == num)).length
    txq := r.txq.filter (·.job != some num) }

/-- The job leaves the queue with its reservation.  Slate entries and Hatches keep their last contents until they are overwritten
(R262, log entry 105). -/
def Channel.removeJob (ch : Channel) (j : Job) : Channel :=
  { ch with
    jobs := ch.jobs.filter (·.num != j.num)
    ports := ch.ports.map (·.dropJob j.num) }

/-- The job with a number. -/
def Channel.jobNo (ch : Channel) (n : Nat) : Option Job := ch.jobs.find? (·.num == n)

/-- A job that was admitted reaches "done" with a status other than REJECTED (R96). -/
def State.endJob (s : State) (c : Chan) (j : Job) (status : Nat) (decFlags : Nat := 0) : State :=
  let s := s.settleCaptures c j (status == statusDone) (decFlags == decStopped)
  let j := ((s.chan c).jobNo j.num).getD j
  let s := if j.running then s.endHolds c false else s
  let s := s.modChan c (·.removeJob j)
  let s := if j.begun then
      s.event c { unit := 0x10, num := 0x0401, pay := payAt 8 j.desc.plan.val ||| payAt 12 j.desc.tag.toNat
                  owner := some j.owner }
    else s
  let s := s.event c {
    unit := 0x01, num := 0x0203
    pay := payAt 8 status ||| payAt 9 j.flags ||| payAt 12 j.desc.tag.toNat, owner := some j.owner }
  let s := s.finish c j status ((j.breach.map (·.toNat)).getD 0)
  s.reportUnreached c j decFlags

/-- A rejection is counted and reported (R96). -/
def State.countReject (s : State) (c : Chan) (owner : Slot) (plan tag code : Nat) : State :=
  let s := s.modChan c fun ch => (ch.put 0x501 1 (w code)).count 0x501 2 1
  s.event c {
    unit := 0x01, num := 0x0201, pay := payAt 8 code ||| payAt 9 plan ||| payAt 12 tag, owner := some owner }

/-- A job is rejected, at admission or later in the queue (R95, R96, R105, R241). -/
def State.rejectJob (s : State) (c : Chan) (j : Job) (code : Nat) : State :=
  let s := s.modChan c (·.removeJob j)
  let s := s.countReject c j.owner j.desc.plan.val j.desc.tag.toNat code
  let s := s.finish c j statusRejected code
  s.reportUnreached c j decRejected

/-- Every queued and running job of the channel that p selects ends with a status, in queue order. -/
def State.endJobs (s : State) (c : Chan) (p : Job → Bool) (status : Nat) (decFlags : Nat := 0) : State :=
  ((s.chan c).jobs.filter p).foldl (fun s j => s.endJob c j status decFlags) s

/-- The running job ends MEMORY_FAIL when p holds of it. -/
def State.failRunning (s : State) (c : Chan) (status : Nat) (p : Job → Bool) : State :=
  match (s.chan c).runningJob with
  | some j => if p j then s.endJob c j status else s
  | none => s

/-- The running job, or one that has taken its frame, uses the port. -/
def Channel.usesPort (ch : Channel) (p : Port) (j : Job) : Bool :=
  let pl := ch.plan j.desc.plan
  (j.running || j.arrived.isSome) && (pl.inPorts ||| pl.outPorts).getLsbD p.val

end Sys2Proof.Machine
end

