-- ==== Sys2Proof/Machine/Counter.lean ====
section
/-! DEFINITION. Fixed and programmable counters, the Tallyman's gathers, and the readings of energy and temperature
(R173 to R187). -/

namespace Sys2Proof.Machine

open Sys2Proof

/-- 48-bit counters wrap here (R179). -/
def wrap48 : Nat := 281474976710656

/-- n is added to fixed counter j (R175, R179); the answer says whether its wrap bit has just been set. -/
def Channel.addFixed (ch : Channel) (j n : Nat) : Channel × Bool :=
  let v := ch.nat 0x2A0 j + n
  let ch := ch.put 0x2A0 j (w (v % wrap48))
  if wrap48 ≤ v then
    let word := ch.get 0x2A2 (1 + j / 32)
    (ch.put 0x2A2 (1 + j / 32) (word ||| w (2 ^ (j % 32))), !bitOf word (j % 32))
  else (ch, false)

/-- n is added to counter i of block u (R176, R179). -/
def Channel.addProg (ch : Channel) (u i n : Nat) : Channel × Bool :=
  let v := ch.nat (0x240 + u) (0x11 + i) + n
  let ch := ch.put (0x240 + u) (0x11 + i) (w (v % wrap48))
  if wrap48 ≤ v then
    let word := ch.get (0x240 + u) 0x0A
    (ch.put (0x240 + u) 0x0A (word ||| w (2 ^ i)), !bitOf word i)
  else (ch, false)

/-- Counter i of block u is enabled and selects the event (R176). -/
def Channel.counts (ch : Channel) (u i num : Nat) : Bool :=
  bitOf (ch.get (0x240 + u) 9) i && ch.nat (0x240 + u) (1 + i) == num

/-- COUNTER_WRAP (R179, R180). -/
def wrapEvent (u i j : Nat) : Ev := { unit := 0x3E, num := 0x0C02, pay := payAt 8 u ||| payAt 9 i ||| payAt 10 j }

/-- n occurrences of an event in unit u land in the counters that count them (R175, R176, R178, R179). -/
def State.land (s : State) (c : Chan) (u num n : Nat) : State :=
  if !(s.chan c).observed then s
  else
    let s := match architecturalEvents.findIdx? (· == num) with
      | none => s
      | some j =>
        let (ch, wr) := (s.chan c).addFixed j n
        let s := s.setChan c ch
        if wr then s.event c (wrapEvent 0x3E 0xFF j) else s
    if isChannelUnit u then
      (List.range 8).foldl (fun s i =>
        if (s.chan c).counts u i num then
          let (ch, wr) := (s.chan c).addProg u i n
          let s := s.setChan c ch
          if wr then s.event c (wrapEvent u i 0xFF) else s
        else s) s
    else s

/-- An item of the count queue lands. -/
def State.landItem (s : State) (c : Chan) (it : CountItem) : State :=
  s.land c it.unit.toNat it.event.toNat it.amount

/-- R178: every event stamped at least 8 ns before now has landed. -/
def State.landDue (s : State) (c : Chan) : State :=
  let due := (s.chan c).countQ.filter fun it => it.stamp.toNat + 8 ≤ s.now.toNat
  let s := s.modChan c fun ch => { ch with countQ := ch.countQ.filter fun it => !(it.stamp.toNat + 8 ≤ s.now.toNat) }
  due.foldl (fun s it => s.landItem c it) s

/-! ## Snapshots (R142, R181 to R183) -/

/-- A SNAPSHOT record: byte 14 is the index and FIXED, byte 15 WRAPPED and FROZEN. -/
def snapshot (unit num : Nat) (t : T64) (epoch v idx : Nat) (fixed wrapped frozen : Bool) : Rec :=
  { type := 5, unit := BitVec.ofNat 8 unit, code := BitVec.ofNat 16 num, t := t,
    payload := w (v % wrap48 + 2 ^ 48 * (idx + (if fixed then 8 else 0)) +
      2 ^ 56 * ((if wrapped then 1 else 0) + (if frozen then 2 else 0))),
    epoch := epoch, owner := none, group := some 11, privileged := false, counters := true, only := none }

/-- The SNAPSHOT records of the counters and readings that a gather samples, from the members `d`: enabled
programmable counters, then masked fixed counters, then the readings (R182, R183). -/
def Channel.snapshots (ch : Channel) (d : Dict) (t : T64) (epoch : Nat) (frozen : Bool) : List Rec :=
  let get := fun off sub => (d.find (dkey off sub)).getD (dfltOf (DictMap.lookupChannel off sub))
  let prog := channelUnits.flatMap fun u => (List.range 8).filterMap fun i =>
    if bitOf (ch.get (0x240 + u) 9) i then
      some (snapshot u (get (0x240 + u) (1 + i)).toNat t epoch (get (0x240 + u) (0x11 + i)).toNat i false
        (bitOf (get (0x240 + u) 0x0A) i) frozen)
    else none
  let fixed := (List.range 96).filterMap fun j =>
    if bitOf (ch.get 0x200 (2 + j / 32)) (j % 32) then
      some (snapshot 0x3E (architecturalEvents.getD j 0) t epoch (get 0x2A0 j).toNat 0 true
        (bitOf (get 0x2A2 (1 + j / 32)) (j % 32)) frozen)
    else none
  let readings := if ch.on 0x200 7 then (List.range 8).map fun k =>
    snapshot 0x3E (0x0CC0 + k) t epoch (get 0x203 (1 + k)).toNat 0 true false frozen else []
  prog ++ fixed ++ readings

/-- The members that counters, selections and readings had before the selection and preset writes of this edge (R198). -/
def Channel.countersAt (ch : Channel) (tclk : Nat) : Dict :=
  (ch.st0.before.filter (·.1 == tclk)).foldr (fun b d =>
    let v := (d.find b.2.1).getD (dfltOf (DictMap.lookupChannel (b.2.1 / 256) (b.2.1 % 256)))
    d.put b.2.1 ((v &&& ~~~b.2.2.1) ||| (b.2.2.2 &&& b.2.2.1)))
    (ch.dict.filter fun e => 0x200 ≤ e.1 / 256 && e.1 / 256 ≤ 0x2A2)

/-- A selection or preset write is about to replace bits of a member on this edge (R198). -/
def Channel.noteBefore (ch : Channel) (tclk off sub : Nat) (mask : Word) : Channel :=
  { ch with st0 := { ch.st0 with
      before := (ch.st0.before.filter (·.1 == tclk)) ++ [(tclk, dkey off sub, mask, ch.get off sub)] } }

/-- A gather falls due: T64 has reached a multiple of P × 1000 ns on this edge (R182). -/
def State.gatherDue (s : State) (c : Chan) : Bool :=
  let ch := s.chan c
  let p := ch.nat 0x200 1 * 1000
  p != 0 && ch.observed && decide (s.time.prev.toNat / p < s.now.toNat / p) && ch.st0.gatherAt != s.tclk

/-- The Tallyman gathers on this edge; skipped while the previous gather is not wholly handed over (R182 to R184). -/
def State.gather (s : State) (c : Chan) : State :=
  let s := s.modChan c fun ch => { ch with st0 := { ch.st0 with gatherAt := s.tclk } }
  if (s.chan c).chute.tally.any (fun r => r.type == 5 && !bitOf r.payload 57) then s.ccount c 0x200 5 1
  else
    let s := s.landDue c
    s.modChan c fun ch =>
      if ch.tracing then (ch.snapshots (ch.countersAt s.tclk) s.now s.time.epoch false).foldl Channel.hand ch else ch

/-! ## Quantities that a TCLK edge adds (R174, R199, R203) -/

/-- A unit in the CORE domain of a channel that is stopping or stopped: it adds nothing (R203). -/
def Channel.haltedUnit (ch : Channel) (u : Nat) : Bool :=
  let cls := unitClass u
  ch.stopped && (cls == 0x02 || cls == 0x03 || cls == 0x04 || cls == 0x05 || cls == 0x06 || cls == 0x08)

/-- Whole cycles of a clock of f MHz that end in TCLK period t. -/
def cyclesIn (f t : Nat) : Nat := 2 * f * (t + 1) / 1000 - 2 * f * t / 1000

/-- Clock of unit u in MHz. -/
def Channel.unitMHz (ch : Channel) (tclk u : Nat) : Nat := (lagMHz ch tclk u).getD tclkMHz

/-- Some counter of block u counts the number. -/
def Channel.anyCounts (ch : Channel) (u num : Nat) : Bool := (List.range 8).any fun i => ch.counts u i num

/-- The amount of a quantity is added for a unit. -/
def State.amount (s : State) (c : Chan) (u num n : Nat) : State :=
  if n = 0 || (s.chan c).haltedUnit u then s else s.land c u num n

/-- A Hatch's quantities: cycles full, and cycles empty with the consumer waiting (R180). -/
def State.tickHatch (s : State) (c : Chan) (h : Fin 16) : State :=
  let ch := s.chan c
  let n := cyclesIn (ch.coreMHz s.tclk) s.tclk
  let s := if 4096 ≤ (ch.hatches[h.val]).length ∧ ch.jobs.any (·.running) = true then s.amount c (0x28 + h.val) 0x0880 n else s
  if ch.holds.any fun x => x.hatch == h && !x.full && !x.told then s.amount c (0x28 + h.val) 0x0881 n else s

/-- The quantities that one edge adds: cycles of each block's clock, cycles held by the Chute, Hatch cycles, and 2 ns of relock
stall.  What only the program inside a unit determines arrives by COUNT_ARRIVAL (log entry 124). -/
def State.tickCounts (s : State) (c : Chan) : State :=
  if !(s.chan c).observed then s
  else
    let s := channelUnits.foldl (fun s u =>
      let n := cyclesIn ((s.chan c).unitMHz s.tclk u) s.tclk
      let s := if (s.chan c).anyCounts u 0x80 then s.amount c u 0x80 n else s
      if (s.chan c).anyCounts u 0x83 && (s.chan c).chute.held.any (fun r => r.source.toNat == u) then s.amount c u 0x83 n
      else s) s
    let s := (List.finRange 16).foldl (fun s h => s.tickHatch c h) s
    if (s.chan c).onSafeClock then s.amount c 0x41 0x0E80 2 else s

/-- GATHER (R182 to R184). -/
def execGather (c : Chan) (s : State) : Host.Outcome State Fault Refusal :=
  s.whenChan c fun s => .next (if s.gatherDue c then s.gather c else s)

/-- Quantities that the state itself determines, each added where it arises: cycles of a clock and of the Chute's holds, Hatch
cycles, flits, dropped records, sealed blocks and relock stall. -/
def ownQuantities : List Nat := [0x0080, 0x0083, 0x0880, 0x0881, 0x0980, 0x0981, 0x0B80, 0x0B81, 0x0E80]

/-- A quantity that a command may bring for a unit: one of its class that the model does not count by itself (log entry 124). -/
def broughtIn (u num : Nat) : Bool :=
  isChannelUnit u && selectable u num && decide (0x80 ≤ num % 256) && !ownQuantities.contains num

/-- COUNT_ARRIVAL (R174, R178): the oldest event of the count queue lands; or a quantity adds its amount, but none of a CORE unit
that a stop has halted (R203). -/
def execCountArrival (c : Chan) (q : Option (Byte × BitVec 16 × Nat)) (s : State) : Host.Outcome State Fault Refusal :=
  s.whenChan c fun s =>
    match q with
    | some (u, num, n) =>
      if broughtIn u.toNat num.toNat then
        .next (s.amount c u.toNat num.toNat n)
      else .next s
    | none =>
      match (s.chan c).countQ with
      | [] => .next s
      | it :: rest => .next ((s.modChan c fun ch => { ch with countQ := rest }).landItem c it)

/-- COUNTER_SELECT_WRITE (R176, R177): the value and wrap bit clear with the new selection. -/
def counterSelectCommit (c : Chan) (u i : Nat) (v : Word) : Commit := fun s =>
  if selectable u v.toNat then
    (0, s.modChan c fun ch =>
      let ch := ((ch.noteBefore s.tclk (0x240 + u) (1 + i) (w 0xFFFF)).noteBefore s.tclk (0x240 + u) (0x11 + i)
        (w (wrap48 - 1))).noteBefore s.tclk (0x240 + u) 0x0A (w (2 ^ i))
      ((ch.put (0x240 + u) (1 + i) v).put (0x240 + u) (0x11 + i) 0).clearBits (0x240 + u) 0x0A (w (2 ^ i)))
  else (abortInvalid, s)

def execCounterSelectWrite (p : Path) (c : Chan) (u : Byte) (i : Fin 8) (v : BitVec 16) (s : State) :
    Host.Outcome State Fault Refusal :=
  s.writeRow p (chanIndex c (0x240 + u.toNat)) (1 + i.val) (leBytes 2 v.toNat)
    (counterSelectCommit c u.toNat i.val (w v.toNat))

/-- COUNTER_PRESET_WRITE (R177): the counter takes the value; a preset does not clear the wrap bit. -/
def execCounterPresetWrite (p : Path) (c : Chan) (u : Byte) (i : Fin 8) (v : Word) (s : State) :
    Host.Outcome State Fault Refusal :=
  s.writeRow p (chanIndex c (0x240 + u.toNat)) (0x11 + i.val) (leBytes 8 v.toNat)
    (commitOk fun s => s.modChan c fun ch =>
      (ch.noteBefore s.tclk (0x240 + u.toNat) (0x11 + i.val) (w (wrap48 - 1))).put (0x240 + u.toNat) (0x11 + i.val) v)

/-- COUNTER_ENABLE_WRITE (R176). -/
def execCounterEnableWrite (p : Path) (c : Chan) (u : Byte) (v : Byte) (s : State) : Host.Outcome State Fault Refusal :=
  s.writeRow p (chanIndex c (0x240 + u.toNat)) 9 [v] (commitOk (·.cput c (0x240 + u.toNat) 9 (w v.toNat)))

/-- ENERGY_UPDATE (R185, R207): the Governor's measurement of the last 10 µs is added; a fault holds the reading. -/
def execEnergyUpdate (c : Chan) (microjoules : Nat) (s : State) : Host.Outcome State Fault Refusal :=
  s.whenChan c fun s =>
    if bitOf (s.cget c 0x203 0x0B) 0 then .next s
    else .next ((s.ccount c 0x203 1 microjoules 64).cput c 0x203 9 s.now)

end Sys2Proof.Machine
end

