-- ==== Sys2Proof/Machine/Stocktake.lean ====
section
/-! DEFINITION. Stocktake (R188 to R206) and the power and mode of the Observatory (R138, R161, R175). -/

namespace Sys2Proof.Machine

open Sys2Proof

/-! ## Freezes -/

/-- When and what a freeze latches: T64, TCLK count, members. -/
abbrev Edge := T64 × Nat × Dict

/-- A freeze is taken (R189): shadows, GEN, 0x8202:0A, STOCKTAKE record, interrupt, FROZEN snapshots; a gather due on the same edge
comes first (R202). -/
def State.freeze (s : State) (c : Chan) (code trig : Nat) (e : Edge) : State :=
  let s := if s.gatherDue c && e.2.1 == s.tclk then s.gather c else s
  let s := s.modChan c fun ch =>
    { ch with
      st0 := { ch.st0 with
        st := 2, gen := ch.st0.gen + 1, last := code, freezeT64 := e.1, at_ := e.2.1, shadow := e.2.2 } }
  let s := s.ccount c 0x202 0x0A 1
  let s := s.event c {
    unit := 0x3E, num := 0x0C00, pay := e.1, type := 6, code := some (BitVec.ofNat 16 (code + 256 * trig)),
    at_ := some e.1 }
  let s := s.raiseIrq c irqStocktake
  if s.con c 0x200 6 then
    s.modChan c fun ch =>
      if ch.tracing then (ch.snapshots ch.st0.shadow e.1 s.time.epoch true).foldl Channel.hand ch else ch
  else s

/-- A trigger finds the state FROZEN: MISSED, 0x8202:0B and STOCKTAKE_MISSED (R189). -/
def State.missTrigger (s : State) (c : Chan) (code : Nat) : State :=
  let s := s.modChan c fun ch => { ch with st0 := { ch.st0 with missed := true } }
  (s.ccount c 0x202 0x0B 1).event c { unit := 0x3E, num := 0x0C01, pay := payAt 8 code }

/-- R200: a second trigger on the edge of the freeze: LAST_TRIGGER and the record take the highest code, and the lowest
TRIG number among equals. -/
def State.mergeTrigger (s : State) (c : Chan) (code trig : Nat) : State :=
  s.modChan c fun ch =>
    if ch.st0.last < code ∨ (ch.st0.last = code ∧ code = 3) then
      let fix := fun (r : Rec) =>
        if r.type = 6 ∧ r.t = ch.st0.freezeT64 then
          let t := if ch.st0.last = code then min trig (r.code.toNat / 256) else trig
          { r with code := BitVec.ofNat 16 (code + 256 * t) }
        else r
      let ch := ch.setQueue 0x3E ((ch.queueOf 0x3E).map fix)
      { ch with
        chute := { ch.chute with tally := ch.chute.tally.map fix }
        st0 := { ch.st0 with last := code } }
    else ch

/-- An enabled trigger with its code arrives on an edge (R189, R200). -/
def State.trigger (s : State) (c : Chan) (code trig : Nat) (e : Edge) : State :=
  let st := (s.chan c).st0
  match st.st with
  | 1 => s.freeze c code trig e
  | 2 =>
    if st.at_ = e.2.1 ∧ st.freezeT64 = e.1 then s.mergeTrigger c code trig
    else if s.con c 0x202 6 ∧ st.at_ + 64 ≤ e.2.1 then s.freeze c code trig e
    else s.missTrigger c code
  | _ => s

/-- The edge a trigger acts on: that of a provisional freeze under measurement (R200), else the present one. -/
def State.edge (s : State) (c : Chan) : Edge :=
  match (s.chan c).st0.prov with
  | some e => e
  | none => (s.now, s.tclk, (s.chan c).countersAt s.tclk)

/-- Trigger `code` acts on channel c if its mask bit is set and the Observatory has power (R188). -/
def State.stocktake (s : State) (c : Chan) (code trig : Nat) : State :=
  if (s.chan c).observed && bitOf (s.cget c 0x202 1) (code - 1) then
    let s := s.landDue c
    s.trigger c code trig (s.edge c)
  else s

/-- Module freeze now (R189, R193): whatever the mask and the state. -/
def State.forceFreeze (s : State) (c : Chan) : State :=
  if (s.chan c).observed && (s.chan c).st != .poweredDown then
    let s := s.landDue c
    let e := s.edge c
    if (s.chan c).st0.st = 2 then s.trigger c 1 0 e else s.freeze c 1 0 e
  else s

/-- A register trigger is on its way to its freeze edge (R188, R193). -/
def Channel.pendFreeze (ch : Channel) (at_ : Nat) (forced : Bool) : Channel :=
  { ch with st0 := { ch.st0 with pend := ch.st0.pend ++ [(at_, forced)] } }

/-- The register triggers whose freeze edge has come act (R188, R193). -/
def State.landFreezes (s : State) (c : Chan) : State :=
  let due := (s.chan c).st0.pend.filter fun x => decide (x.1 ≤ s.tclk)
  if due.isEmpty then s
  else
    let s := s.modChan c fun ch => { ch with st0 := { ch.st0 with pend := ch.st0.pend.filter fun x => !decide (x.1 ≤ s.tclk) } }
    due.foldl (fun s x => if x.2 then s.forceFreeze c else s.stocktake c 1 0) s

/-- RELEASE (R189). -/
def Channel.releaseStocktake (ch : Channel) : Channel :=
  if ch.st0.st = 2 then
    { ch with st0 := { ch.st0 with st := if ch.nat 0x202 1 = 0 then 0 else 1 } } else ch

/-- The state that the trigger mask leaves (R189). -/
def Channel.maskMoved (ch : Channel) : Channel :=
  let m := ch.nat 0x202 1
  let st := ch.st0.st
  { ch with st0 := { ch.st0 with
      st := if m = 0 then 0 else if st = 0 ∧ ch.observed = true then 1 else st } }

/-- The T64 trigger is armed with a time (R190). -/
def Channel.armT64 (ch : Channel) (now v : T64) : Channel :=
  let ch := ch.put 0x202 3 v
  { ch with st0 := { ch.st0 with t64Armed := true, t64Late := decide (v.toNat ≤ now.toNat) } }

/-- Counters, shadows and the T64 trigger are cleared; Stocktake is IDLE (R175, R189). -/
def Channel.clearCounters (ch : Channel) : Channel :=
  let live := fun (k : Nat) =>
    (k / 256 = 0x2A0) ∨ (k / 256 = 0x2A2) ∨
    (0x240 ≤ k / 256 ∧ k / 256 < 0x2A0 ∧ (k % 256 = 0x0A ∨ 0x11 ≤ k % 256))
  { ch with
    dict := (ch.dict.filter fun e => !decide (live e.1)).filter fun e => e.1 != dkey 0x202 3
    countQ := []
    st0 := { ch.st0 with st := 0, t64Armed := false, t64Late := false, prov := none, pend := [], before := [], shadow := [] } }

/-- The Observatory of channel c is powered on or off (R138, R164, R175, R189). -/
def State.powerObservatory (s : State) (c : Chan) (on : Bool) : State :=
  let was := (s.chan c).observed
  if on = was then s
  else if on then
    s.modChan c fun ch => ((ch.clearCounters).put 0x300 1 1).maskMoved
  else
    let s := s.changeTraceMode c 0 0 4
    s.modChan c fun ch => (ch.clearCounters).put 0x300 1 0

/-! ## Meanings -/

/-- OBSERVATORY_POWER_WRITE (R138): power off also sets the trace mode to 0. -/
def execObservatoryPowerWrite (p : Path) (c : Chan) (v : Byte) (s : State) : Host.Outcome State Fault Refusal :=
  s.writeRow p (chanIndex c 0x300) 1 [v] (commitOk (·.powerObservatory c (v != 0)))

/-- Commit of 0x8300:02 (R138, R161, R169, R172). -/
def traceModeCommit (c : Chan) (m : Nat) : Commit := fun s =>
  let code := (s.chan c).traceModeCheck m
  if code = 0 then (0, s.changeTraceMode c m 0 3 true) else (code, s)

/-- TRACE_MODE_WRITE. -/
def execTraceModeWrite (p : Path) (c : Chan) (v : Byte) (s : State) : Host.Outcome State Fault Refusal :=
  s.writeRow p (chanIndex c 0x300) 2 [v] (traceModeCommit c v.toNat)

/-- Commit of 0x8202:01. -/
def triggerMaskCommit (c : Chan) (v : Nat) : Commit := commitOk (·.modChan c fun ch => (ch.put 0x202 1 (w v)).maskMoved)

/-- TRIGGER_MASK_WRITE (R189). -/
def execTriggerMaskWrite (p : Path) (c : Chan) (v : Byte) (s : State) : Host.Outcome State Fault Refusal :=
  s.writeRow p (chanIndex c 0x202) 1 [v] (triggerMaskCommit c v.toNat)

/-- The register trigger freezes 2 to 3 TCLK after the write reaches the channel (R188). -/
def State.registerTrigger (s : State) (c : Chan) : State :=
  (s.modChan c (·.pendFreeze (s.tclk + s.freeIn 2 3) false)).drawn

/-- STOCKTAKE_TRIGGER (R188). -/
def execStocktakeTrigger (src : StPath) (c : Chan) (s : State) : Host.Outcome State Fault Refusal :=
  match src with
  | .ctrl => s.whenHost c fun s => .next ((s.access .bar0 c 0x18).registerTrigger c)
  | .dict p => s.writeRow p (chanIndex c 0x202) 4 [1] (commitOk (·.registerTrigger c))

/-- STOCKTAKE_RELEASE (R189). -/
def execStocktakeRelease (src : StPath) (c : Chan) (s : State) : Host.Outcome State Fault Refusal :=
  match src with
  | .ctrl => s.whenHost c fun s => .next ((s.access .bar0 c 0x18).modChan c (·.releaseStocktake))
  | .dict p => s.writeRow p (chanIndex c 0x202) 5 [1] (commitOk (·.modChan c (·.releaseStocktake)))

/-- Commit of 0x8202:03 (R190). -/
def t64TriggerCommit (c : Chan) (v : T64) : Commit := fun s =>
  if (s.chan c).observed then (0, s.modChan c (·.armT64 s.now v)) else (abortConflict, s)

/-- STOCKTAKE_T64_ARM. -/
def execStocktakeT64Arm (p : Path) (c : Chan) (v : T64) (s : State) : Host.Outcome State Fault Refusal :=
  s.writeRow p (chanIndex c 0x202) 3 (leBytes 8 v.toNat) (t64TriggerCommit c v)

/-- R206: a channel in reset, in Quarantine, or stopped without mask bit 4, takes no T64 freeze. -/
def Channel.mayFreezeAt (ch : Channel) : Bool :=
  ch.st != .booting && ch.st != .quarantine && (!ch.stopped || bitOf (ch.get 0x202 1) 4)

/-- STOCKTAKE_T64_FIRE (R190, R201, R206): on the first edge with T64 at or past the time the trigger disarms, and
freezes where it may. -/
def execStocktakeT64Fire (c : Chan) (s : State) : Host.Outcome State Fault Refusal :=
  s.whenChan c fun s =>
    let ch := s.chan c
    if ch.st0.t64Armed = true ∧ (ch.get 0x202 3).toNat ≤ s.now.toNat then
      let s := s.modChan c fun ch =>
        { ch with st0 := { ch.st0 with
            t64Armed := false, late := ch.st0.late || ch.st0.t64Late, t64Late := false } }
      .next (if ch.mayFreezeAt then s.stocktake c 4 0 else s)
    else .next s

/-- SYNC_OUT changes level (R192). -/
def State.syncOut (s : State) (level : Bool) : State := s.emit (.pin 1 0 0 level)

/-- The module may repeat an edge of SYNC_IN now (R192). -/
def State.mayRepeat (s : State) : Bool := s.pins.outEnd.isNone && s.pins.holdoffEnd.isNone && s.pins.repeatFrom ≤ s.tclk

/-- A provisional freeze of the channels whose Observatory has power (R191). -/
def State.provisional (s : State) : State :=
  s.eachChan fun s c =>
    if (s.chan c).observed && (s.chan c).st != .poweredDown then
      let s := s.landDue c
      s.modChan c fun ch => { ch with st0 := { ch.st0 with prov := some (s.now, s.tclk, ch.countersAt s.tclk) } }
    else s

/-- SYNC_IN_RISE (R191, R192): a provisional freeze, and the start of the measurement; a pulse within 1 µs of an
originated one is counted and ignored. -/
def execSyncInRise (s : State) : Host.Outcome State Fault Refusal :=
  s.whenLive fun s =>
    if s.pins.holdoffEnd.isSome then
      .next ({ s.mcount 0x4001 4 1 with
        pins := { s.pins with syncRise := some s.tclk, syncStop := false, syncIgnored := true } })
    else
      let s := if s.mayRepeat then s.syncOut true else s
      let s := s.provisional
      .next { s with pins := { s.pins with syncRise := some s.tclk, syncStop := false, syncIgnored := false } }

/-- Every provisional freeze is discarded. -/
def State.dropProvisional (s : State) : State :=
  s.eachChan fun s c => s.modChan c fun ch => { ch with st0 := { ch.st0 with prov := none } }

/-- A Stocktake pulse commits each provisional freeze whose trigger is enabled (R188, R191). -/
def State.commitSync (s : State) : State :=
  (s.eachChan fun s c =>
    match (s.chan c).st0.prov with
    | some e => if bitOf (s.cget c 0x202 1) 1 then s.trigger c 2 0 e else s
    | none => s).dropProvisional

/-- SYNC_IN_FALL (R191): the pulse is classified by its width in TCLK periods. -/
def State.classifySync (s : State) (width : Nat) : State :=
  if width ≤ 5 then (s.mcount 0x4001 3 1).dropProvisional
  else if 8 ≤ width ∧ width ≤ 15 then s.commitSync
  else if width ≤ 23 then
    ((s.mcount 0x4001 2 1).moduleEvent { unit := 0x3E, num := 0x0C04, pay := payAt 8 (min width 255) }).dropProvisional
  else s.dropProvisional

/-- Commit of 0x4010:01 (R193, R395): the T64 trigger and mask bit 3 of every channel whose Observatory has power. -/
def freezeTimeCommit (v : T64) : Commit := fun s =>
  if v.toNat < s.now.toNat + 1000000 then (abortRange, s)
  else (0, (s.mput 0x4010 1 v).eachChan fun s c =>
    if (s.chan c).observed && (s.chan c).st != .poweredDown then
      (s.modChan c fun ch => ((ch.armT64 s.now v).orBits 0x202 1 8).maskMoved).markSaved
    else s)

/-- MODULE_FREEZE_TIME_WRITE (R193). -/
def execModuleFreezeTimeWrite (p : Path) (v : T64) (s : State) : Host.Outcome State Fault Refusal :=
  s.writeRow p 0x4010 1 (leBytes 8 v.toNat) (freezeTimeCommit v)

/-- A pulse of n TCLK is originated on SYNC_OUT (R192): nothing is repeated until 16 TCLK after its end, and SYNC_IN takes no freeze
for 1 µs. -/
def State.originate (s : State) (n : Nat) : State :=
  let s := s.syncOut true
  { s with pins := { s.pins with
      outStart := none, outEnd := some (s.tclk + n), repeatFrom := s.tclk + n + 16
      holdoffEnd := some (s.tclk + tclkOfUs 1) } }

/-- A pulse whose freeze edge has come begins (R192). -/
def State.landPulse (s : State) : State :=
  match s.pins.outStart with
  | some x => if x.1 ≤ s.tclk then s.originate x.2 else s
  | none => s

/-- MODULE_FREEZE_NOW (R192, R193): the next correction-bus slot freezes every channel; a pulse of 10 TCLK begins on it where
0x4001:01 is 1. -/
def freezeNowCommit : Commit := fun s =>
  let t := max s.tclk s.time.nextSlot
  let s := s.eachChan fun s c => s.modChan c (·.pendFreeze t true)
  let s := if s.mon 0x4001 1 then { s with pins := { s.pins with outStart := some (t, 10) } } else s
  (0, (s.eachChan State.landFreezes).landPulse)

def execModuleFreezeNow (p : Path) (s : State) : Host.Outcome State Fault Refusal :=
  s.writeRow p 0x4010 3 [1] freezeNowCommit

/-- SYNC_HOLDOFF_END (R192). -/
def execSyncHoldoffEnd (s : State) : Host.Outcome State Fault Refusal :=
  s.whenLive fun s =>
    match s.pins.holdoffEnd with
    | some t => if t ≤ s.tclk then .next { s with pins := { s.pins with holdoffEnd := none } } else .next s
    | none => .next s

/-- SYNC_OUT_PULSE_END (R192, R213): the originated pulse ends. -/
def execSyncOutPulseEnd (s : State) : Host.Outcome State Fault Refusal :=
  s.whenLive fun s =>
    match s.pins.outEnd with
    | some t =>
      if t ≤ s.tclk then .next ({ s with pins := { s.pins with outEnd := none } }.syncOut false) else .next s
    | none => .next s

end Sys2Proof.Machine
end

