-- ==== Sys2Proof/Machine/Trig.lean ====
section
/-! DEFINITION. The T32 comparators, the TRIG outputs and the control-cycle generator (R41 to R47, R63 to R66). -/

namespace Sys2Proof.Machine

open Sys2Proof

/-- Offset of comparator k's object: 0x8110 + n for TRIGn, 0x8120 for the control-cycle generator (k = 4). -/
def cmpOff (k : Fin 5) : Nat := if k.val < 4 then 0x110 + k.val else 0x120

/-- Subindex of comparator k's status. -/
def cmpStatus (k : Fin 5) : Nat := if k.val < 4 then 6 else 5

/-- Subindex of its skipped count. -/
def cmpSkip (k : Fin 5) : Nat := if k.val < 4 then 9 else 7

/-- ARMED, FIRED, LATE, DISARMED_BY_STEP. -/
def bitArmed : Word := 1
def bitFired : Word := 2
def bitLate : Word := 4
def bitDisarmed : Word := 8

def Channel.armed (ch : Channel) (k : Fin 5) : Bool := bitOf (ch.get (cmpOff k) (cmpStatus k)) 0

def Channel.modCmp (ch : Channel) (k : Fin 5) (f : Cmp → Cmp) : Channel :=
  { ch with cmp := ch.cmp.set k.val (f ch.cmp[k.val]) }

/-- The comparator is armed or its arming is under way. -/
def Channel.arming (ch : Channel) (k : Fin 5) : Bool := ch.armed k || ch.cmp[k.val].arming.isSome

/-- The comparator is disarmed (R44, R46). -/
def Channel.disarm (ch : Channel) (k : Fin 5) : Channel :=
  (ch.clearBits (cmpOff k) (cmpStatus k) bitArmed).modCmp k fun m => { m with arming := none, crossed := none }

/-- Arming starts; it completes 4 TCLK later (R41). -/
def Channel.startArming (ch : Channel) (tclk : Nat) (k : Fin 5) : Channel :=
  (ch.disarm k).modCmp k fun m => { m with arming := some (tclk + 4) }

/-- The counts that every arming, and every write of mode 3, restarts (R44, R46). -/
def Channel.restartCounts (ch : Channel) (k : Fin 5) : Channel :=
  if k.val < 4 then (ch.put (cmpOff k) 8 0).put (cmpOff k) 9 0 else (ch.put 0x120 4 0).put 0x120 7 0

/-- (int32_t)(t32_now − target) of R41. -/
def cmpDiff (t target : T32) : Int := (t - target).toInt

/-- The inactive level of TRIGn is its polarity bit (R47). -/
def State.trigPin (s : State) (c : Chan) (n : Nat) (active : Bool) : State :=
  s.emit (.pin 2 c n (active != s.con c (0x110 + n) 5))

/-- TRIGn emits a pulse of its width (R44, R47): an edge unless the output is still active; the counts and stamps. -/
def State.pulse (s : State) (c : Chan) (n : Fin 4) : State :=
  let k : Fin 5 := ⟨n.val, by omega⟩
  let off := 0x110 + n.val
  let s := if (s.chan c).cmp[k.val].pulseEnd.isNone then s.trigPin c n.val true else s
  s.modChan c fun ch =>
    let ch := ((ch.count off 8 1).orBits off 6 bitFired).put off 0x0A s.now
    ch.modCmp k fun m => { m with pulseEnd := some (s.tclk + ch.nat off 4 / 2) }

/-- R45: boundaries m to move, for a fire `late` ns past its target. -/
def boundaries (late period : Nat) : Nat := late / period + 1

/-- A periodic comparator takes its next target and counts the boundaries it skipped (R45). -/
def State.nextTarget (s : State) (c : Chan) (k : Fin 5) (late : Nat) : State :=
  let period := s.cnat c (cmpOff k) 3
  let m := boundaries late period
  let s := s.modChan c fun ch =>
    (ch.count (cmpOff k) (cmpSkip k) (m - 1)).modCmp k fun x =>
      { x with target := x.target + BitVec.ofNat 32 (m * period), crossed := none }
  if m = 1 then s
  else s.event c { unit := 0x00, num := 0x0107, pay := payAt 8 k.val ||| payAt 12 (m - 1) }

/-- A tick of the control-cycle generator (R46). -/
def State.cycleTick (s : State) (c : Chan) : State :=
  let s := s.ccount c 0x120 4 1 64
  let s := s.event c { unit := 0x00, num := 0x0105, pay := s.cget c 0x120 4 }
  let s := ([0, 1, 2, 3] : List (Fin 4)).foldl
    (fun s n => if s.cnat c (0x110 + n.val) 1 = 3 then s.pulse c n else s) s
  if s.con c 0x120 6 then s.raiseVector c 48 else s

/-- Comparator k fires (R41, R43 to R46), `late` ns past its target, with LATE set where `isLate`. -/
def State.fireCmp (s : State) (c : Chan) (k : Fin 5) (late : Nat) (isLate : Bool) : State :=
  let target := (s.chan c).cmp[k.val].target
  let pay := payAt 8 k.val ||| payAt 12 target.toNat
  let s := s.modChan c (·.orBits (cmpOff k) (cmpStatus k) (bitFired ||| (if isLate then bitLate else 0)))
  let s := s.event c { unit := 0x00, num := 0x0102, pay := pay }
  let s := if isLate then s.event c { unit := 0x00, num := 0x0103, pay := pay } else s
  if h : k.val < 4 then
    let n : Fin 4 := ⟨k.val, h⟩
    let s := s.pulse c n
    let s := if bitOf (s.cget c 0x202 2) n.val then s.stocktake c 3 n.val else s
    if s.cnat c (0x110 + n.val) 1 = 2 then s.nextTarget c k late else s.modChan c (·.disarm k)
  else (s.cycleTick c).nextTarget c k late

/-! ## Meanings -/

/-- The width check of R64: mode 2 with a width of at least the period. -/
def Channel.widthClash (ch : Channel) (off : Nat) : Bool := decide (ch.nat off 3 ≤ ch.nat off 4)

/-- Commit of a TRIG target (R41, R44, R64, R66). -/
def trigTargetCommit (c : Chan) (n : Fin 4) (v : T32) : Commit := fun s =>
  let off := 0x110 + n.val
  let mode := s.cnat c off 1
  if mode = 2 ∧ (s.chan c).widthClash off = true then (abortConflict, s)
  else
    (0, s.modChan c fun ch =>
      let ch := ch.put off 2 (w v.toNat)
      if mode = 1 ∨ mode = 2 then ch.startArming s.tclk ⟨n.val, by omega⟩ else ch)

/-- TRIG_TARGET_WRITE. -/
def execTrigTargetWrite (p : Path) (c : Chan) (n : Fin 4) (v : T32) (s : State) : Host.Outcome State Fault Refusal :=
  s.writeRow p (chanIndex c (0x110 + n.val)) 2 (leBytes 4 v.toNat) (trigTargetCommit c n v)

/-- Arming completes: the written target is in force, ARMED sets, the counts restart, and a target already reached
fires at once with LATE (R41). -/
def State.completeArming (s : State) (c : Chan) (k : Fin 5) : State :=
  let target : T32 := BitVec.ofNat 32 (s.cnat c (cmpOff k) 2)
  let s := s.modChan c fun ch =>
    ((ch.modCmp k fun m => { m with arming := none, crossed := none, target := target }).orBits (cmpOff k)
      (cmpStatus k) bitArmed).restartCounts k
  let d := cmpDiff s.now32 target
  if 0 ≤ d then s.fireCmp c k d.toNat true else s

/-- ARMING_COMPLETE (R41): due 4 TCLK after the write. -/
def execArmingComplete (c : Chan) (k : Fin 5) (s : State) : Host.Outcome State Fault Refusal :=
  s.whenChan c fun s =>
    match (s.chan c).cmp[k.val].arming with
    | some t => if t ≤ s.tclk then .next (s.completeArming c k) else .next s
    | none => .next s

/-- COMPARATOR_FIRE (R41, R65): an armed comparator whose target is reached fires; one that a forward step crossed
fires late. -/
def execComparatorFire (c : Chan) (k : Fin 5) (s : State) : Host.Outcome State Fault Refusal :=
  s.whenChan c fun s =>
    let ch := s.chan c
    if ch.armed k then
      match ch.cmp[k.val].crossed with
      | some d => .next (s.fireCmp c k d true)
      | none =>
        let d := cmpDiff s.now32 ch.cmp[k.val].target
        if 0 ≤ d then .next (s.fireCmp c k d.toNat false) else .next s
    else .next s

/-- Commit of a TRIG mode (R44, R64). -/
def trigModeCommit (c : Chan) (n : Fin 4) (v : Nat) : Commit := fun s =>
  let k : Fin 5 := ⟨n.val, by omega⟩
  let off := 0x110 + n.val
  if v = 2 ∧ (s.chan c).arming k = true ∧ (s.chan c).widthClash off = true then (abortConflict, s)
  else
    (0, s.modChan c fun ch =>
      let ch := ch.put off 1 (w v)
      if v = 0 then ch.disarm k else if v = 3 then (ch.disarm k).restartCounts k else ch)

/-- TRIG_MODE_WRITE. -/
def execTrigModeWrite (p : Path) (c : Chan) (n : Fin 4) (v : Byte) (s : State) : Host.Outcome State Fault Refusal :=
  s.writeRow p (chanIndex c (0x110 + n.val)) 1 [v] (trigModeCommit c n v.toNat)

/-- Commit of a TRIG period or width (R64): refused while it would leave an armed mode-2 comparator with a width of
at least its period. -/
def trigShapeCommit (c : Chan) (n : Fin 4) (width : Bool) (v : Nat) : Commit := fun s =>
  let k : Fin 5 := ⟨n.val, by omega⟩
  let off := 0x110 + n.val
  let s' := s.cput c off (if width then 4 else 3) (w v)
  if s.cnat c off 1 = 2 ∧ (s.chan c).arming k = true ∧ (s'.chan c).widthClash off = true then (abortConflict, s)
  else (0, s')

/-- TRIG_PERIOD_WIDTH_WRITE. -/
def execTrigPeriodWidthWrite (p : Path) (c : Chan) (n : Fin 4) (width : Bool) (v : T32) (s : State) :
    Host.Outcome State Fault Refusal :=
  s.writeRow p (chanIndex c (0x110 + n.val)) (if width then 4 else 3) (leBytes (if width then 2 else 4) v.toNat)
    (trigShapeCommit c n width (if width then v.toNat % 65536 else v.toNat))

/-- TRIG_PULSE_END (R47): one width after the latest pulse start, the output returns inactive. -/
def execTrigPulseEnd (c : Chan) (n : Fin 4) (s : State) : Host.Outcome State Fault Refusal :=
  s.whenChan c fun s =>
    match (s.chan c).cmp[n.val].pulseEnd with
    | some t =>
      if t ≤ s.tclk then
        .next ((s.modChan c fun ch => ch.modCmp ⟨n.val, by omega⟩ fun m => { m with pulseEnd := none }).trigPin
          c n.val false)
      else .next s
    | none => .next s

/-- Commit of 0x8120:01 (R46): 0 disarms; a change from 0 to 1 arms with the stored first tick. -/
def cycleEnableCommit (c : Chan) (v : Nat) : Commit := fun s =>
  let was := s.con c 0x120 1
  (0, s.modChan c fun ch =>
    let ch := ch.put 0x120 1 (w v)
    if v = 0 then ch.disarm 4 else if was then ch else ch.startArming s.tclk 4)

/-- CYCLE_ENABLE_WRITE. -/
def execCycleEnableWrite (p : Path) (c : Chan) (v : Byte) (s : State) : Host.Outcome State Fault Refusal :=
  s.writeRow p (chanIndex c 0x120) 1 [v] (cycleEnableCommit c v.toNat)

/-- Commit of 0x8120:02. -/
def firstTickCommit (c : Chan) (v : Nat) : Commit := commitOk fun s => s.modChan c fun ch =>
  let ch := ch.put 0x120 2 (w v)
  if ch.on 0x120 1 then ch.startArming s.tclk 4 else ch

/-- CYCLE_FIRST_TICK_WRITE (R46): arms while the generator is enabled. -/
def execCycleFirstTickWrite (p : Path) (c : Chan) (v : T32) (s : State) : Host.Outcome State Fault Refusal :=
  s.writeRow p (chanIndex c 0x120) 2 (leBytes 4 v.toNat) (firstTickCommit c v.toNat)

/-- A step of d ns acts on one armed comparator at the load strobe (R65); `before` is T32 just before it. -/
def State.stepCmp (s : State) (c : Chan) (k : Fin 5) (before : T32) (step : Int) : State :=
  let ch := s.chan c
  if ch.armed k then
    let target := ch.cmp[k.val].target
    let d := cmpDiff before target + step
    if 0 ≤ d then s.modChan c fun ch => ch.modCmp k fun m => { m with crossed := some d.toNat }
    else if d < -(2 ^ 31 : Int) then
      let s := s.modChan c fun ch => (ch.disarm k).orBits (cmpOff k) (cmpStatus k) bitDisarmed
      s.event c { unit := 0x00, num := 0x0104, pay := payAt 8 k.val ||| payAt 12 target.toNat }
    else s
  else s

end Sys2Proof.Machine
end

