-- ==== Sys2Proof/Machine/Time.lean ====
section
/-! DEFINITION. The time base: references, increment, correction bus, steps and PPS loads, the servo, and the time
states (R31, R36 to R39, R50 to R56, R62, R65 to R69, R72 to R74). -/

namespace Sys2Proof.Machine

open Sys2Proof

/-! ## Sticky bits of 0x3000:04 -/

def stepApplied : Word := 1
def stepRefused : Word := 2
def masterLostBit : Word := 4
def masterChangedBit : Word := 8
def refLostBit : Word := 16
def ppsMissingBit : Word := 32
def tsqOverflowBit : Word := 64

def State.timeFlag (s : State) (b : Word) : State := s.morBits 0x3000 4 b

/-! ## The counter (R38) -/

/-- T64 and fraction as one number of 2^-32 ns. -/
def TimeBase.acc (t : TimeBase) : Nat := t.t64.toNat * 2 ^ 32 + t.frac.toNat

/-- T64 and fraction from such a number. -/
def TimeBase.setAcc (t : TimeBase) (a : Nat) : TimeBase :=
  { t with t64 := BitVec.ofNat 64 (a / 2 ^ 32), frac := BitVec.ofNat 32 a }

/-- One TCLK edge (R38): acc = frac + low half of the increment; T64 gains its high half and the carry. -/
def TimeBase.tick (t : TimeBase) : TimeBase :=
  let acc := t.frac.toNat + t.incr.toNat % 2 ^ 32
  { t with
    prev := t.t64
    frac := BitVec.ofNat 32 acc
    t64 := t.t64 + BitVec.ofNat 64 (t.incr.toNat / 2 ^ 32 + acc / 2 ^ 32) }

/-- Cycles in which a source was held at this edge are counted (R157, R205): 2 ns of the CORE clock. -/
def Channel.tickHeld (ch : Channel) (tclk : Nat) : Channel :=
  if !ch.stageHeld || ch.stopped then ch
  else
    let part := ch.chute.heldPart + 2 * ch.coreMHz tclk
    ({ ch with chute := { ch.chute with heldPart := part % 1000 } }).count 0x300 4 (part / 1000) 64

/-- What one edge brings in a channel that has power: counted quantities, LOOM_START, freezes on their way (R146, R174, R188). -/
def State.tickChan (s : State) (c : Chan) : State :=
  if (s.chan c).st = .poweredDown then s
  else
    let s := s.modChan c (·.tickHeld s.tclk)
    let s := s.tickCounts c
    (s.modChan c (·.loomStart s.now s.time.epoch)).landFreezes c

/-- One TCLK edge of the module (log entry 1). -/
def State.tick (s : State) : State :=
  let s := { s with tclk := s.tclk + 1, time := if s.live then s.time.tick else s.time }
  if s.live then (s.eachChan State.tickChan).landPulse else s

/-! ## Time states (R55) -/

def TimeState.code : TimeState → Nat
  | .freeRun => 0 | .acquiring => 1 | .locked => 2 | .holdover => 3

/-- The time state changes; each change emits TIME_STATE (R55). -/
def State.setTimeState (s : State) (ts : TimeState) : State :=
  let old := s.time.ts
  let s := ({ s with time := { s.time with ts := ts } }).mput 0x3000 1 (w ts.code)
  if ts = old then s
  else s.moduleEvent { unit := 0x00, num := 0x0101, pay := payAt 8 ts.code ||| payAt 9 old.code }

/-- The servo's count of an acquisition starts afresh (R53). -/
def TimeBase.restart (t : TimeBase) : TimeBase := { t with meas := [], decided := false, goodRun := 0 }

/-- ACQUIRING is entered, or entered again, with the allowance given (R53, R55). -/
def State.acquire (s : State) (allowance : Bool) : State :=
  ({ s with time := { s.time.restart with allowance := allowance } }).setTimeState .acquiring

/-- Identity of the master an offset is measured against: the grandmaster, the one held before it was lost, or 0 for
PPS_IN.  After a change of source in HOLDOVER the next measurement therefore counts as one against a different master, so
that MASTER_CHANGED is set: DESIGN CHOICE, R55 compares masters of one source (log entry 111). -/
def State.masterId (s : State) : BitVec 64 :=
  if s.mon 0x3001 2 then 0 else (s.ptp.master.map (·.gm)).getD (s.ptp.held.getD 0)

/-- HOLDOVER is entered from ACQUIRING or LOCKED (R55): 0x3000:06 takes T64, the bits of the cause set. -/
def State.enterHoldover (s : State) (bits : Word) : State :=
  if s.time.ts = .acquiring ∨ s.time.ts = .locked then
    let s := (s.timeFlag bits).mput 0x3000 6 s.now
    ({ s with ptp := { s.ptp with held := some s.masterId } }).setTimeState .holdover
  else s

/-! ## The servo (R53) -/

/-- Insertion into a rising list. -/
def insertInt (x : Int) (l : List Int) : List Int :=
  match l with
  | [] => [x]
  | y :: r => if x ≤ y then x :: y :: r else y :: insertInt x r

/-- The median (R53, R59): for an even count the mean of the middle two, rounded toward zero. -/
def median (l : List Int) : Int :=
  let q := l.foldl (fun a x => insertInt x a) []
  let n := q.length
  if n % 2 = 1 then q.getD (n / 2) 0 else (q.getD (n / 2 - 1) 0 + q.getD (n / 2) 0).tdiv 2

/-- Median of the last 8 rational samples of the drift guard (R317), rounded as the mean of the middle two. -/
def insertRat (x : Rat) (l : List Rat) : List Rat :=
  match l with
  | [] => [x]
  | y :: r => if x ≤ y then x :: y :: r else y :: insertRat x r

/-- A value limited to [−lim, lim]. -/
def clampRat (lim x : Rat) : Rat := if x < -lim then -lim else if lim < x then lim else x

/-- The nearest whole number, halves upward. -/
def roundRat (x : Rat) : Int := (x + 1 / 2).floor

/-- The increment for a rate (R38): 2 ns × (1 + rate). -/
def rateIncrement (rate : Rat) : Word := wInt (roundRat (2 ^ 33 * (1 + rate)))

/-- The rate that an increment means. -/
def incrementRate (incr : Word) : Rat := (incr.toNat : Rat) / 2 ^ 33 - 1

/-- The rate update of mode 0 (R53): a proportional-integral loop on the offset over the measurement interval, limited
to 0x3001:05, written on the next slot.  DESIGN CHOICE (log entry 112): a measurement with none before it has no interval and
updates no rate, and the measurement that takes the step updates none either. -/
def State.servoRate (s : State) (off : Int) (interval : Nat) : State :=
  if interval = 0 then s
  else
    let e : Rat := -((off : Rat) / ((interval * 2 : Nat) : Rat))
    let i := s.time.integral + 3 / 10 * e
    let lim : Rat := (s.mnat 0x3001 5 : Rat) / 1000000
    let inc := rateIncrement (clampRat lim (i + 7 / 10 * e))
    ({ s with time := { s.time with integral := i, pendIncr := some inc } }).mput 0x3002 0 inc

/-- The step decision of an acquisition, once N measurements are counted (R53): true when a step is taken. -/
def State.servoDecide (s : State) : State × Bool :=
  let med := median s.time.meas
  let s := { s with time := { s.time with decided := true } }
  if (s.mnat 0x3001 3 : Int) ≤ med.natAbs ∧ s.time.allowance = true then
    ({ s with time := { s.time with allowance := false, pendStep := some (wInt (-med)) } }, true)
  else (s, false)

/-- The internal servo takes one measurement (R53). -/
def State.servo (s : State) (off : Int) (interval : Nat) : State :=
  if s.time.decided then s.servoRate off interval
  else if s.time.ts ≠ .acquiring then s
  else
    let s := { s with time := { s.time with meas := s.time.meas ++ [off] } }
    if s.time.meas.length < s.mnat 0x3001 4 then s
    else
      match s.servoDecide with
      | (s, true) => s
      | (s, false) => s.servoRate off interval

/-- OFFSET_MEASUREMENT (R53, R55): one complete measurement against the master `id`. -/
def State.measure (s : State) (off : Int) (id : BitVec 64) : State :=
  let interval := match s.time.lastMeas with | some t => s.tclk - t | none => 0
  let s := { s with time := { s.time with lastMeas := some s.tclk } }
  if s.time.ts = .freeRun then s
  else
    let s :=
      if s.time.ts = .holdover then
        if s.ptp.held = some id then s.acquire s.time.allowance
        else (s.timeFlag masterChangedBit).acquire true
      else s
    let acq := decide (s.time.ts = .acquiring)
    let s := { s with time := { s.time with goodRun := if off.natAbs < 500 then s.time.goodRun + 1 else 0 } }
    let s := if s.mnat 0x3001 1 = 0 then s.servo off interval else s
    if acq && 8 ≤ s.time.goodRun then
      ({ s with time := { s.time with allowance := false, decided := true } }).setTimeState .locked
    else s

/-! ## References (R36, R72, R73) -/

/-- The PLL moves to a reference: 0x3000:02 and REF_SWITCH (R36, R37, R180). -/
def State.useReference (s : State) (r : Nat) : State :=
  if s.mnat 0x3000 2 = r then s
  else (s.mput 0x3000 2 (w r)).moduleEvent { unit := 0x00, num := 0x0108, pay := payAt 8 r }

/-- Commit of 0x3000:03. -/
def ref10mCommit (v : Nat) : Commit := commitOk fun s =>
  (s.mput 0x3000 3 (w v)).useReference (if v ≠ 0 ∧ s.time.refQualified = true then 1 else 0)

/-- REF10M_ENABLE_WRITE (R36): no loss, no Holdover. -/
def execRef10mEnableWrite (p : Path) (v : Byte) (s : State) : Host.Outcome State Fault Refusal :=
  s.writeRow p 0x3000 3 [v] (ref10mCommit v.toNat)

/-- REF10M_QUALIFIED (R36, R72): the time state stays.  The PLL switches in hardware, so also while the Reeve restarts
(DEDUCED, log entry 82). -/
def execRef10mQualified (s : State) : Host.Outcome State Fault Refusal :=
  s.whenLive fun s =>
    let s := { s with time := { s.time with refQualified := true } }
    .next (if s.mon 0x3000 3 then s.useReference 1 else s)

/-- REF10M_LOST (R35, R72, R73): a loss while REF10M is in use moves the PLL to the TCXO, sets REF10M_LOST and enters
HOLDOVER; while the Reeve restarts the time state waits for REEVE_RETURN, which makes it HOLDOVER. -/
def execRef10mLost (s : State) : Host.Outcome State Fault Refusal :=
  s.whenLive fun s =>
    let used := s.mon 0x3000 2
    let s := { s with time := { s.time with refQualified := false } }
    if used then
      let s := (s.useReference 0).timeFlag refLostBit
      .next (if s.reeve.running then s.enterHoldover refLostBit else s)
    else .next s

/-! ## Increment, step, PPS load -/

/-- Commit of 0x3002:00 (R39, R51, R56): held for the next slot, refused in mode 0. -/
def incrementCommit (v : Word) : Commit := fun s =>
  if s.mnat 0x3001 1 = 0 then (abortConflict, s)
  else (0, ({ s with time := { s.time with pendIncr := some v } }).mput 0x3002 0 v)

/-- INCREMENT_WRITE. -/
def execIncrementWrite (p : Path) (v : Word) (s : State) : Host.Outcome State Fault Refusal :=
  s.writeRow p 0x3002 0 (leBytes 8 v.toNat) (incrementCommit v)

/-- Commit of 0x3003:00 (R50, R51). -/
def timeStepCommit (v : Word) : Commit := fun s =>
  let mode := s.mnat 0x3001 1
  if mode = 0 then (abortConflict, s)
  else if mode = 1 ∧ s.time.allowance = true then
    (0, { s with time := { s.time with allowance := false, pendStep := some v } })
  else (abortStep, s.timeFlag stepRefused)

/-- TIME_STEP_WRITE. -/
def execTimeStepWrite (p : Path) (v : Word) (s : State) : Host.Outcome State Fault Refusal :=
  s.writeRow p 0x3003 0 (leBytes 8 v.toNat) (timeStepCommit v)

/-- T64 of a TIME80 (R8). -/
def t64OfTime80 (v : BitVec 80) : T64 := BitVec.ofNat 64 (v.toNat / 2 ^ 32 * 1000000000 + v.toNat % 2 ^ 32)

/-- Commit of 0x3005:00 (R52): only in FREE_RUN. -/
def ppsLoadCommit (v : BitVec 80) : Commit := fun s =>
  if s.time.ts = .freeRun then
    (0, { s with time := { s.time with
        ppsLoad := some { value := t64OfTime80 v, deadline := s.tclk + tclkOfS 2, edge := none } } })
  else (abortConflict, s)

/-- PPS_LOAD_WRITE. -/
def execPpsLoadWrite (p : Path) (v : BitVec 80) (s : State) : Host.Outcome State Fault Refusal :=
  s.writeRow p 0x3005 0 (leBytes 10 v.toNat) (ppsLoadCommit v)

/-- PPS_LOAD_TIMEOUT (R52). -/
def execPpsLoadTimeout (s : State) : Host.Outcome State Fault Refusal :=
  s.whenReeve fun s =>
    match s.time.ppsLoad with
    | some l =>
      if l.edge.isNone && l.deadline ≤ s.tclk then
        .next (({ s with time := { s.time with ppsLoad := none } }).timeFlag ppsMissingBit)
      else .next s
    | none => .next s

/-! ## The correction bus (R31, R39, R69) -/

/-- What the next slot carries as a load: a step, or a captured PPS load. -/
def TimeBase.dueLoad (t : TimeBase) : Option Load :=
  match t.pendStep, t.ppsLoad with
  | some v, _ => some (.step v)
  | none, some l => l.edge.map fun e => .pps l.value e
  | none, none => none

/-- A slot edge (R31, R39, R69): a load freezes the distributed T64 for 4 TCLK and an increment that shares the slot
waits for the strobe; an increment alone takes effect on the slot edge itself. -/
def TimeBase.slot (t : TimeBase) (tclk : Nat) : TimeBase :=
  let t := { t with nextSlot := (tclk / 64 + 1) * 64 }
  match t.dueLoad with
  | some l =>
    { t with
      load := some (tclk + 4, l), frozen := some t.t64, afterStrobe := t.pendIncr, pendIncr := none
      pendStep := none, ppsLoad := match l with | .pps .. => none | .step _ => t.ppsLoad }
  | none =>
    match t.pendIncr with
    | some v => { t.setAcc (t.acc + v.toNat - t.incr.toNat) with incr := v, pendIncr := none }
    | none => t

/-- CORRECTION_SLOT (R39): every 64 TCLK; while the Reeve is away the bus carries nothing (R73). -/
def execCorrectionSlot (s : State) : Host.Outcome State Fault Refusal :=
  s.whenLive fun s =>
    if s.time.nextSlot ≤ s.tclk then
      if s.reeve.running then .next { s with time := s.time.slot s.tclk }
      else .next { s with time := { s.time with nextSlot := (s.tclk / 64 + 1) * 64 } }
    else .next s

/-- The counter after a load (R50, R52, R69): a step leaves the fraction; a PPS load sets the written value plus the
time from the pin edge, counted by the increment in force; a waiting increment then takes over. -/
def TimeBase.applyLoad (t : TimeBase) (tclk : Nat) (l : Load) : TimeBase :=
  let t' := { t with
    load := none, frozen := none, epoch := t.epoch + 1
    incr := t.afterStrobe.getD t.incr, afterStrobe := none }
  match l with
  | .step v => { t' with t64 := t.t64 + v }
  | .pps value edge =>
    { t' with t64 := value + BitVec.ofNat 64 ((tclk - edge) * t.incr.toNat / 2 ^ 32), frac := 0 }

/-- A load carries an armed time across from after `before` to at or before `after_` (R67, R201). -/
def crosses (before after_ v : T64) : Bool := before.toNat < v.toNat && v.toNat ≤ after_.toNat

/-- The load acts on what waits for full T64 in a channel: the T64 freeze, the stop time, queued launches (R67, R201,
R209), and every launch time at or before the new T64 comes due late (R67, R102).  A silence, and a launch whose first Loom cycle is
still to come, keep their distance in post-step time (R246, log entry 125). -/
def Channel.crossLoad (ch : Channel) (before after_ : T64) (epoch : Nat) : Channel :=
  { ch with
    owners := ch.owners.map fun (o : Owner) =>
      { o with ts := { o.ts with silent := o.ts.silent.map fun x => (x.1, x.2 + (after_ - before)) } }
    st0 := { ch.st0 with t64Late := ch.st0.t64Late ||
      (ch.st0.t64Armed && crosses before after_ (ch.get 0x202 3)) }
    stop := { ch.stop with timeLate := ch.stop.timeLate ||
      (ch.stop.timeArmed && crosses before after_ (ch.get 0x400 9)) }
    jobs := ch.jobs.map fun j =>
      if j.running && !j.begun then { j with launched := j.launched + (after_ - before) }
      else if !j.running && !j.desc.arrival && decide (j.launchAt.toNat ≤ after_.toNat ∧ before.toNat < after_.toNat) then
        { j with late := true }
      else j
    chute := { ch.chute with
      stamps := [], steps := if ch.tracing then ch.chute.steps ++ [(epoch, after_)] else ch.chute.steps } }

/-- Comparators 0 to 4. -/
def allCmps : List (Fin 5) := [0, 1, 2, 3, 4]

/-- LOAD_STROBE (R31, R50, R52, R65, R67, R68): the load is applied in all nine counters; TIME_STEP, the last record of the
old epoch, goes ahead of what the step makes the comparators report (R163). -/
def State.strobe (s : State) (l : Load) : State :=
  let before := s.now
  let oldEpoch := s.time.epoch
  let s := { s with time := s.time.applyLoad s.tclk l }
  let after_ := s.now
  let s := s.eachChan fun s c => s.modChan c (·.crossLoad before after_ oldEpoch)
  let s := (s.mcount 0x3000 5 1).timeFlag stepApplied
  let s := s.moduleEvent { unit := 0x00, num := 0x0100, pay := after_ - before, at_ := some before, epoch := some oldEpoch }
  s.eachChan fun s c => allCmps.foldl (fun s k => s.stepCmp c k before.low (tDiff after_ before)) s

/-- LOAD_STROBE: due 4 TCLK after its slot edge. -/
def execLoadStrobe (s : State) : Host.Outcome State Fault Refusal :=
  s.whenLive fun s =>
    match s.time.load with
    | some (t, l) => if t ≤ s.tclk then .next (s.strobe l) else .next s
    | none => .next s

/-! ## PPS_IN (R62) -/

/-- Distance of a T64 from the nearest whole second, −500,000,000 to 499,999,999 ns (R62). -/
def phaseError (t : T64) : Int := (t.toNat + 500000000 : Int) % 1000000000 - 500000000

/-- The capture as a measurement while PPS_IN is the source (R53, R55, R62). -/
def State.ppsMeasure (s : State) (phase : Int) : State :=
  let s := s.mput 0x3008 1 (wInt phase)
  let s := if s.time.ts = .freeRun then s.acquire true else s
  ({ s with time := { s.time with lastPps := some s.tclk } }).measure phase 0

/-- PPS_CAPTURE (R52, R62): the T64 two TCLK back, its phase error, the event; a pending load takes the edge. -/
def execPpsCapture (s : State) : Host.Outcome State Fault Refusal :=
  s.whenReeve fun s =>
    let cap : T64 := BitVec.ofNat 64 ((s.time.acc - 2 * s.time.incr.toNat) / 2 ^ 32)
    let phase := phaseError cap
    let s := ((s.mput 0x3006 1 cap).mput 0x3006 2 (wInt phase)).moduleEvent
      { unit := 0x00, num := 0x0106, pay := cap }
    let s := { s with time := { s.time with
        lastPps := some s.tclk
        ppsLoad := s.time.ppsLoad.map fun (l : PpsLoad) => { l with edge := some (l.edge.getD (s.tclk - 2)) } } }
    .next (if s.mon 0x3001 2 then s.ppsMeasure phase else s)

/-- T64 at the TCLK edge k edges ahead: counted by the increment in force, a load whose strobe falls within them applied
(R31, R38). -/
def TimeBase.ahead (t : TimeBase) (tclk : Nat) (k : Nat) : TimeBase :=
  match k with
  | 0 => t
  | k + 1 =>
    let t := t.tick
    let t := match t.load with
      | some (at_, l) => if at_ ≤ tclk + 1 then t.applyLoad (tclk + 1) l else t
      | none => t
    t.ahead (tclk + 1) k

/-- PPS_MISSING (R55, R73): 3.5 s after the last captured edge.  DESIGN CHOICE (log entry 113): with PPS_IN as the source and no
capture yet there is no last edge to count from, and the loss is never declared. -/
def execPpsMissing (s : State) : Host.Outcome State Fault Refusal :=
  s.whenReeve fun s =>
    match s.time.lastPps with
    | some t =>
      if s.mon 0x3001 2 ∧ t + tclkOfMs 3500 ≤ s.tclk ∧ (s.time.ts = .acquiring ∨ s.time.ts = .locked) then
        .next (s.enterHoldover (ppsMissingBit ||| masterLostBit))
      else .next s
    | none => .next s

/-! ## Modes -/

/-- A change of correction mode or source (R54). -/
def State.reacquireConfig (s : State) : State :=
  let s := { s with time := { s.time.restart with
      ppsLoad := none, integral := incrementRate s.time.incr, offsets := [], delays := [] } }
  match s.time.ts with
  | .freeRun => s
  | .acquiring | .locked => s.acquire true
  | .holdover => { s with time := { s.time with allowance := true } }

/-- Commit of 0x3001:01 and :02. -/
def correctionCommit (sub v : Nat) : Commit := commitOk fun s =>
  if s.mget 0x3001 sub = w v then s else (s.mput 0x3001 sub (w v)).reacquireConfig

/-- CORRECTION_MODE_COMMIT (R54): 0x3001:01, or 0x3001:02 where `source`. -/
def execCorrectionModeCommit (p : Path) (source : Bool) (v : Byte) (s : State) : Host.Outcome State Fault Refusal :=
  s.writeRow p 0x3001 (if source then 2 else 1) [v] (correctionCommit (if source then 2 else 1) v.toNat)

/-- Commit of 0x3004:00. -/
def reacquireCommit : Commit := commitOk fun s => if s.time.ts = .freeRun then s else s.acquire true

/-- REACQUIRE (R55): 1 written to 0x3004:00. -/
def execReacquire (p : Path) (v : Byte) (s : State) : Host.Outcome State Fault Refusal :=
  s.writeRow p 0x3004 0 [v] reacquireCommit

/-- CALENDAR_SET (R369): only in FREE_RUN, and only for a UTC date from 2000-01-01 to 2399-12-31. -/
def calendarCommit (v : BitVec 80) : Commit := fun s =>
  let sec : Nat := v.toNat / 2 ^ 32
  let y := (civilOfDay (((sec : Int) - s.taiOffset) / 86400)).1
  if y < 2000 ∨ 2399 < y then (abortRange, s)
  else if s.time.ts ≠ .freeRun then (abortConflict, s)
  else (0, s.setCalendar sec)

def execCalendarSet (p : Path) (v : BitVec 80) (s : State) : Host.Outcome State Fault Refusal :=
  s.writeRow p 0x2040 4 (leBytes 10 v.toNat) (calendarCommit v)

end Sys2Proof.Machine
end

