-- ==== Sys2Proof/Machine/Halt.lean ====
section
/-! DEFINITION. What takes a channel out of work, shared by every family: a change of channel state (R438), an RLink
port's way DOWN (R84, R86), and a stop request (R208, R210, R212). -/

namespace Sys2Proof.Machine

open Sys2Proof

/-- Reasons of R438 that a fault in the channel sets. -/
def reasonHbm : Byte := 0x10
def reasonStillroom : Byte := 0x11
def reasonXts : Byte := 0x12
def reasonWhitening : Byte := 0x13
def reasonSelfTest : Byte := 0x14

/-- The channel changes state; each change sets CHAN_IRQ_STATUS.STATE (R291, R438). -/
def State.setChanSt (s : State) (c : Chan) (st : ChanSt) (reason : Byte) : State :=
  let old := (s.chan c).st
  let s := s.modChan c fun ch => { ch with st := st, reason := reason }
  if old = st then s else s.raiseIrq c irqState

/-- A runtime fault disables the channel's compute (R35, R136, R272, R438). -/
def State.disableCompute (s : State) (c : Chan) (reason : Byte) : State :=
  if (s.chan c).st = .ready then s.setChanSt c .computeDisabled reason else s

/-- The channel computes (R94, R211, R439). -/
def Channel.computing (ch : Channel) : Bool := ch.st == .ready && !ch.stopped

/-! ## Ports -/

/-- Link-down causes of 0x8540 + p:09. -/
def causeReplay : Nat := 1
def causeSignal : Nat := 2
def causeCredit : Nat := 3
def causeTraining : Nat := 4
def causeLane : Nat := 5
def causeMode : Nat := 6
def causeChannel : Nat := 7

/-- Offset of a port's object. -/
def portOff (p : Port) : Nat := 0x540 + p.val

/-- Port states of 0x8540 + p:02. -/
def Channel.portState (ch : Channel) (p : Port) : Nat := ch.nat (portOff p) 2
def Channel.portUp (ch : Channel) (p : Port) : Bool := ch.portState p == 3

/-- The port enters DOWN at this TCLK edge: sending ends, and partial frames are discarded (R84). -/
def Channel.portReset (ch : Channel) (tclk : Nat) (p : Port) : Channel :=
  (ch.put (portOff p) 2 0).setPort p { RPort.reset with downSince := tclk }

/-- Port 1 of channel c is wired to port 0 of channel (c + 1) mod 8; ports 2 and 3 go to the connectors (R19). -/
def ringPeer (c : Chan) (p : Port) : Option (Chan × Port) :=
  if p = 1 then some (c + 1, 0) else if p = 0 then some (c - 1, 1) else none

/-- One end leaves UP with its cause and LINK_DOWN; one still training returns to DOWN (R84, R86). -/
def State.endDown (s : State) (c : Chan) (p : Port) (cause : Nat) : State :=
  let ch := s.chan c
  let s := s.setChan c (ch.portReset s.tclk p)
  if ch.portUp p then
    (s.modChan c fun ch => (ch.count (portOff p) 5 1).put (portOff p) 9 (w cause)).event c
      { unit := 0x38 + p.val, num := 0x0901, pay := payAt 8 cause }
  else s

/-- Jobs that use a port end LINK_FAIL, unless their channel is stopping or stopped (R33, R106). -/
def State.failUsers (s : State) (c : Chan) (uses : Job → Bool) : State :=
  if (s.chan c).stopped then s else s.endJobs c uses statusLinkFail

/-- The far end of a board link sees it go down (R33, R106); flits in flight on it are gone (log entry 126). -/
def State.peerDown (s : State) (c : Chan) (p : Port) : State :=
  match ringPeer c p with
  | none => s
  | some q =>
    let s := { s with ring := s.ring.filter fun x => !((x.1 == c && x.2.1 == p) || (x.1 == q.1 && x.2.1 == q.2)) }
    if s.chanUp q.1 && (s.chan q.1).portUp q.2 then
      let uses := (s.chan q.1).usesPort q.2
      (s.endDown q.1 q.2 causeSignal).failUsers q.1 uses
    else s

/-- A port goes DOWN with a cause, and the far end of a board link with it. -/
def State.portDown (s : State) (c : Chan) (p : Port) (cause : Nat) : State :=
  let was := (s.chan c).portUp p
  let s := s.endDown c p cause
  if was then s.peerDown c p else s

/-- Every port of the channel goes DOWN with cause CHANNEL_STATE (R84, R106). -/
def State.portsDown (s : State) (c : Chan) : State :=
  allPorts.foldl (fun s p => if (s.chan c).portState p = 0 then s else s.portDown c p causeChannel) s

/-! ## Stop requests -/

/-- A channel in reset, in Quarantine or without power ignores every stop source (R212). -/
def Channel.mayStop (ch : Channel) : Bool :=
  ch.st != .booting && ch.st != .quarantine && ch.st != .poweredDown

/-- Sealed blocks that DMA may be writing: each kind's engine writes one of them whole (R215, R238). -/
def Channel.inFlight (ch : Channel) : List (RingKind × Slot) :=
  allSlots.flatMap fun i =>
    let o := ch.owner i
    let one := fun (k : RingKind) (r : Ring) (q : List Block) =>
      if r.active && !r.full && !q.isEmpty && ch.dmaRuns k i then [(k, i)] else []
    one .trace o.trace o.ts.sealedQ ++ one .result o.result o.rs.sealedQ ++ one .decant o.decant o.ds.sealedQ

/-- A stop source reaches the channel (R208, R210): the first code is kept, the lowest of those on one edge; a freeze follows where
mask bit 4 is set, ports go DOWN, no source stays held (R169), and DMA finishes the blocks that it is writing (R215). -/
def State.requestStop (s : State) (c : Chan) (code : Nat) : State :=
  let ch := s.chan c
  if ch.stop.st = 1 ∧ ch.stop.at_ = s.tclk ∧ code < ch.stop.source then
    s.setChan c { ch with stop := { ch.stop with source := code } }
  else if !ch.mayStop || ch.stopped then s
  else
    let s := s.setChan c { ch with stop := { ch.stop with
      st := 1, source := code, drained := false, since := s.now, at_ := s.tclk, flight := ch.inFlight } }
    let s := (s.modChan c (·.releaseSources s.now lossSourceQueue)).endHolds c true
    ((s.stocktake c 5 0).portsDown c).trimStaging c

end Sys2Proof.Machine
end

