-- ==== Sys2Proof/Machine/Store.lean ====
section
/-! DEFINITION. The Cellar and the Larder as byte stores: one canonical list of cells each, page tags, the XTS layer and
the whitening (R78, R79, R256 to R259, R262, R298). -/

namespace Sys2Proof.Machine

open Sys2Proof

/-! ## Cells -/

/-- What an unlisted byte reads as: the manual gives no contents after power-on (log entry 11). -/
def unwritten : Byte := 0

/-- The byte at an address. -/
def memGet (m : List Host.Cell) (a : Nat) : Byte :=
  match m with
  | [] => unwritten
  | (k, v) :: r => if k = a then v else memGet r a

/-- The byte at an address is set; a byte equal to what an unlisted address reads as is not listed. -/
def memPut (m : List Host.Cell) (a : Nat) (b : Byte) : List Host.Cell :=
  match m with
  | [] => if b = unwritten then [] else [(a, b)]
  | (k, v) :: r =>
    if k = a then (if b = unwritten then r else (a, b) :: r)
    else if a < k then (if b = unwritten then (k, v) :: r else (a, b) :: (k, v) :: r)
    else (k, v) :: memPut r a b

/-- Canonical form: addresses strictly rising, no byte equal to what an unlisted address reads as. -/
def memWf (m : List Host.Cell) : Bool :=
  match m with
  | [] => true
  | [(_, v)] => v != unwritten
  | (k, v) :: (k', v') :: r => v != unwritten && decide (k < k') && memWf ((k', v') :: r)

/-- A run of bytes from an address. -/
def memRead (m : List Host.Cell) (a n : Nat) : Bytes := (List.range n).map fun i => memGet m (a + i)

/-- A run of bytes is stored from an address. -/
def memWrite (m : List Host.Cell) (a : Nat) (b : Bytes) : List Host.Cell :=
  match b with
  | [] => m
  | x :: r => memWrite (memPut m a x) (a + 1) r

/-! ## Cellar (R254, R256) -/

/-- 64 KiB. -/
def pageSize : Nat := 65536

/-- Pages of the Cellar. -/
def pageCount : Nat := 393216

/-- Tag of a page; untagged when nothing has tagged it. -/
def Channel.tagOf (ch : Channel) (page : Nat) : Nat := ((ch.tags.find? (·.1 == page)).map (·.2)).getD 0x1F

/-- A page takes a tag. -/
def Channel.setTag (ch : Channel) (page tag : Nat) : Channel :=
  let rest := ch.tags.filter (·.1 != page)
  { ch with tags := if tag = 0x1F then rest else rest ++ [(page, tag)] }

/-- XTS keys of slot s of channel c while its key lives (R253, R256); a job or a load that began before retirement keeps its
access until the key is destroyed (R254, R267). -/
def Channel.xtsKeys (ch : Channel) (c : Chan) (s : Slot) : Option (BitVec 256 × BitVec 256) :=
  match (ch.owner s).key with
  | some k =>
    let cb := BitVec.ofNat 8 c.val
    let sb := BitVec.ofNat 8 s.val
    some (subkey k.key labelData cb sb k.gen, subkey k.key labelTweak cb sb k.gen)
  | none => none

/-- The slot of an owner tag. -/
def tagSlot (tag : Nat) : Option Slot := if tag < 16 then some (Fin.ofNat 16 tag) else none

/-- Plaintext of a 64-byte unit of slot s; none where the page is not its own or its key is not usable. -/
def Channel.cellarUnit (ch : Channel) (c : Chan) (s : Slot) (unit : Nat) : Option Bytes :=
  if ch.tagOf (unit * 64 / pageSize) = s.val then
    match ch.xtsKeys c s with
    | some (d, t) => some (xts true d t unit (memRead ch.cellar (unit * 64) 64))
    | none => none
  else none

/-- Plaintext bytes [off, off + n) as the channel reads them for slot s; a unit it may not read gives zeros. -/
def Channel.cellarRead (ch : Channel) (c : Chan) (s : Slot) (off n : Nat) : Bytes :=
  let u0 := off / 64
  let units := (List.range ((off + n + 63) / 64 - u0)).flatMap fun i => (ch.cellarUnit c s (u0 + i)).getD (zeros 64)
  slice units (off % 64) n

/-- One 64-byte unit rewritten under its owner's keys: bytes at an offset inside it are merged (R298). -/
def Channel.writeUnit (ch : Channel) (k : BitVec 256 × BitVec 256) (unit off : Nat) (b : Bytes) : Channel :=
  let old := xts true k.1 k.2 unit (memRead ch.cellar (unit * 64) 64)
  let new := old.take off ++ b ++ old.drop (off + b.length)
  { ch with cellar := memWrite ch.cellar (unit * 64) (xts false k.1 k.2 unit new) }

/-- Data written from a Cellar address on, unit by unit. -/
def Channel.writeCellar (ch : Channel) (k : BitVec 256 × BitVec 256) (addr : Nat) (b : Bytes) : Channel :=
  if addr % 64 + b.length ≤ 64 then ch.writeUnit k (addr / 64) (addr % 64) b
  else (chunks 64 b).zipIdx.foldl (fun (ch : Channel) (x : Bytes × Nat) => ch.writeUnit k (addr / 64 + x.2) 0 x.1) ch

/-- The keys of the channel's own pages: data and tweak key, drawn at its power-on (R256). -/
def Channel.channelKeys (ch : Channel) (c : Chan) : BitVec 256 × BitVec 256 :=
  let k := Config.channelKey c.val ch.chanKey
  (k.setWidth 256, (k >>> 256).setWidth 256)

/-- A byte of the channel's own pages, which lie under the channel key: inside a dump that stands in its slot, the stored sealed
byte (R227, R256). -/
def Channel.dumpByte (ch : Channel) (c : Chan) (a : Nat) : Byte :=
  match ch.dbg.area with
  | none => 0xFF
  | some p =>
    let off := a - p * pageSize
    let n := off / 262144
    match (ch.dbg.dumps[n]?).getD none with
    | some len =>
      if p * pageSize ≤ a ∧ off % 262144 < len then
        let k := ch.channelKeys c
        (xts true k.1 k.2 (a / 64) (memRead ch.cellar (a / 64 * 64) 64)).getD (a % 64) 0
      else 0xFF
    | none => 0xFF

/-! ## Larder (R78, R258) -/

/-- Granules of 64 KiB. -/
def larderGranules : Nat := 3072

/-- The whitening key of slot s of channel c while it holds a key (R253, R258). -/
def Channel.whtKey (ch : Channel) (c : Chan) (s : Slot) : Option (BitVec 256) :=
  (ch.owner s).key.map fun k => subkey k.key labelWht (BitVec.ofNat 8 c.val) (BitVec.ofNat 8 s.val) k.gen

/-- The pad of a line under a whitening key (R258). -/
def linePad (key : BitVec 256) (line : Nat) : Bytes := (List.range 64).map fun i => Config.whitening key line i

/-- A line is filled for a slot under its whitening key: whitened bytes and its tag. -/
def Channel.fillLine (ch : Channel) (key : BitVec 256) (s : Slot) (line : Nat) (b : Bytes) : Channel :=
  { ch with
    larder := memWrite ch.larder (line * 64) (xorBytes (padTo b 64) (linePad key line))
    larderTags := { line := line, slot := s } :: ch.larderTags.filter (·.line != line) }

/-- The tag of a valid line. -/
def Channel.lineTag (ch : Channel) (line : Nat) : Option Slot :=
  (ch.larderTags.find? (·.line == line)).map (·.slot)

/-- Lines are filled in turn from those given. -/
def Channel.fillLines (ch : Channel) (key : BitVec 256) (s : Slot) (lines : List Nat) (b : Bytes) : Channel :=
  match lines with
  | [] => ch
  | l :: r => if b.isEmpty then ch else (ch.fillLine key s l (b.take 64)).fillLines key s r (b.drop 64)

/-- The byte at a Larder address, the whitening of a key removed. -/
def Channel.larderClear (ch : Channel) (key : BitVec 256) (a : Nat) : Byte :=
  memGet ch.larder a ^^^ Config.whitening key (a / 64) (a % 64)

/-- Larder address of a byte of a plan's Larder area, by its granules (R78). -/
def Plan.larderAddr (p : Plan) (off : Nat) : Option Nat := (p.grains[off / 65536]?).map fun g => g * 65536 + off % 65536

/-- Lines that n bytes of a plan's Larder area from an offset lie in. -/
def Plan.larderLines (p : Plan) (off n : Nat) : List Nat :=
  ((List.range ((off % 64 + n + 63) / 64)).filterMap fun i => p.larderAddr (off / 64 * 64 + 64 * i)).map (· / 64)

/-- n bytes of a plan's Larder area as its owner's units read them; bytes outside it read 0. -/
def Channel.larderRun (ch : Channel) (c : Chan) (p : Plan) (off n : Nat) : Bytes :=
  match ch.whtKey c p.owner with
  | none => zeros n
  | some key => (List.range n).map fun i => match p.larderAddr (off + i) with | some a => ch.larderClear key a | none => 0

end Sys2Proof.Machine
end

