-- ==== Sys2Proof/Machine/Plan.lean ====
section
/-! DEFINITION. Plans: load, checks and unload (R75, R78, R79, R90, R91, R107, R118, R127, R128, R267). -/

namespace Sys2Proof.Machine

open Sys2Proof

/-- Load results of R91. -/
def loadBusy : Nat := 1
def loadNoKey : Nat := 0x10
def loadSlotInUse : Nat := 0x11
def loadBadHeader : Nat := 0x12
def loadBadLayout : Nat := 0x13
def loadBadCrc : Nat := 0x14
def loadWrongStepping : Nat := 0x15
def loadUnsupported : Nat := 0x16
def loadPortMode : Nat := 0x17
def loadNoLarder : Nat := 0x18
def loadNoCellar : Nat := 0x19

/-- A section table entry. -/
structure Section_ where
  type : Nat
  length : Nat
  offset : Nat
deriving Repr

/-- The sections that an image's table lists. -/
def imageSections (b : Bytes) : List Section_ :=
  let at_ := leField b 72 8
  (List.range (leField b 64 4)).map fun i =>
    let e := slice b (at_ + 16 * i) 16
    { type := leField e 0 2, length := leField e 4 4, offset := leField e 8 8 }

/-- Check 4 of R91: lengths agree, and the table and sections lie inside the image. -/
def layoutOk (b : Bytes) (len : Nat) : Bool :=
  leField b 112 8 == len && decide (leField b 72 8 + 16 * leField b 64 4 ≤ len) &&
  (imageSections b).all fun x => decide (x.offset + x.length ≤ len)

/-- The image's CRC, its own four bytes as 0. -/
def imageCrcOk (b : Bytes) : Bool := (crc32 (b.take 124 ++ zeros 4 ++ b.drop 128)).toNat == leField b 124 4

/-- The port masks agree with the port modes (check 8): inputs by the input source, outputs streaming. -/
def Channel.portsAgree (ch : Channel) (source : Nat) (inMask outMask : Nat) : Bool :=
  allPorts.all fun p =>
    let mode := ch.nat (0x540 + p.val) 1
    (!inMask.testBit p.val || (if source = 1 then mode == 2 else mode == 1)) && (!outMask.testBit p.val || mode == 1)

/-- The words of the Stillroom constants section, type 5 (R118, R128). -/
def imageConsts (b : Bytes) : List (BitVec 32) :=
  (chunks 4 (((imageSections b).filter (·.type == 5)).flatMap fun x => slice b x.offset x.length)).map fun x => BitVec.ofNat 32 (leNat x)

/-- The register files that the section fills: of Stillroom 0, and of Stillroom 1 (log entry 118). -/
def constFiles (facts : ProgramFacts) (b : Bytes) : List (BitVec 32) × List (BitVec 32) :=
  ((imageConsts b).take facts.consts0, (imageConsts b).drop facts.consts0)

/-- The register file of a room. -/
def roomFile (f : List (BitVec 32) × List (BitVec 32)) (n : Fin 2) : List (BitVec 32) := if n = 0 then f.1 else f.2

/-- A scalar constant lies in its register file and satisfies p. -/
def constAllows (k : Const) (file : List (BitVec 32)) (p : Num → Bool) : Bool :=
  match k with
  | .scalar i => match file[i]? with | some v => p (fp32 v) | none => false
  | .none | .element _ => true

/-- A finite number that is not negative: ε (R123, R127). -/
def epsOk (x : Num) : Bool := !x.isNan && !x.isInf && !x.lt (.val false 0)

/-- A format that a Stillroom takes or gives (R111, R126). -/
def stillFormat (f : Fmt) : Bool := f != .int16

/-- A recipe as the plan applies it is within R117, R118, R127 and R128. -/
def rowUseOk (u : RowUse) (file : List (BitVec 32)) : Bool :=
  match recipeOf u.code u.act with
  | none => false
  | some r =>
    decide (1 ≤ u.length) && decide (u.length ≤ 65536) && decide (u.chained ≤ 1) && stillFormat u.fmt && stillFormat u.out &&
    (!isRowRecipe r || u.src.isNone) && constAllows u.inScale file (!·.isInf) &&
    constAllows u.gamma file (fun x => !(u.code == 0x30 && x.isInf)) && constAllows u.beta file (fun _ => true) &&
    constAllows u.eps file epsOk && (match u.eps with | .element _ => false | .none | .scalar _ => true)

/-- Formats, recipes and constants of a plan are supported (R75, R91, R117, R127, R128). -/
def plansSupported (facts : ProgramFacts) (b : Bytes) : Bool :=
  let files := constFiles facts b
  facts.pairs.all (fun p => loomPair p.1 p.2) && (imageConsts b).all (fun v => !(fp32 v).isNan) &&
  decide (files.1.length ≤ 256) && decide (files.2.length ≤ 256) &&
  facts.rows.all fun u => rowUseOk u (roomFile files u.room)

/-- The first failing check from 3 to 10, 0 for none (R91). -/
def State.imageCheck (s : State) (c : Chan) (b : Bytes) (len : Nat) (facts : ProgramFacts) : Nat :=
  let ch := s.chan c
  let f := leField b 28 2
  let tiles := leField b 48 2
  let splits := leField b 30 1
  let reserved := (slice b 80 32 ++ slice b 120 4).all (· == 0)
  let step := s.reeve.factory.steppings.getD c.val 0
  if leField b 0 4 ≠ 0x4E4C5052 ∨ leField b 4 2 ≠ 1 ∨ reserved = false then loadBadHeader
  else if layoutOk b len = false then loadBadLayout
  else if imageCrcOk b = false then loadBadCrc
  else if (leField b 20 4).testBit step = false then loadWrongStepping
  else if plansSupported facts b = false ∨ f < 600 ∨ 1500 < f ∨ f % 25 ≠ 0 ∨ tiles = 0 ∨ 256 < tiles ∨ splits = 0 ∨
      8 < splits ∨ splits ≤ leField b 31 1 ∨ leField b 24 4 = 0 then loadUnsupported
  else if ch.portsAgree (leField b 54 1) (leField b 52 1) (leField b 53 1) = false then loadPortMode
  else if ch.larderFree < leField b 32 8 then loadNoLarder
  else if ch.cellarFree < leField b 40 8 then loadNoCellar
  else 0

/-- The plan slot that a good image fills; the last tile's scheduled cycle is C (R97). -/
def planOf (r : LoadReq) (b : Bytes) (facts : ProgramFacts) (grains : List Nat) : Plan :=
  { st := 2, id := w (leField b 8 8), owner := r.owner, cycles := leField b 24 4, floor := leField b 28 2,
    larder := leField b 32 8, cellar := leField b 40 8, splitCount := leField b 30 1, splitIndex := leField b 31 1,
    tiles := leField b 48 2, hatchMask := BitVec.ofNat 16 (leField b 50 2), inPorts := BitVec.ofNat 4 (leField b 52 1),
    outPorts := BitVec.ofNat 4 (leField b 53 1), source := leField b 54 1, fmt := BitVec.ofNat 8 (leField b 55 1),
    count := leField b 56 4, outBytes := leField b 60 4, stepCount := leField b 68 4, at_ := r.off, page := r.off / pageSize,
    pages := (r.off + r.len + pageSize - 1) / pageSize - r.off / pageSize, grains := grains, consts := constFiles facts b
    facts := { facts with tiles := facts.tiles.dropLast ++ [leField b 24 4] } }

/-- The first n granules that no plan holds. -/
def Channel.freeGrains (ch : Channel) (n : Nat) : List Nat :=
  let used := ch.plans.toList.flatMap (·.grains)
  ((List.range larderGranules).filter fun g => !used.contains g).take n

/-- The plan event fields of a slot (R143, R180). -/
def planPay (p : Plan) (i : Fin 16) : Word :=
  payAt 8 i.val ||| payAt 9 p.owner.val ||| payAt 10 (p.id.toNat % 2 ^ 48)

/-- The commit of 1 to 0x8510:05 (R91, R267): refused while a load is BUSY; checks 1 and 2 are made at once. -/
def planLoadCommit (c : Chan) : Commit := fun s =>
  let ch := s.chan c
  if ch.nat 0x510 6 = loadBusy ∨ ch.st = .booting then (abortConflict, s)
  else
    let r : LoadReq := {
      slot := Fin.ofNat 16 (ch.nat 0x510 4), off := ch.nat 0x510 1, len := ch.nat 0x510 2
      owner := Fin.ofNat 16 (ch.nat 0x510 3), image := none }
    let fail := fun (code : Nat) =>
      (s.cput c 0x510 6 (w code)).event c { unit := 0x01, num := 0x0206, pay := payAt 8 r.slot.val ||| payAt 9 code }
    if (ch.owner r.owner).st ≠ .keyed then (0, fail loadNoKey)
    else if (ch.plan r.slot).st ≠ 0 then (0, fail loadSlotInUse)
    else
      let ch := ch.setPlan r.slot { Plan.reset with st := 1, owner := r.owner }
      (0, s.setChan c (({ ch with loading := some r }).put 0x510 6 (w loadBusy)))

/-- PLAN_LOAD. -/
def execPlanLoad (p : Path) (c : Chan) (s : State) : Host.Outcome State Fault Refusal :=
  s.writeRow p (chanIndex c 0x510) 5 [1] (planLoadCommit c)

/-- The load ends well: Larder sections are copied, the slot is READY (R78, R91, R258). -/
def State.planLoaded (s : State) (c : Chan) (r : LoadReq) (b : Bytes) (facts : ProgramFacts) : State :=
  let ch := s.chan c
  let weights := ((imageSections b).filter (·.type == 2)).flatMap fun x => slice b x.offset x.length
  let grains := ch.freeGrains ((leField b 32 8 + 65535) / 65536)
  let lines := grains.flatMap fun g => (List.range 1024).map (1024 * g + ·)
  let p := planOf r b facts grains
  let key := match r.image with | some x => some x.2 | none => ch.whtKey c r.owner
  let ch := match key with | some k => ch.fillLines k r.owner lines weights | none => ch
  let ch := ((ch.setPlan r.slot p).put 0x510 6 0).pushCount 0x21 0x0780 s.now ((r.len + 63) / 64)
  (s.setChan c { ch with loading := none }).event c {
    unit := 0x01, num := 0x0204, pay := planPay p r.slot, owner := some r.owner }

/-- A plan slot is emptied: its granules are free again, its lines keep bytes and tags (R254, R262). -/
def State.unloadPlan (s : State) (c : Chan) (i : Fin 16) : State :=
  let p := (s.chan c).plan i
  if p.st = 2 then
    (s.modChan c fun ch => ch.setPlan i Plan.reset).event c {
      unit := 0x01, num := 0x0205, pay := payAt 8 i.val ||| payAt 9 p.owner.val }
  else s

/-- PLAN_LOAD_COMPLETE (R91, R267): the first failing check ends the load with its code; the plan of an owner whose key was
destroyed meanwhile is unloaded as soon as it is loaded. -/
def execPlanLoadComplete (c : Chan) (facts : ProgramFacts) (s : State) : Host.Outcome State Fault Refusal :=
  s.whenChan c fun s =>
    match (s.chan c).loading with
    | none => .next s
    | some r =>
      if (s.chan c).xtsFault then .next s
      else
      let b := (r.image.map (·.1)).getD ((s.chan c).cellarRead c r.owner r.off r.len)
      let code := s.imageCheck c b r.len facts
      if code = 0 then
        let t := s.planLoaded c r b facts
        .next (if r.image.isSome then t.unloadPlan c r.slot else t)
      else
        let s := s.modChan c fun ch =>
          ({ ch with loading := none }.setPlan r.slot Plan.reset).put 0x510 6 (w code)
        .next (s.event c { unit := 0x01, num := 0x0206, pay := payAt 8 r.slot.val ||| payAt 9 code })

/-- The commit of 2 to 0x8510:05 (R91). -/
def planUnloadCommit (c : Chan) : Commit := fun s =>
  let ch := s.chan c
  let i : Fin 16 := Fin.ofNat 16 (ch.nat 0x510 4)
  if ch.nat 0x510 6 = loadBusy ∨ ch.st = .booting ∨ (ch.jobs.any fun j => j.desc.plan == i) = true then (abortConflict, s)
  else (0, s.unloadPlan c i)

/-- PLAN_UNLOAD. -/
def execPlanUnload (p : Path) (c : Chan) (s : State) : Host.Outcome State Fault Refusal :=
  s.writeRow p (chanIndex c 0x510) 5 [2] (planUnloadCommit c)

end Sys2Proof.Machine
end

