-- ==== Sys2Proof/Machine/Job.lean ====
section
/-! DEFINITION. Jobs: fetch, admission, launch, tiles, breaches and completions (R48, R70, R92 to R100, R102, R109, R136,
R259, R285, R286, R306). -/

namespace Sys2Proof.Machine

open Sys2Proof

/-! ## Offsets (R48, R93) -/

/-- O: 16 ns and 20 cycles of the CORE clock given, to the nearest nanosecond. -/
def launchOffset (mhz : Nat) : Nat := (16 * mhz + 20000 + mhz / 2) / mhz

/-- O_A: O and 4 cycles, to the nearest nanosecond. -/
def arrivalOffset (mhz : Nat) : Nat := launchOffset mhz + (4000 + mhz / 2) / mhz

/-- D of a plan, ⌈C × 1000 / F⌉ ns (R90). -/
def contractNs (cycles mhz : Nat) : Nat := (cycles * 1000 + mhz - 1) / mhz

/-- The ceiling that admission and launch test: 0 while compute issue is throttled (R94, R95, R404). -/
def Channel.admitCeiling (ch : Channel) : Nat := if ch.gov.duty ≠ 0 then 0 else ch.nat 0x700 2

/-! ## Reject codes (R96) -/

def rejQueueFull : Nat := 0x01
def rejNoPlan : Nat := 0x02
def rejCeiling : Nat := 0x03
def rejPast : Nat := 0x04
def rejOverlap : Nat := 0x05
def rejBadDescriptor : Nat := 0x06
def rejNotComputing : Nat := 0x07
def rejCeilingAtLaunch : Nat := 0x08
def rejLinkDown : Nat := 0x09
def rejCancelled : Nat := 0x0A

/-! ## Descriptors (R92) -/

/-- The fields of a 32-byte descriptor. -/
def descOf (b : Bytes) : Desc :=
  { plan := Fin.ofNat 16 (leField b 0 1), arrival := leField b 1 1 == 1, runLate := (leField b 2 1).testBit 0
    irq := (leField b 2 1).testBit 1, port := Fin.ofNat 4 (leField b 3 1), tag := BitVec.ofNat 32 (leField b 4 4)
    t0 := BitVec.ofNat 64 (leField b 8 8), t1 := BitVec.ofNat 64 (leField b 16 8), stream := Fin.ofNat 16 (leField b 24 1) }

/-- REJ_BAD_DESCRIPTOR on the descriptor alone (R92, R96): reserved fields, modes and ranges; the fields that time mode
gives as 0 count as reserved. -/
def descBad (b : Bytes) : Bool :=
  let reserved := (slice b 25 7).any (· != 0) || leField b 2 1 / 4 != 0
  let time := leField b 1 1 == 0 && (leField b 3 1 != 0 || leField b 16 8 != 0 || leField b 24 1 != 0)
  let arrive := leField b 1 1 == 1 && (decide (3 < leField b 3 1) || decide (15 < leField b 24 1))
  reserved || decide (1 < leField b 1 1) || decide (15 < leField b 0 1) || time || arrive

/-- The plan is READY and the owner's. -/
def Plan.readyFor (p : Plan) (i : Slot) : Bool := p.st == 2 && p.owner == i

/-- A port that the plan uses is not UP. -/
def Channel.portsMissing (ch : Channel) (p : Plan) : Bool :=
  allPorts.any fun q => (p.inPorts ||| p.outPorts).getLsbD q.val && !ch.portUp q

/-- The reservation [S, E] that a job asks for, with its late flag; or the reject code (R94). -/
def reserveFor (d : Desc) (p : Plan) (now : T64) : Except Nat (Nat × Nat × Bool) :=
  let n := now.toNat
  let dur := contractNs p.cycles p.floor
  if d.arrival then
    if d.t1.toNat < d.t0.toNat ∨ 2 ^ 40 < d.t1.toNat - d.t0.toNat ∨ d.t1.toNat < n + 1000 then .error rejBadDescriptor
    else .ok (d.t0.toNat, d.t1.toNat + arrivalOffset p.floor + dur, false)
  else if d.t0.toNat < n + 1000 then
    if d.runLate then .ok (n + 1000, n + 1000 + launchOffset p.floor + dur, true) else .error rejPast
  else .ok (d.t0.toNat, d.t0.toNat + launchOffset p.floor + dur, false)

/-- [S, E] overlaps a reservation that is held. -/
def Channel.overlaps (ch : Channel) (r : Nat × Nat) : Bool :=
  ch.jobs.any fun (k : Job) =>
    match k.resv with | some (ks, ke) => decide (r.1 < ke ∧ ks < r.2) | none => false

/-- The admission test of R94 in its order: a reject code, or the reservation and the late flag.  A descriptor that was being
fetched as its slot's retirement began is cancelled like the queued jobs (R105, R265, log entry 130). -/
def Channel.admission (ch : Channel) (i : Slot) (b : Bytes) (now : T64) : Except Nat (Nat × Nat × Bool) :=
  let d := descOf b
  let p := ch.plan d.plan
  if !ch.computing then .error rejNotComputing
  else if (ch.owner i).st = .retiring then .error rejCancelled
  else if descBad b || (d.arrival && p.readyFor i && !p.inPorts.getLsbD d.port.val) then .error rejBadDescriptor
  else if !p.readyFor i then .error rejNoPlan
  else if ch.portsMissing p then .error rejLinkDown
  else if 64 ≤ ch.jobs.length then .error rejQueueFull
  else if ch.admitCeiling < p.floor then .error rejCeiling
  else match reserveFor d p now with
    | .error e => .error e
    | .ok (a, e, late) => if ch.overlaps (a, e) then .error rejOverlap else .ok (a, e, late)

/-- A job as its descriptor describes it, not yet admitted, under its number. -/
def jobOf (num : Nat) (i : Slot) (b : Bytes) : Job :=
  { num := num, owner := i, desc := descOf b, running := false, resv := none, launchAt := 0, arrived := none, late := false
    launched := 0, breach := none, clip := false, inShort := false, inLong := false, inFmt := 0, inTaken := 0, pad := 0, clipSent := false
    nanSent := false, discard := false, issued := 0, progress := 0, payload := [], captured := [], made := [], begun := false }

/-- A fetched descriptor passes admission, or is rejected at once (R94, R96, R211). -/
def State.admitDesc (s : State) (c : Chan) (i : Slot) (b : Bytes) : State :=
  let j := jobOf (s.chan c).jobNum i b
  match (s.chan c).admission i b s.now with
  | .ok (a, e, late) =>
    let j := { j with resv := some (a, e), late := late, launchAt := BitVec.ofNat 64 a }
    let s := s.modChan c fun ch => { ch with jobs := ch.jobs ++ [j], jobNum := ch.jobNum + 1 }
    s.event c {
      unit := 0x01, num := 0x0200
      pay := payAt 8 j.desc.plan.val ||| payAt 9 (if j.desc.arrival then 1 else 0) ||| payAt 12 j.desc.tag.toNat
      owner := some i }
  | .error code =>
    let raw := leField b 0 1
    let s := s.countReject c i raw j.desc.tag.toNat code
    match s.stamp c 0x3C with
    | (t, s) =>
      let s := s.complete c { j.completion statusRejected code t with plan := BitVec.ofNat 8 raw }
      if raw < 16 then s.reportUnreached c j decRejected else s

/-! ## The job ring (R92, R109, R211, R286, R306) -/

/-- A write of JOB_RING_TAIL, through either view. -/
def Owner.doorbell (o : Owner) (v : Nat) : Owner :=
  if 2 ^ o.job.size.toNat ≤ v then { o with job := { o.job with tailErr := true } }
  else { o with job := { o.job with tail := BitVec.ofNat 32 v } }

/-- JOB_RING_DOORBELL (R286, R306): ignored, with DOORBELL_RETIRING, while the slot is RETIRING. -/
def execJobRingDoorbell (view : View) (c : Chan) (i : Slot) (v : BitVec 32) (s : State) :
    Host.Outcome State Fault Refusal :=
  s.viewWrite view c i 0x110 fun s =>
    .next (s.modChan c fun ch =>
      if (ch.owner i).st = .retiring then
        { ch with host := { ch.host with accessErr := ch.host.accessErr ||| 8 } }
      else ch.modOwner i (·.doorbell (v.toNat % 4096)))

/-- The next slot in turn whose ring holds descriptors (R92). -/
def Channel.nextRing (ch : Channel) : Option Slot :=
  let order := (List.range 16).map fun k => (Fin.ofNat 16 (ch.served.val + 1 + k) : Slot)
  order.find? fun i => (ch.owner i).jobActive && decide (0 < (ch.owner i).job.waiting)

/-- DESCRIPTOR_FETCH (R92, R215, R439): the Foreman issues one fetch; none in a stop or while BOOTING. -/
def execDescriptorFetch (c : Chan) (s : State) : Host.Outcome State Fault Refusal :=
  s.whenHost c fun s =>
    let ch := s.chan c
    if ch.fetching.isSome || ch.stopped || ch.st == .booting then .next s
    else
      match ch.nextRing with
      | some i => .next (s.setChan c { ch with fetching := some i })
      | none => .next s

/-- DESCRIPTOR_FETCHED (R92, R94, R109): the descriptor is admitted or rejected; a failed fetch faults the ring. -/
def execDescriptorFetched (c : Chan) (r : Fetched) (s : State) : Host.Outcome State Fault Refusal :=
  s.whenChan c fun s =>
    match (s.chan c).fetching with
    | none => .next s
    | some i =>
      let s := s.modChan c fun ch => { ch with fetching := none, served := i }
      match r with
      | .good b =>
        let s := s.modChan c fun ch => ch.modOwner i fun o =>
          { o with job := { o.job with head := BitVec.ofNat 32 ((o.job.head.toNat + 1) % 2 ^ o.job.size.toNat) } }
        .next (s.admitDesc c i b)
      | .failed =>
        let s := s.modChan c fun ch => ch.modOwner i fun o => { o with job := { o.job with fault := true } }
        .next (s.raiseIrq c irqRingFault)

/-! ## Launch (R48, R67, R70, R93, R95, R102) -/

/-- Tiles enter the Slate up to the plan's tiles in flight; SLATE_FULL names those that wait (R97). -/
def State.fillSlate (s : State) (c : Chan) : State :=
  let ch := s.chan c
  match ch.runningJob with
  | none => s
  | some j =>
    let p := ch.plan j.desc.plan
    let room := p.tiles - ch.slate.length
    let new := ((p.facts.tiles.zipIdx).drop j.issued).take room
    let tiles := new.map fun x => ({ k := x.2, cycle := x.1
                                     deadline := j.launched + BitVec.ofNat 64 (contractNs x.1 p.floor)
                                     missed := false, left := none } : Tile)
    let s := s.setChan c (({ ch with slate := ch.slate ++ tiles }).modRunning fun j =>
      { j with issued := j.issued + new.length })
    let left := p.facts.tiles.length - (j.issued + new.length)
    if left = 0 then s else s.event c { unit := 0x02, num := 0x0341, pay := payAt 8 left, owner := some j.owner }

/-- A Stillroom as a job finds it: no row in flight; what it last accumulated stays until the job's first row (R134). -/
def Still.fresh (st : Still) : Still := { st with use := none, taken := 0, second := false, done := [] }

/-- The compute units as a job finds them: empty Hatches and Slate, no sums in a Loom (log entry 105). -/
def Channel.clearUnits (ch : Channel) : Channel :=
  { ch with
    slate := [], holds := [], hatches := Vector.replicate 16 [], looms := Vector.replicate 2 Loom.reset
    stills := ch.stills.map (·.fresh) }

/-- A queued job launches, its first Loom cycle `off` ns after `base`, within ± `jitter` ns (R48, R93).  LOOM_START follows at that
cycle. -/
def State.launchJob (s : State) (c : Chan) (j : Job) (late : Bool) (base : T64) (off jitter : Nat) : State :=
  let first := base + BitVec.ofNat 64 (off + s.freeIn 0 (2 * jitter)) - BitVec.ofNat 64 jitter
  let s := s.drawn
  let s := s.modChan c fun ch => { ch.clearUnits with jobs := ch.jobs.map fun (x : Job) =>
    if x.num = j.num then { x with running := true, late := late, launched := first, progress := s.tclk } else x }
  let s := if late then s.ccount c 0x501 4 1 else s
  let s := s.event c {
    unit := 0x01, num := 0x0202
    pay := payAt 8 j.desc.plan.val ||| payAt 9 (if late then 1 else 0) ||| payAt 12 j.desc.tag.toNat, owner := some j.owner }
  s.fillSlate c

/-- The job is due: its launch time, or the frame it has taken. -/
def Job.due (j : Job) (now : T64) : Option T64 :=
  if j.running then none
  else if j.desc.arrival then j.arrived
  else if j.launchAt.toNat ≤ now.toNat then some j.launchAt else none

/-- The due job with the earliest time, the first admitted among equals (R102). -/
def Channel.nextDue (ch : Channel) (now : T64) : Option Job :=
  ch.jobs.foldl (fun best (j : Job) =>
    match j.due now, best.bind (Job.due · now) with
    | some t, some b => if t.toNat < b.toNat then some j else best
    | some _, none => some j
    | none, _ => best) none

/-- A due job is tested again and launches, or is rejected (R95, R439).  An on-time launch edge overshoots its time by
less than one increment; a later one is late (R67, R70). -/
def State.launchDue (s : State) (c : Chan) (j : Job) (t : T64) : State :=
  let ch := s.chan c
  let p := ch.plan j.desc.plan
  if !ch.computing then s.rejectJob c j rejNotComputing
  else if !j.desc.arrival && decide (ch.admitCeiling < p.floor) then s.rejectJob c j rejCeilingAtLaunch
  else
    let late := j.late || (!j.desc.arrival && decide (3 ≤ s.now.toNat - t.toNat))
    let f := ch.liveFreq s.tclk
    if j.desc.arrival then s.launchJob c j late (if late then s.now else t) (arrivalOffset f) (4 + (1000 + f - 1) / f)
    else s.launchJob c j late (if late then s.now else t) (launchOffset f) 4

/-- TIME_LAUNCH (R48, R70, R95, R102): one job at a time, never on the safe clock, never in a stop. -/
def execTimeLaunch (c : Chan) (s : State) : Host.Outcome State Fault Refusal :=
  s.whenChan c fun s =>
    let ch := s.chan c
    if ch.onSafeClock || ch.stopped || ch.runningJob.isSome then .next s
    else
      match ch.nextDue s.now with
      | some j => .next (s.launchDue c j ((j.due s.now).getD 0))
      | none => .next s

/-- NO_INPUT_EXPIRY (R96): A_close has passed with no frame for the i-th queued job. -/
def execNoInputExpiry (c : Chan) (i : Nat) (s : State) : Host.Outcome State Fault Refusal :=
  s.whenChan c fun s =>
    let ch := s.chan c
    match ch.jobs[i]? with
    | some j =>
      if j.desc.arrival && !j.running && j.arrived.isNone && decide (j.desc.t1.toNat < s.now.toNat) && !ch.stopped then
        .next (s.endJob c j statusNoInput)
      else .next s
    | none => .next s

/-- RESERVATION_EXPIRY (R96): at E the reservation of the i-th job is freed. -/
def execReservationExpiry (c : Chan) (i : Nat) (s : State) : Host.Outcome State Fault Refusal :=
  s.whenChan c fun s =>
    match (s.chan c).jobs[i]? with
    | some j =>
      match j.resv with
      | some (_, e) =>
        if e ≤ s.now.toNat then
          .next (s.modChan c fun ch => { ch with jobs := ch.jobs.set i { j with resv := none } })
        else .next s
      | none => .next s
    | none => .next s

end Sys2Proof.Machine
end

