-- ==== Sys2Proof/Machine/Tile.lean ====
section
/-! DEFINITION. What a tile has the units do: Hatches, Looms, simple paths, Stillrooms, tensor frames and results (R75, R77 to R80,
R87, R88, R97 to R99, R110, R118, R130, R259); and what ends with it: retirement, misses, completion and memory failures (R96 to
R98, R109, R136). -/

namespace Sys2Proof.Machine

open Sys2Proof

/-! ## Hatches (R80) -/

/-- Bytes that one Hatch holds. -/
def hatchSize : Nat := 4096

/-- The bytes in a Hatch. -/
def Channel.hatch (ch : Channel) (h : Fin 16) : Bytes := ch.hatches[h.val]

/-- Bytes that a Hatch has room for. -/
def Channel.hatchRoom (ch : Channel) (h : Fin 16) : Nat := hatchSize - (ch.hatch h).length

/-- Data enters a Hatch at its write side, in arrival order. -/
def Channel.putHatch (ch : Channel) (h : Fin 16) (data : Bytes) : Channel :=
  { ch with hatches := ch.hatches.set h.val (ch.hatch h ++ data) }

/-- Data leaves a Hatch at its read side. -/
def Channel.takeHatch (ch : Channel) (h : Fin 16) (n : Nat) : Channel :=
  { ch with hatches := ch.hatches.set h.val ((ch.hatch h).drop n) }

/-- The plan gives a Hatch the producer, the consumer named. -/
def Plan.produces (p : Plan) (u : HatchUnit) (h : Fin 16) : Bool := p.facts.hatches.any fun x => x.hatch == h && x.producer == u
def Plan.consumes (p : Plan) (u : HatchUnit) (h : Fin 16) : Bool := p.facts.hatches.any fun x => x.hatch == h && x.consumer == u

/-! ## Input from a port (R80, R88, R99) -/

/-- INT16 samples through the arithmetic right shift, saturated to INT8 (R88). -/
def reduceInt16 (shift : Nat) (samples : Bytes) : Bytes :=
  (chunks 2 samples).map fun b =>
    let v := (BitVec.ofNat 16 (leNat b)).toInt / (2 ^ shift : Int)
    BitVec.ofInt 8 (if v < -128 then -128 else if 127 < v then 127 else v)

/-- Bytes of one sample on the link, and in the Hatch: INT16 is reduced, BF16 stays at two (R88). -/
def linkBytes (fmt : Byte) : Nat := if fmt = 2 ∨ fmt = 5 then 2 else 1
def sampleBytes (fmt : Byte) : Nat := if fmt = 5 then 2 else 1

/-- Samples as they enter the Hatch. -/
def ingestBytes (fmt : Byte) (shift : Nat) (samples : Bytes) : Bytes :=
  if fmt = 2 then reduceInt16 shift samples else samples

/-- The Hatch that takes what port p receives for a plan: the ingest unit writes it for ingest, the port for a tensor stream. -/
def Plan.inputHatch (p : Plan) (q : Port) : Option (Fin 16) :=
  let u : HatchUnit := if p.source = 1 then .ingest else .port q
  (p.facts.hatches.find? fun x => x.producer == u).map (·.hatch)

/-- The first receive slot of port q, if it holds data for the running job j, goes on into its Hatch h as far as that has room:
whole elements; those beyond the plan's count are discarded, and an odd last byte waits for its element (R88, R99).  A slot that
is empty is freed. -/
def Channel.drainSlot (ch : Channel) (q : Port) (j : Job) (h : Fin 16) : Channel :=
  let r := ch.port q
  match r.held with
  | [] => ch
  | x :: rest =>
    if x.job ≠ j.num then ch
    else
      let p := ch.plan j.desc.plan
      let size := linkBytes j.inFmt
      let avail := x.data.length / size
      let used := min avail (min (p.count - j.inTaken) (ch.hatchRoom h / sampleBytes j.inFmt))
      let taken := j.inTaken + used
      let left := x.data.drop (size * if p.count ≤ taken then avail else used)
      let held :=
        if size ≤ left.length then { x with data := left } :: rest
        else if x.last || left.isEmpty then rest
        else match rest with
          | y :: more => { y with data := left ++ y.data } :: more
          | [] => [{ x with data := left }]
      let gone := decide (held.length < r.held.length)
      let pad := if gone && x.last then (p.count - taken) * sampleBytes j.inFmt else j.pad
      let ch := ch.putHatch h (ingestBytes j.inFmt p.facts.shift (x.data.take (used * size)))
      let ch := ch.setPort q { r with held := held, freed := if gone then r.freed + 1 else r.freed }
      ch.modRunning fun j => { j with inTaken := taken, pad := pad }

/-- Padding follows the last sample of a short frame as the Hatch has room (R99). -/
def Channel.drainPad (ch : Channel) (j : Job) (h : Fin 16) : Channel :=
  let n := min j.pad (ch.hatchRoom h)
  (ch.putHatch h (zeros n)).modRunning fun j => { j with pad := j.pad - n }

/-- What waits in the ports for the running job enters its input Hatch; a port that finds it full is held (R80). -/
def State.drainPort (s : State) (c : Chan) (q : Port) : State :=
  match (s.chan c).runningJob with
  | none => s
  | some j =>
    match ((s.chan c).plan j.desc.plan).inputHatch q with
    | none => s
    | some h =>
      let s := s.modChan c fun ch =>
        (List.range (ch.port q).held.length).foldl (fun ch _ => match ch.runningJob with
          | some j => ch.drainSlot q j h
          | none => ch) ch
      let s := s.modChan c fun ch => match ch.runningJob with | some j => ch.drainPad j h | none => ch
      let waits := ((s.chan c).port q).held.any (·.job == j.num) && decide ((s.chan c).hatchRoom h < sampleBytes j.inFmt)
      if waits then s.noteHold c h true else s.unhold c h true

/-- Every port hands on what it holds for the running job. -/
def State.drainRx (s : State) (c : Chan) : State := allPorts.foldl (fun s q => s.drainPort c q) s

/-! ## Larder reads (R258, R259) -/

/-- A Larder read whose line tag is not the job's owner (R259): the event, and the job's end. -/
def State.larderRead (s : State) (c : Chan) (j : Job) (line : Nat) : State :=
  let tag := (s.chan c).lineTag line
  if tag = some j.owner then s
  else
    let found := match tag with | some t => t.val | none => 0x1F
    (s.event c {
      unit := 0x20, num := 0x0602, pay := payAt 8 found ||| payAt 9 j.owner.val, owner := some j.owner }).failRunning c
        statusMemoryFail (fun _ => true)

/-- Lines are read for the job: each counts, up to the first whose tag is not the owner's, which ends the job. -/
def State.readLines (s : State) (c : Chan) (j : Job) (lines : List Nat) : State :=
  match lines.find? fun l => (s.chan c).lineTag l != some j.owner with
  | some l => s.larderRead c j l
  | none => s.modChan c (·.pushCount 0x20 0x0680 s.now lines.length)

/-- The job still runs. -/
def Channel.stillRuns (ch : Channel) (j : Job) : Bool := ch.jobs.any fun x => x.running && x.num == j.num

/-- n bytes of the Cellar at a byte offset of the plan's image, as the job's units read them (R79). -/
def State.cellarFor (s : State) (c : Chan) (j : Job) (off n : Nat) : Bytes × State :=
  let p := (s.chan c).plan j.desc.plan
  ((s.chan c).cellarRead c j.owner (p.at_ + off) n, s.modChan c (·.pushCount 0x21 0x0780 s.now ((n + 63) / 64)))

/-! ## The units' work -/

/-- What is left of a piece of work, and the state: none is left, or a Hatch holds it. -/
abbrev TileResult := State × Option TileOp

def Channel.loom (ch : Channel) (l : Fin 2) : Loom := ch.looms[l.val]
def Channel.setLoom (ch : Channel) (l : Fin 2) (x : Loom) : Channel := { ch with looms := ch.looms.set l.val x }
def Channel.still (ch : Channel) (n : Fin 2) : Still := ch.stills[n.val]
def Channel.setStill (ch : Channel) (n : Fin 2) (x : Still) : Channel := { ch with stills := ch.stills.set n.val x }

/-- Elements of a format as 16-bit and as 32-bit patterns. -/
def elems16 (f : Fmt) (b : Bytes) : List (BitVec 16) := (chunks (fmtBytes f) b).map fun x => BitVec.ofNat 16 (leNat x)
def elems32 (f : Fmt) (b : Bytes) : List (BitVec 32) := (chunks (fmtBytes f) b).map fun x => BitVec.ofNat 32 (leNat x)

/-- A consumer finds too little in its Hatch: it is held (R80). -/
def State.waitEmpty (s : State) (c : Chan) (h : Fin 16) (op : TileOp) : TileResult :=
  (s.noteHold c h false, some op)

/-- A producer finds its Hatch without room: it is held (R80). -/
def State.waitFull (s : State) (c : Chan) (h : Fin 16) (op : TileOp) : TileResult :=
  (s.noteHold c h true, some op)

/-- A Loom takes an activation vector from its Hatch, or from the Cellar tensor that is the plan's input (R75, R79, R80). -/
def State.vectorStep (s : State) (c : Chan) (j : Job) (l : Fin 2) (src : ActSrc) (f : Fmt) (n : Nat) : TileResult :=
  let p := (s.chan c).plan j.desc.plan
  let bytes := n * fmtBytes f
  let load := fun (s : State) (b : Bytes) =>
    s.modChan c fun ch => ch.setLoom l { ch.loom l with acts := elems16 f b, afmt := f }
  match src with
  | .hatch h =>
    if !p.consumes (.loom l) h then (s, none)
    else if ((s.chan c).hatch h).length < bytes then s.waitEmpty c h (.vector l src f n)
    else
      let b := ((s.chan c).hatch h).take bytes
      ((load (s.modChan c (·.takeHatch h bytes)) b).unhold c h false, none)
  | .cellar off =>
    if p.source ≠ 0 then (s, none)
    else match s.cellarFor c j off bytes with | (b, s) => (load s b, none)

/-- The vector against one column of weights (R75): the column's bytes come from the Larder, or spilled from the Cellar (R79). -/
def State.macStep (s : State) (c : Chan) (j : Job) (l : Fin 2) (wf : Fmt) (sg : Bool) (src : WeightSrc)
    (onto : Option (Fin 512)) : State :=
  let p := (s.chan c).plan j.desc.plan
  let m := (s.chan c).loom l
  let n := m.acts.length
  if !loomPair wf m.afmt || !p.facts.pairs.contains (wf, m.afmt) then s
  else
    let bytes := n * fmtBytes wf
    let got : Bytes × State := match src with
      | .larder off => ((s.chan c).larderRun c p off bytes, s.readLines c j (p.larderLines off bytes))
      | .cellar off => s.cellarFor c j off bytes
    match got with
    | (b, s) =>
      if !(s.chan c).stillRuns j then s
      else
        let ws := elems16 wf b
        let sums := match onto with
          | some k => m.sums.set k.val (loomColumn wf m.afmt sg (m.sums.getD k.val 0) ws m.acts)
          | none => if m.sums.length < 512 then m.sums ++ [loomColumn wf m.afmt sg 0 ws m.acts] else m.sums
        s.modChan c fun ch =>
          (ch.setLoom l { m with int := wf == .int8, sums := sums, macs := (m.macs + n) % 1024 }).pushCount
            (0x10 + l.val) 0x0481 s.now ((m.macs + n) / 1024)

/-! ## Stillrooms -/

/-- A constant as element i of a row meets it; `d` where the plan gives none (R118). -/
def Channel.constAt (ch : Channel) (c : Chan) (p : Plan) (room : Fin 2) (k : Const) (d : Num) (i : Nat) : Num :=
  match k with
  | .none => d
  | .scalar n => fp32 ((roomFile p.consts room).getD n 0)
  | .element off => fmtValue .bf16 (BitVec.ofNat 32 (leNat (ch.larderRun c p (off + 2 * i) 2)))

/-- The constants of element i. -/
def Channel.constsAt (ch : Channel) (c : Chan) (p : Plan) (u : RowUse) (i : Nat) : ElemConsts :=
  { scale := ch.constAt c p u.room u.inScale one i, gamma := ch.constAt c p u.room u.gamma one i
    beta := ch.constAt c p u.room u.beta (.val false 0) i, eps := ch.constAt c p u.room u.eps (.val false 0) i }

/-- Larder lines that the per-element constants of element i lie in. -/
def Plan.constLines (p : Plan) (u : RowUse) (i : Nat) : List Nat :=
  [u.inScale, u.gamma, u.beta].flatMap fun k =>
    match k with
    | .element off => p.larderLines (off + 2 * i) 2
    | .none | .scalar _ => []

/-- A Stillroom takes elements one after the other, row by row: its state after them, and each element's step with the index of
its row. -/
def Channel.rowRun (ch : Channel) (c : Chan) (p : Plan) (use : Nat) (r : Recipe) (u : RowUse) (st : Still) (vs : List (BitVec 32)) :
    Still × List (Nat × StillStep) :=
  match vs with
  | [] => (st, [])
  | v :: rest =>
    let st := if st.use = some use then st else st.start use r
    let row := (st.done.filter (· == use)).length
    let x := st.step use r u (ch.constsAt c p u st.taken) v
    let y := ch.rowRun c p use r u x.st rest
    (y.1, (row, x) :: y.2)

/-- What one element's step reports (R120, R123, R125, R143). -/
def State.stillNote (s : State) (c : Chan) (j : Job) (u : RowUse) (x : Nat × StillStep) : State :=
  let unit := 0x18 + u.room.val
  let now := ((s.chan c).jobNo j.num).getD j
  let bad := x.2.nan || x.2.inf
  let pay := payAt 8 u.code ||| payAt 9 (x.1 % 2 ^ 24) ||| payAt 12 j.desc.tag.toNat
  let tell := fun (s : State) (yes : Bool) (num : Nat) (pay : Word) =>
    if yes then s.event c { unit := unit, num := num, pay := pay, owner := some j.owner } else s
  let s := s.modChan c fun ch => (ch.stillReport u.room x.2.flags).modRunning fun j =>
    { j with clip := j.clip || x.2.clip, clipSent := j.clipSent || x.2.clip, nanSent := j.nanSent || bad }
  let s := tell s (x.2.clip && !now.clipSent) 0x0500 pay
  let s := tell s (bad && !now.nanSent) 0x0501 pay
  let s := tell s x.2.zeroVar 0x0503 pay
  tell s x.2.rowDone 0x0540 (payAt 8 u.code ||| payAt 12 j.desc.tag.toNat)

/-- Bytes that steps write. -/
def stillBytes (u : RowUse) (xs : List (Nat × StillStep)) : Bytes := rowBytes u.out (xs.filterMap (·.2.out))

/-- The elements have gone through the Stillroom: its state, its output into the Hatch, past the decant points, its reports. -/
def State.rowCommit (s : State) (c : Chan) (j : Job) (u : RowUse) (y : Still × List (Nat × StillStep)) : State :=
  let data := stillBytes u y.2
  let s := s.modChan c fun ch => (ch.setStill u.room y.1).putHatch u.dst data
  let s := if data.isEmpty then s else s.feedPoints c (((s.chan c).jobNo j.num).getD j) u.tensor data
  y.2.foldl (fun s x => s.stillNote c j u x) s

/-- Elements for a row use: another use's row in flight holds them, as does an output Hatch without room for what they give (R110,
R130); the constants are read, and their tags checked (R259). -/
def State.rowStep (s : State) (c : Chan) (j : Job) (use : Nat) (r : Recipe) (u : RowUse) (vs : List (BitVec 32)) (op : TileOp) :
    TileResult :=
  let p := (s.chan c).plan j.desc.plan
  let st := (s.chan c).still u.room
  if st.use.isSome && st.use != some use then (s, some op)
  else
    let y := (s.chan c).rowRun c p use r u st vs
    if (s.chan c).hatchRoom u.dst < (stillBytes u y.2).length then s.waitFull c u.dst op
    else
      let first := if st.use.isSome then st.taken else 0
      let lines := (List.range vs.length).flatMap fun i => p.constLines u ((first + i) % max 1 u.length)
      let s := if lines.isEmpty then s else s.readLines c j lines.eraseDups
      if !(s.chan c).stillRuns j then (s, none) else ((s.rowCommit c j u y).unhold c u.dst true, none)

/-- A row use that a room serves, its output Hatch assigned to that room. -/
def Plan.rowUse (p : Plan) (use : Nat) : Option (RowUse × Recipe) :=
  match p.facts.rows[use]? with
  | none => none
  | some u => if p.produces (.still u.room) u.dst then (recipeOf u.code u.act).map fun r => (u, r) else none

/-- The Loom's sums leave through its simple path, to a Hatch or to the Stillroom with its number (R10, R77, R110). -/
def State.simpleStep (s : State) (c : Chan) (j : Job) (l : Fin 2) (r : SimpleRow) (dst : SimpleDst) : TileResult :=
  let p := (s.chan c).plan j.desc.plan
  let m := (s.chan c).loom l
  let clear := fun (s : State) => s.modChan c fun ch => ch.setLoom l { ch.loom l with sums := [] }
  match dst with
  | .hatch h tensor =>
    let data := rowBytes r.out (simpleRow r m.int m.sums)
    if !p.produces (.loom l) h then (s, none)
    else if (s.chan c).hatchRoom h < data.length then s.waitFull c h (.simple l r dst)
    else
      let s := (clear s).modChan c (·.putHatch h data)
      ((s.feedPoints c j tensor data).unhold c h true, none)
  | .room use =>
    match p.rowUse use with
    | some (u, rec) =>
      if u.room = l ∧ u.src = none then
        let x := s.rowStep c j use rec u (simpleRow { r with out := u.fmt } m.int m.sums) (.simple l r dst)
        (if x.2.isNone then clear x.1 else x.1, x.2)
      else (s, none)
    | none => (s, none)

/-- A Stillroom takes its next n elements from its Hatch, as many as are there and its output has room for (R110, R130). -/
def State.stillStep (s : State) (c : Chan) (j : Job) (use n : Nat) : TileResult :=
  let p := (s.chan c).plan j.desc.plan
  match p.rowUse use with
  | none => (s, none)
  | some (u, r) =>
    match u.src with
    | none => (s, none)
    | some h =>
      if !p.consumes (.still u.room) h then (s, none)
      else
        let have_ := ((s.chan c).hatch h).length / fmtBytes u.fmt
        let room := (s.chan c).hatchRoom u.dst / fmtBytes u.out
        let k := min n (min have_ room)
        let wait := fun (s : State) =>
          if have_ ≤ room then s.waitEmpty c h (.still use (n - k)) else s.waitFull c u.dst (.still use (n - k))
        if k = 0 then (if n = 0 then (s, none) else wait s)
        else
          let x := s.rowStep c j use r u (elems32 u.fmt (((s.chan c).hatch h).take (k * fmtBytes u.fmt))) (.still use n)
          if x.2.isSome then x
          else
            let s := (x.1.modChan c (·.takeHatch h (k * fmtBytes u.fmt))).unhold c h false
            if n ≤ k then (s, none) else wait s

/-! ## Tensor frames and results -/

/-- Bytes of an element by its format code; none for a code that the frame's kind does not have (R87). -/
def elementBytes (kind fmt : Nat) : Option Nat :=
  match fmt with
  | 1 => some 1 | 2 => if kind = 1 then some 2 else none
  | 3 => some 1 | 4 => some 1 | 5 => some 2
  | _ => none

/-- The 32-byte header of a tensor frame (R87). -/
def tensorHeader (p : Plan) (j : Job) (fmt : Byte) (tensor : BitVec 16) (count : BitVec 32) (n : Nat) : Bytes :=
  [2, 1, fmt, 0] ++ leBytes 4 (32 + n) ++ leBytes 8 p.id.toNat ++ leBytes 4 j.desc.tag.toNat ++ leBytes 2 tensor.toNat ++
  zeros 2 ++ leBytes 4 count.toNat ++ zeros 4

/-- A tensor frame waits for an output port of the plan that is UP; its data leaves the Hatch as the port sends it (R80, R87). -/
def Channel.sendTensor (ch : Channel) (j : Job) (q : Port) (stream : Fin 16) (h : Fin 16) (fmt : Byte) (tensor : BitVec 16)
    (count : BitVec 32) : Channel :=
  let p := ch.plan j.desc.plan
  match elementBytes 2 fmt.toNat with
  | none => ch
  | some e =>
    if ch.portUp q && p.outPorts.getLsbD q.val && p.consumes (.port q) h then
      let n := count.toNat * e
      let f : TxData := {
        stream := stream, bytes := tensorHeader p j fmt tensor count n, hatch := some h, need := n, job := some j.num
        fresh := true, kind := 2, tag := j.desc.tag, owner := some j.owner, total := 32 + n }
      ch.modPort q fun r => { r with txq := r.txq ++ [f] }
    else ch

/-- Payload bytes go from a Hatch to the result writer, no more in all than the plan's output bytes (R90). -/
def State.resultStep (s : State) (c : Chan) (j : Job) (h : Fin 16) (n : Nat) : TileResult :=
  let p := (s.chan c).plan j.desc.plan
  if !p.consumes .result h then (s, none)
  else
    let b := ((s.chan c).hatch h).take n
    let s := s.modChan c fun ch =>
      (ch.takeHatch h n).modRunning fun j => { j with payload := (j.payload ++ b).take p.outBytes }
    if b.length < n then s.waitEmpty c h (.result h (n - b.length)) else (s.unhold c h false, none)

/-- One piece of a tile's work, for the job that runs.  A piece that names a Hatch the plan has not given its unit has no effect. -/
def State.tileStep (s : State) (c : Chan) (j : Job) (op : TileOp) : TileResult :=
  match op with
  | .vector l src f n => s.vectorStep c j l src f n
  | .mac l wf sg src onto => (s.macStep c j l wf sg src onto, none)
  | .simple l r dst => s.simpleStep c j l r dst
  | .still use n => s.stillStep c j use n
  | .larder line => (s.readLines c j [line], none)
  | .send q st h fmt tn n => (s.modChan c (·.sendTensor j q st h fmt tn n), none)
  | .result h n => s.resultStep c j h n

/-- A tile's work in order, up to the piece that a Hatch holds; what is left of it (R80). -/
def State.flow (s : State) (c : Chan) (work : List TileOp) : State × List TileOp :=
  match work with
  | [] => (s, [])
  | op :: rest =>
    let s := s.drainRx c
    match (s.chan c).runningJob with
    | none => (s, [])
    | some j =>
      match s.tileStep c j op with
      | (s, none) => s.flow c rest
      | (s, some op) => (s, op :: rest)

/-! ## Breaches (R98) -/

/-- An output port of the job is held: it has data to send and no credit, or a full replay buffer. -/
def Channel.linkHold (ch : Channel) (j : Job) : Bool :=
  allPorts.any fun q =>
    let r := ch.port q
    (ch.plan j.desc.plan).outPorts.getLsbD q.val && r.txq.any (fun d => d.job == some j.num) &&
    (r.credits == 0 || decide (128 ≤ r.replay.length))

/-- The job's input has not arrived: a Hatch holds its consumer, or the input Hatch is empty with elements still to come. -/
def Channel.inputLate (ch : Channel) (j : Job) : Bool :=
  let p := ch.plan j.desc.plan
  ch.holds.any (fun x => !x.full) ||
  (p.source != 0 && decide (j.inTaken < p.count) && j.pad == 0 &&
    (match p.inputHatch j.desc.port with | some h => (ch.hatch h).isEmpty | none => true))

/-- The highest-ranked cause in force; where none of the conditions holds, any value (log entry 10).  `cellar`: a spilled-weight
fetch on the path is outstanding. -/
def State.breachCause (s : State) (c : Chan) (j : Job) (cellar : Bool) : Nat :=
  let ch := s.chan c
  if ch.onSafeClock then 0x04
  else if decide (ch.liveFreq s.tclk < (ch.plan j.desc.plan).floor) || ch.gov.duty != 0 then 0x03
  else if ch.traceMode == 2 && ch.stageHeld then 0x06
  else if cellar then 0x05
  else if ch.linkHold j then 0x07
  else if ch.inputLate j then 0x02
  else if ch.holds.any (·.full) || ch.hatches.any fun h => decide (hatchSize ≤ h.length) then 0x01
  else s.freeIn 0 255

/-- The first miss of a job: BREACH, the counts and the breach record (R98, R142). -/
def State.breachJob (s : State) (c : Chan) (j : Job) (t : Tile) (cause : Nat) : State :=
  let s := s.modChan c fun ch =>
    ((ch.modRunning fun j => { j with breach := some (BitVec.ofNat 8 cause) }).count 0x501 3 1).put 0x501 5 (w cause)
  s.event c {
    unit := 0x02, num := 0x0300, pay := payAt 8 j.desc.tag.toNat ||| payAt 12 t.k, type := 7
    code := some (BitVec.ofNat 16 (cause + 256 * j.desc.plan.val)), owner := some j.owner, at_ := some t.deadline }

/-- A tile misses its deadline; a first miss may stop the channel (R98, R208). -/
def State.missTile (s : State) (c : Chan) (j : Job) (t : Tile) (cause : Nat) : State :=
  let s := s.modChan c fun ch =>
    { ch with slate := ch.slate.map fun (x : Tile) => if x.k = t.k then { x with missed := true } else x }
  let first := j.breach.isNone
  let s := if first then s.breachJob c j t cause else s
  let s := s.event c {
    unit := 0x02, num := 0x0340, pay := payAt 8 cause ||| payAt 12 t.k, owner := some j.owner }
  if first && bitOf (s.cget c 0x400 7) 0 then s.requestStop c 6 else s

/-- The tile misses where T64 has passed its deadline (R97). -/
def State.judgeTile (s : State) (c : Chan) (j : Job) (t : Tile) (cellar : Bool) : State :=
  if !t.missed && decide (t.deadline.toNat < s.now.toNat) then (s.missTile c j t (s.breachCause c j cellar)).drawn else s

/-- TILE_DEADLINE_MISS (R97, R98). -/
def execTileDeadlineMiss (c : Chan) (k : Nat) (cellarFetch : Bool) (s : State) : Host.Outcome State Fault Refusal :=
  s.whenChan c fun s =>
    let ch := s.chan c
    match ch.runningJob, ch.slate.find? (·.k == k) with
    | some j, some t => if ch.stopped then .next s else .next (s.judgeTile c j t cellarFetch)
    | _, _ => .next s

/-! ## Retirement (R97) -/

/-- The running job has begun its Loom cycles, and CORE computes: no stop, no safe clock, no stage held (R97, R158, R208, R412). -/
def Channel.computes (ch : Channel) (j : Job) : Bool := j.begun && !ch.stopped && !ch.onSafeClock && !ch.stageHeld

/-- The tile leaves the Slate, and waiting tiles enter (R97). -/
def State.retire (s : State) (c : Chan) (k : Nat) : State :=
  let s := s.modChan c fun ch =>
    ({ ch with slate := ch.slate.filter (·.k != k) }).modRunning fun j => { j with progress := s.tclk }
  s.fillSlate c

/-- The tile keeps what is left of its work. -/
def Channel.keepWork (ch : Channel) (k : Nat) (left : List TileOp) : Channel :=
  { ch with slate := ch.slate.map fun (x : Tile) => if x.k = k then { x with left := some left } else x }

/-- Tile k of job j does what it can of its work, and retires once nothing of it is left (R80, R97). -/
def State.runTile (s : State) (c : Chan) (j : Job) (k : Nat) (work : List TileOp) : State :=
  let x := s.flow c work
  if !(x.1.chan c).stillRuns j then x.1
  else if x.2.isEmpty then x.1.retire c k
  else x.1.modChan c (·.keepWork k x.2)

/-- TILE_RETIRE (R80, R97): tile k of the running job does its work, or what a Hatch has left of it; a tile whose deadline has
passed has missed first, whether or not a fetch of spilled weights is outstanding being open. -/
def execTileRetire (c : Chan) (k : Nat) (work : List TileOp) (s : State) : Host.Outcome State Fault Refusal :=
  s.whenChan c fun s =>
    let ch := s.chan c
    match ch.runningJob, ch.slate.find? (·.k == k) with
    | some j, some t =>
      if ch.computes j then
        let s := s.drawn.judgeTile c j t (s.freeIn 0 1 == 1)
        .next (if (s.chan c).stopped then s else s.runTile c j k (t.left.getD work))
      else .next s
    | _, _ => .next s

/-- JOB_DONE (R96): every tile has retired, every frame has left, and the last result byte enters the endpoint queue. -/
def execJobDone (c : Chan) (s : State) : Host.Outcome State Fault Refusal :=
  s.whenChan c fun s =>
    let ch := s.chan c
    match ch.runningJob with
    | some j =>
      let sending := ch.ports.any fun r => r.txq.any fun d => d.job == some j.num
      if ch.computes j && ch.slate.isEmpty && decide ((ch.plan j.desc.plan).facts.tiles.length ≤ j.issued) && !sending then
        .next (s.endJob c j statusDone)
      else .next s
    | none => .next s

/-! ## Failures (R109, R136) -/

/-- A page holds data of the job: it lies in its plan's image, or, where the plan uses the Cellar beyond its image, it is a page of
the owner outside every image. -/
def Channel.jobPage (ch : Channel) (j : Job) (page : Nat) : Bool :=
  let p := ch.plan j.desc.plan
  let inside := fun (q : Plan) => q.st != 0 && decide (q.page ≤ page) && decide (page < q.page + q.pages)
  ch.tagOf page == j.owner.val && (inside p || (p.cellar != 0 && !ch.plans.any inside))

/-- CELLAR_UNCORRECTABLE (R109): the event, and MEMORY_FAIL for the running job whose data lies there. -/
def execCellarUncorrectable (c : Chan) (addr : Word) (s : State) : Host.Outcome State Fault Refusal :=
  s.whenChan c fun s =>
    let page := addr.toNat / pageSize
    let mine := (s.chan c).jobPage
    .next ((s.event c { unit := 0x21, num := 0x0701, pay := addr }).failRunning c statusMemoryFail fun j => mine j page)

/-- STILLROOM_TABLE_FAULT (R136): TABLE_FAULT, the event, which belongs to the job that the room serves (R147), that job's end,
and compute disabled. -/
def execStillroomTableFault (c : Chan) (n : Fin 2) (s : State) : Host.Outcome State Fault Refusal :=
  s.whenChan c fun s =>
    let owner := (s.chan c).runningJob.map (·.owner)
    let s := s.corBits c (0x550 + n.val) 3 stillTableFault
    let s := s.event c { unit := 0x18 + n.val, num := 0x0502, pay := payAt 8 n.val, owner := owner }
    .next ((s.failRunning c statusMemoryFail fun _ => true).disableCompute c reasonStillroom)

end Sys2Proof.Machine
end

