-- ==== Sys2Proof/Machine/Align.lean ====
section
/-! DEFINITION. Offset measurement by link round trip over channel 0 port 2 (R465, R470, R471, R478). -/

namespace Sys2Proof.Machine

open Sys2Proof

/-- The upstream port of the alignment chain (R469). -/
def alignChan : Chan := 0
def alignPort : Port := 2

/-- Measurement statuses of 0x4030:03. -/
def alignRunning : Nat := 1
def alignDone : Nat := 2
def alignNoLink : Nat := 3
def alignNotModule : Nat := 4
def alignNoEcho : Nat := 5
def alignOutOfRange : Nat := 6

/-- Low 32 bits of the step count 0x3000:05. -/
def State.stepCount (s : State) : BitVec 32 := (s.mget 0x3000 5).setWidth 32

/-- A measurement starts, or ends at once with NO_LINK or NOT_MODULE (R471). -/
def State.startMeasure (s : State) : State :=
  let ch := s.chan alignChan
  let off := portOff alignPort
  if !ch.portUp alignPort || ch.nat off 1 != 1 then s.mput 0x4030 3 (w alignNoLink)
  else if ch.nat off 8 / 65536 ≠ 0x5246 then s.mput 0x4030 3 (w alignNotModule)
  else
    { s.mput 0x4030 3 (w alignRunning) with
      align := { s.align with running := true, x := 0, probe := none, nextProbe := s.tclk, offs := [], rts := [] } }

/-- The measurement ends once its 16 exchanges are over (R471). -/
def State.concludeMeasure (s : State) : State :=
  let a := s.align
  let s := { s with align := { a with running := false, probe := none } }
  let rt := median a.rts
  if a.offs.length < 8 then s.mput 0x4030 3 (w alignNoEcho)
  else if rt < 60 ∨ 200 < rt then s.mput 0x4030 3 (w alignOutOfRange)
  else ((s.mput 0x4030 4 (wInt rt)).mput 0x4030 5 (wInt (median a.offs))).mput 0x4030 3 (w alignDone)

/-- The exchange in progress is over; after the last the measurement ends. -/
def State.exchangeOver (s : State) : State :=
  let s := { s with align := { s.align with probe := none } }
  if 16 ≤ s.align.x then s.concludeMeasure else s

/-- Commit of 0x4030:02 (R471). -/
def measureCommit : Commit := fun s =>
  if s.align.running then (abortConflict, s) else (0, s.startMeasure)

/-- OFFSET_MEASURE_COMMAND. -/
def execOffsetMeasureCommand (p : Path) (s : State) : Host.Outcome State Fault Refusal :=
  s.writeRow p 0x4030 2 [1] measureCommit

/-! ## Probe frames (R470) -/

/-- A probe: type 0; t1 is inserted as its flit is formed. -/
def probeBytes (x : Nat) : Bytes := [3, 1, 0, BitVec.ofNat 8 x] ++ leBytes 4 48 ++ zeros 40

/-- The echo of a probe, with t2 and the steps at t2; t3 and the steps at t3 follow as its flit is formed. -/
def echoBytes (probe : Bytes) (t2 : T64) (steps : BitVec 32) : Bytes :=
  [3, 1, 1] ++ slice probe 3 1 ++ leBytes 4 48 ++ slice probe 8 8 ++ leBytes 8 t2.toNat ++ leBytes 4 steps.toNat ++
  zeros 20

/-- A 48-byte probe frame of the type given: 0 a probe, 1 an echo. -/
def isProbe (b : Bytes) (type : Nat) : Bool :=
  b.length == 48 && leField b 0 1 == 3 && leField b 1 1 == 1 && leField b 2 1 == type

/-- Bytes replaced in place. -/
def patch (b : Bytes) (off : Nat) (v : Bytes) : Bytes := b.take off ++ v ++ b.drop (off + v.length)

/-- A probe frame as its flit is formed: t1, or t3 with the steps at t3, inserted (R470). -/
def stampProbe (b : Bytes) (t : T64) (steps : BitVec 32) : Bytes :=
  if leField b 2 1 = 0 then patch b 8 (leBytes 8 t.toNat)
  else patch (patch b 32 (leBytes 8 t.toNat)) 28 (leBytes 4 steps.toNat)

/-- A probe frame joins a port's frames on stream 0. -/
def Channel.sendProbe (ch : Channel) (p : Port) (b : Bytes) : Channel :=
  ch.modPort p fun r =>
    { r with txq := r.txq ++ [{ stream := 0, bytes := b, hatch := none, need := 0, job := none, fresh := true, kind := 3
                                tag := 0, owner := none, total := 48 }] }

/-- PROBE_SEND (R471): every 100 µs of a running measurement; t1 is taken again as the flit is formed. -/
def execProbeSend (s : State) : Host.Outcome State Fault Refusal :=
  s.whenReeve fun s =>
    let a := s.align
    if a.running && decide (a.x < 16) && a.probe.isNone && decide (a.nextProbe ≤ s.tclk) then
      let s := { s with align := { a with
          x := a.x + 1, nextProbe := s.tclk + tclkOfUs 100
          probe := some (s.now, s.mget 0x3000 5, s.tclk + tclkOfUs 10) } }
      .next (if (s.chan alignChan).portUp alignPort then
          s.modChan alignChan (·.sendProbe alignPort (probeBytes a.x)) else s)
    else .next s

/-- A probe has reached a port in mode 1: its echo is queued (R470, R471). -/
def State.answerProbe (s : State) (c : Chan) (p : Port) (b : Bytes) : State :=
  if (s.chan c).portUp p && (s.chan c).nat (portOff p) 1 == 1 && isProbe b 0 then
    match s.stamp c (0x38 + p.val) with
    | (t2, s) => s.modChan c (·.sendProbe p (echoBytes b t2 s.stepCount))
  else s

/-- PROBE_RECEIVED (R470). -/
def execProbeReceived (c : Chan) (p : Port) (b : Bytes) (s : State) : Host.Outcome State Fault Refusal :=
  s.whenChan c fun s => .next (s.answerProbe c p b)

/-- Offset and round trip of an exchange (R471). -/
def exchangeOf (t1 t2 t3 t4 : T64) : Int × Int := ((tDiff t4 t3 - tDiff t2 t1).tdiv 2, tDiff t4 t1 - tDiff t3 t2)

/-- An echo has reached channel 0 port 2: a measurement, unless a step fell at either end (R471, R477). -/
def State.takeEcho (s : State) (b : Bytes) : State :=
  match s.align.probe with
  | none => s
  | some (t1, steps, deadline) =>
    if isProbe b 1 && leField b 3 1 + 1 == s.align.x && decide (s.tclk ≤ deadline) then
      match s.stamp alignChan (0x38 + alignPort.val) with
      | (t4, s) =>
        let t2 := BitVec.ofNat 64 (leField b 16 8)
        let t3 := BitVec.ofNat 64 (leField b 32 8)
        let r := exchangeOf t1 t2 t3 t4
        let good := leField b 24 4 == leField b 28 4 && s.mget 0x3000 5 == steps
        let s := if good then
            { s with align := { s.align with offs := s.align.offs ++ [r.1], rts := s.align.rts ++ [r.2] } } else s
        s.exchangeOver
    else s

/-- ECHO_RECEIVED (R471). -/
def execEchoReceived (b : Bytes) (s : State) : Host.Outcome State Fault Refusal :=
  s.whenReeve fun s => .next (if (s.chan alignChan).portUp alignPort then s.takeEcho b else s)

/-- ECHO_TIMEOUT (R471): 10 µs without the echo. -/
def execEchoTimeout (s : State) : Host.Outcome State Fault Refusal :=
  s.whenReeve fun s =>
    match s.align.probe with
    | some (_, _, deadline) => if deadline ≤ s.tclk then .next s.exchangeOver else .next s
    | none => .next s

end Sys2Proof.Machine
end

