-- ==== Sys2Proof/Machine/Cellar.lean ====
section
/-! DEFINITION. Page tagging and the BAR4 aperture (R254 to R259, R281, R297, R298). -/

namespace Sys2Proof.Machine

open Sys2Proof

/-! ## Tagging (R257) -/

/-- The run [first, first + count) meets pages [a, b). -/
def meets (first count a b : Nat) : Bool := decide (first < b ∧ a < first + count)

/-- Pages of a plan: its image, and the working area that follows it (log entry 63). -/
def Plan.span (p : Plan) : Nat × Nat := (p.page, p.page + p.pages + (p.cellar + pageSize - 1) / pageSize)

/-- A page of the run belongs to a READY plan, or to the image being loaded, of a slot other than the tag. -/
def Channel.planBars (ch : Channel) (first count tag : Nat) : Bool :=
  (ch.plans.toList.any fun p => p.st == 2 && p.owner.val != tag && meets first count p.span.1 p.span.2) ||
  (match ch.loading with
   | some r => r.owner.val != tag && meets first count (r.off / pageSize) ((r.off + r.len + pageSize - 1) / pageSize)
   | none => false)

/-- R257: the command is refused. -/
def Channel.tagRefused (ch : Channel) (first count tag : Nat) : Bool :=
  (decide (0x10 ≤ tag) && tag != 0x1F) || count == 0 || decide (pageCount < first + count) ||
  (ch.tags.any fun x => x.2 == 0x1E && decide (first ≤ x.1 ∧ x.1 < first + count)) || ch.planBars first count tag

/-- A write of CELLAR_TAG_CMD: TAG is stored, ERR cleared by 1, and GO starts the run or sets ERR; ignored while BUSY. -/
def Channel.writeTagCmd (ch : Channel) (v : Nat) : Channel :=
  if ch.tagging.isSome then ch
  else
    let tag := v % 32
    let h := { ch.host with tagTag := BitVec.ofNat 5 tag, tagErr := ch.host.tagErr && !v.testBit 10 }
    let first := h.tagFirst.toNat
    let count := h.tagCount.toNat
    if v.testBit 8 then
      if ch.tagRefused first count tag then { ch with host := { h with tagErr := true } }
      else { ch with host := h, tagging := some (first, count, tag) }
    else { ch with host := h }

/-- CELLAR_TAG_GO. -/
def execCellarTagGo (c : Chan) (v : BitVec 32) (s : State) : Host.Outcome State Fault Refusal :=
  s.whenHost c fun s => .next ((s.access .bar0 c 0x58).modChan c (·.writeTagCmd v.toNat))

/-- The pages of a run take their tag. -/
def Channel.tagRun (ch : Channel) (first count tag : Nat) : Channel :=
  (List.range count).foldl (fun ch i => ch.setTag (first + i) tag) ch

/-- CELLAR_TAG_DONE: data stays as it is. -/
def execCellarTagDone (c : Chan) (s : State) : Host.Outcome State Fault Refusal :=
  s.whenChan c fun s =>
    match (s.chan c).tagging with
    | some (first, count, tag) => .next (s.setChan c ({ (s.chan c).tagRun first count tag with tagging := none }))
    | none => .next s

/-! ## BAR4 (R256, R259, R297, R298) -/

/-- The aperture's regions. -/
inductive Aperture where
  | cellar (addr : Nat)
  | larder (addr : Nat)
  | reserved
deriving DecidableEq, Repr

/-- An aligned access of 4 bytes to 4 KiB that the aperture serves (R297). -/
def served (addr n : Nat) : Bool := [4, 8, 16, 32, 64, 128, 256, 512, 1024, 2048, 4096].contains n && addr % n == 0

/-- Where an aperture offset leads. -/
def apertureOf (addr n : Nat) : Aperture :=
  if !served addr n then .reserved
  else if addr < 0x600000000 then .cellar addr
  else if 0x800000000 ≤ addr ∧ addr < 0x80C000000 then .larder (addr - 0x800000000)
  else .reserved

/-- A BAR4 access is an event of the endpoint (R148, R180). -/
def State.bar4Access (s : State) (c : Chan) (addr : Nat) (write : Bool) : State :=
  s.event c { unit := 0x3C, num := 0x0A02, pay := payAt 8 write.toNat ||| payAt 9 (addr / 64) }

/-- In a stop the BAR4 mover goes on to its 4 KiB boundary, and takes no write from there on (R215, R298). -/
def Channel.moverHalted (ch : Channel) : Bool := ch.stopped && (ch.stop.drained || ch.stop.mover % 4096 == 0)

/-- The keys under which a BAR4 write to a Cellar address is taken; none where it is discarded (R256, R272, R298, R444). -/
def Channel.writeKeys (ch : Channel) (c : Chan) (addr : Nat) : Option (BitVec 256 × BitVec 256) :=
  if ch.st = .quarantine ∨ ch.moverHalted = true ∨ ch.xtsFault = true then none
  else
    match tagSlot (ch.tagOf (addr / pageSize)) with
    | some i => if (ch.owner i).st = SlotSt.keyed then ch.xtsKeys c i else none
    | none => none

/-- A BAR4 write on the channel: taken under the page's keys, or discarded and counted in 0x8600:05. -/
def Channel.bar4Write (ch : Channel) (c : Chan) (addr : Nat) (b : Bytes) : Channel :=
  match apertureOf addr b.length with
  | .cellar a =>
    match ch.writeKeys c a with
    | some k =>
      let ch := ch.writeCellar k a b
      { ch with stop := { ch.stop with mover := a + b.length } }
    | none => ch.count 0x600 5 1
  | _ => ch.count 0x600 5 1

/-- BAR4_WRITE. -/
def execBar4Write (c : Chan) (addr : Nat) (data : Bytes) (s : State) : Host.Outcome State Fault Refusal :=
  s.whenHost c fun s => .next ((s.bar4Access c addr true).modChan c fun ch =>
    let ch := match apertureOf addr data.length with
      | .cellar a => if (ch.writeKeys c a).isSome then ch.pushCount 0x21 0x0781 s.now ((data.length + 63) / 64) else ch
      | _ => ch
    ch.bar4Write c addr data)

/-- n bytes that the manual does not state. -/
def freeBytes (draw n : Nat) : Bytes := (List.range n).map fun i => BitVec.ofNat 8 (Config.freeNat (draw + i))

/-- All ones. -/
def ones (n : Nat) : Bytes := List.replicate n 0xFF

/-- The privileged read permission of slot s, with a key in place (R256, R259). -/
def Channel.mayReadClear (ch : Channel) (i : Slot) : Bool := (ch.owner i).st == .keyed && bitOf (ch.get 0x601 0) i.val

/-- A BAR4 read of the Cellar (R256). -/
def Channel.readCellar (ch : Channel) (c : Chan) (a n : Nat) : Bytes :=
  match tagSlot (ch.tagOf (a / pageSize)) with
  | some i => if ch.mayReadClear i then ch.cellarRead c i a n else memRead ch.cellar a n
  | none => if ch.tagOf (a / pageSize) = 0x1E then (List.range n).map fun i => ch.dumpByte c (a + i) else ones n

/-- A byte of the Larder as BAR4 reads it (R259): the whitening removed is that of the key that the slot holds now (R262). -/
def Channel.larderByte (ch : Channel) (c : Chan) (a : Nat) : Byte :=
  match ch.lineTag (a / 64) with
  | some i =>
    match ch.whtKey c i with
    | some k => if ch.mayReadClear i then ch.larderClear k a else memGet ch.larder a
    | none => memGet ch.larder a
  | none => memGet ch.larder a

/-- The bytes that a BAR4 read returns; where a failed cipher engine has stopped the store, the manual states none (R272). -/
def Channel.bar4Read (ch : Channel) (c : Chan) (addr n draw : Nat) : Bytes :=
  match apertureOf addr n with
  | .cellar a => if ch.xtsFault then freeBytes draw n else ch.readCellar c a n
  | .larder a => if ch.whtFault then freeBytes draw n else (List.range n).map fun i => ch.larderByte c (a + i)
  | .reserved => ones n

/-- The endpoint answers even while its channel has no power (R281, R449). -/
def State.endpointUp (s : State) (c : Chan) : Bool :=
  s.live && !s.perst && s.upLink && (s.chan c).host.ready && !(s.chan c).host.linkDown

/-- BAR4_READ. -/
def execBar4Read (c : Chan) (addr n : Nat) (s : State) : Host.Outcome State Fault Refusal :=
  if s.hostUp c then
    let s := s.bar4Access c addr false
    let s := match apertureOf addr n with
      | .cellar _ => s.modChan c (·.pushCount 0x21 0x0780 s.now ((n + 63) / 64))
      | _ => s
    .next ({ s with free := s.free + n }.emit (.bar4 c ((s.chan c).bar4Read c addr n s.free)))
  else if s.endpointUp c then .next (s.emit (.bar4 c (ones n)))
  else .next s

end Sys2Proof.Machine
end

