-- ==== Sys2Proof/Machine/Field.lean ====
section
/-! DEFINITION. The field network below TLX: transmit queue, time-launched frames and PLCA (R309 to R323, R340, R341,
R348). -/

namespace Sys2Proof.Machine

open Sys2Proof

/-! ## States and sticky bits of 0x1101 -/

abbrev plcaUnassigned : Nat := 0
abbrev plcaWaiting : Nat := 1
abbrev plcaActive : Nat := 2
abbrev plcaWarning : Nat := 3
abbrev plcaListen : Nat := 4
abbrev plcaStart : Nat := 5
abbrev plcaCoordinator : Nat := 6

def edgeYieldBit : Word := 1
def driftWarnBit : Word := 2
def listenSeenBit : Word := 4
def duplicateBit : Word := 8
def noBeaconBit : Word := 16
def txLateBit : Word := 32
def txDiscardedBit : Word := 64

def State.plcaState (s : State) : Nat := s.mnat 0x1101 1

def State.setPlca (s : State) (n : Nat) : State := s.mput 0x1101 1 (w n)

def State.plcaFlag (s : State) (b : Word) : State := s.morBits 0x1101 8 b

/-- The module may send in its own opportunities (R311, R313, R318 to R320). -/
def State.mayTransmit (s : State) : Bool :=
  s.plcaState == plcaActive || s.plcaState == plcaWarning || s.plcaState == plcaCoordinator

/-- LISTEN_ONLY is entered for a cause (R312, R318). -/
def State.enterListenOnly (s : State) (cause : Nat) : State :=
  let s := (((s.mcount 0x1101 5 1).plcaFlag listenSeenBit).mput 0x1101 9 (w cause)).mput 0x1101 6 0
  let s := if cause = 3 then s.plcaFlag duplicateBit else s
  s.setPlca plcaListen

/-! ## Frames on the wire -/

/-- The module's MAC address, most significant byte first. -/
def State.macBytes (s : State) : Bytes := beBytes 6 s.reeve.factory.mac.toNat

/-- The MAC adds the source address, the padding to 64 bytes and the FCS (R323). -/
def State.wire (s : State) (b : Bytes) : Bytes :=
  let body := padTo (b.take 6 ++ s.macBytes ++ b.drop 6) 60
  body ++ leBytes 4 (crc32 body).toNat

/-- A transmit timestamp enters its queue of 16 (R60, R61). -/
def State.pushTsq (s : State) (e : TsqEntry) : State :=
  if 16 ≤ s.ptp.tsq.length then (s.mcount 0x3020 3 1).timeFlag tsqOverflowBit
  else
    let q := s.ptp.tsq ++ [e]
    let s := { s with ptp := { s.ptp with tsq := q } }
    let s := s.mput 0x3020 1 (w q.length)
    if s.mnat 0x3020 2 < q.length then s.mput 0x3020 2 (w q.length) else s

/-- The T64 at the start frame delimiter of a frame under way (R58): after the opportunity's start by a time that the
manual leaves open. -/
def State.sfdStamp (s : State) : T64 × State :=
  (s.now + BitVec.ofNat 64 (Config.freeNat s.free % 2 ^ 24), s.drawn)

/-- A frame goes out: the count of frames sent, and for Sync and Delay_Req a transmit timestamp (R60). -/
def State.putFrame (s : State) (b : Bytes) (event : Option (Byte × BitVec 16)) : State :=
  let s := (s.mcount 0x1010 4 1).emit (.frame (s.wire b))
  match event with
  | some (ty, seq) =>
    match s.sfdStamp with
    | (t, s) => s.pushTsq { stamp := t, messageType := ty, seqId := seq }
  | none => s

/-- Bit times of a frame: 8 bytes of preamble, at least 64 bytes of frame. -/
def frameBits (b : Bytes) : Nat := 8 * (8 + max 64 (b.length + 10))

/-- The transmit timestamp type of a Sync. -/
def syncType : Byte := 0

/-! ## The transmit order (R321) -/

/-- Released time-launched frames, Syncs where `sync`. -/
def State.released (s : State) (sync : Bool) : List TlFrame :=
  s.tlq.filter fun f => f.released.isSome && f.sync.isSome == sync

/-- The released frame with the earliest launch time. -/
def earliest (l : List TlFrame) : Option TlFrame :=
  l.foldl (fun best f => match best with
    | none => some f
    | some b => if f.launch.toNat < b.launch.toNat then some f else best) none

/-- The first waiting frame of a class. -/
def State.waitingFrame (s : State) (c : TxClass) : Option TxFrame := s.txq.find? (·.cls == c)

/-- What is sent next: a time-launched frame, or a frame of the queue. -/
def State.nextFrame (s : State) : Option (TlFrame ⊕ TxFrame) :=
  match earliest (s.released true), s.waitingFrame .ptpEvent, s.waitingFrame .ptpGeneral,
      earliest (s.released false) with
  | some f, _, _, _ => some (.inl f)
  | none, some f, _, _ => some (.inr f)
  | none, none, some f, _ => some (.inr f)
  | none, none, none, some f => some (.inl f)
  | none, none, none, none =>
    match s.waitingFrame .tlxResponse, s.waitingFrame .tlxEvent, s.waitingFrame .identify with
    | some f, _, _ => some (.inr f)
    | none, some f, _ => some (.inr f)
    | none, none, some f => some (.inr f)
    | none, none, none => none

/-- One frame is sent: the state after it, and its bit times. -/
def State.sendNext (s : State) : Option (State × Nat) :=
  match s.nextFrame with
  | none => none
  | some (.inl f) =>
    let s := { s with tlq := s.tlq.erase f }
    let s := if f.sync.isNone then s.mcount 0x1040 5 1 else s
    some (s.putFrame f.bytes (f.sync.map fun q => (syncType, q)), frameBits f.bytes)
  | some (.inr f) => some ({ s with txq := s.txq.erase f }.putFrame f.bytes f.event, frameBits f.bytes)

/-- Bit times between two frames of one opportunity (IEEE 802.3). -/
def frameGap : Nat := 96

/-- Frames that one opportunity takes: one, and up to the max burst more while each begins within the burst timer of the
end of the one before it (R321). -/
def Plca.framesMax (p : Plca) : Nat := 1 + (if frameGap ≤ p.burstBits then p.burst else 0)

/-- Up to n frames in one opportunity, a gap between them: the state, and the bit times used. -/
def State.sendFrames (s : State) (n : Nat) : State × Nat :=
  match n with
  | 0 => (s, 0)
  | k + 1 =>
    match s.sendNext with
    | none => (s, 0)
    | some (s, b) =>
      match s.sendFrames k with
      | (s, 0) => (s, b)
      | (s, r) => (s, b + frameGap + r)

/-- Every released frame not sent in the opportunity it targeted has missed; it is reported once (R322, R340). -/
def State.missReleased (s : State) : State :=
  let n := (s.tlq.filter fun f => f.released.isSome && !f.late).length
  if n = 0 then s
  else
    let s := { s with tlq := s.tlq.map fun (f : TlFrame) => if f.released.isSome then { f with late := true } else f }
    (s.mcount 0x1101 7 n).plcaFlag txLateBit

/-! ## Queueing (R321) -/

/-- 100 ns in TCLK edges. -/
abbrev bitTime : Nat := 50

/-- A frame that becomes ready within TO − 2 bit times of the start of the silent own opportunity is sent in it (R314);
released frames that it leaves no room for have missed it (R322, R340). -/
def State.sendLate (s : State) : State :=
  match s.plca.ownOpen with
  | some t =>
    if s.mayTransmit && decide (s.tclk ≤ t + (s.plca.toBits - 2) * bitTime) then
      match s.sendFrames s.plca.framesMax with
      | (s, 0) => s
      | (s, b) =>
        let s := s.missReleased
        { s with plca := { s.plca with
          ownOpen := none, silent := s.plca.silent - 1, prevEnd := s.tclk + b * bitTime } }
    else s
  | none => s

/-- A frame is queued for the segment: an unassigned node discards it (R311, R346), LISTEN_ONLY keeps no answer and no
PTP message (R319, R342, R347), a full queue discards it and sets TX_DISCARDED. -/
def State.enqueueTx (s : State) (f : TxFrame) : State :=
  if s.plcaState = plcaUnassigned then s
  else if s.plcaState = plcaListen ∧ f.cls ≠ .tlxEvent then s
  else if 32 ≤ s.txq.length then s.plcaFlag txDiscardedBit
  else ({ s with txq := s.txq ++ [f] }).sendLate

/-! ## Node ID (R311, R312) -/

/-- PLCA starts with the node ID in force: unassigned, listening before beaconing, or waiting for a beacon. -/
def State.startPlca (s : State) : State :=
  let id := s.mnat 0x1100 1
  let s := { s with
    txq := []
    plca := { s.plca with
      listenEnd := if id = 0 then some (s.tclk + tclkOfMs 10) else none
      heard := false, lastBeacon := s.tclk, k := 0, seen := 0, silent := 0, rxError := false, ownClean := false
      outside := false, samples := [], prevEnd := s.tclk, yielded := false, ownOpen := none } }
  (s.mput 0x1101 9 0).setPlca (if id = 255 then plcaUnassigned else if id = 0 then plcaStart else plcaWaiting)

/-- Commit of 0x1100:01. -/
def nodeIdCommit (v : Nat) : Commit := commitOk fun s => (s.mput 0x1100 1 (w v)).startPlca

/-- NODE_ID_WRITE (R311): at the commit the transmit state is dropped and PLCA starts again. -/
def execNodeIdWrite (p : Path) (v : Byte) (s : State) : Host.Outcome State Fault Refusal :=
  s.writeRow p 0x1100 1 [v] (nodeIdCommit v.toNat)

/-- COORDINATOR_LISTEN_END (R312). -/
def execCoordinatorListenEnd (s : State) : Host.Outcome State Fault Refusal :=
  s.whenReeve fun s =>
    match s.plca.listenEnd with
    | some t =>
      if s.plcaState = plcaStart ∧ t ≤ s.tclk then
        let s := { s with plca := { s.plca with listenEnd := none } }
        if s.plca.heard then .next (s.enterListenOnly 3)
        else
          let n := s.mnat 0x1100 2
          .next (({ s with plca := { s.plca with nodeCount := n, seen := n, k := n, prevEnd := s.tclk } }).setPlca
            plcaCoordinator)
      else .next s
    | none => .next s

/-! ## Cycles (R312 to R318) -/

/-- A beacon ends: the opportunity count starts afresh, and the written parameters take effect (R311, R314). -/
def State.newCycle (s : State) (seen end_ : Nat) : State :=
  { s with plca := { s.plca with
      k := 0, seen := seen, silent := 0, rxError := false, ownClean := false, outside := false
      lastBeacon := s.tclk, prevEnd := end_, yielded := false, ownOpen := none
      nodeCount := s.mnat 0x1100 2, toBits := s.mnat 0x1100 3, burst := s.mnat 0x1100 4
      burstBits := s.mnat 0x1100 5 } }

/-- BEACON_SEND (R312): the coordinator's beacon of 20 bit times, after each cycle of node-count opportunities; its
published deviation is 0. -/
def execBeaconSend (s : State) : Host.Outcome State Fault Refusal :=
  s.whenReeve fun s =>
    if s.plcaState = plcaCoordinator ∧ s.plca.nodeCount ≤ s.plca.k ∧ s.plca.prevEnd ≤ s.tclk then
      let s := (((s.emit .beacon).mcount 0x1101 0x0A 1).mput 0x1101 2 0)
      .next (s.newCycle (s.mnat 0x1100 2) (s.tclk + 20 * bitTime))
    else .next s

/-- The mean of the samples held (R317). -/
def meanOf (l : List Rat) : Rat := if l.isEmpty then 0 else l.sum / (l.length : Rat)

/-- A value lies beyond ±300 ppm (R318). -/
def beyond300 (x : Rat) : Bool := x < -300 || 300 < x

/-- The deviation sample of the cycle that a beacon closes (R317). -/
def State.sample (s : State) (silentLocal : Nat) : State :=
  let pl := s.plca
  if 8 ≤ pl.silent ∧ pl.rxError = false then
    let nominal : Rat := (pl.silent * pl.toBits * 100 : Nat)
    let x := ((silentLocal : Rat) - nominal) * 1000000 / nominal
    let samples := (x :: pl.samples).take 16
    let s := { s with plca := { pl with samples := samples, outside := pl.outside || beyond300 x } }
    s.mput 0x1101 2 (w (toFp32 (numOf (meanOf samples))).toNat)
  else s

/-- The follower's state at the end of a cycle (R318). -/
def State.judgeCycle (s : State) : State :=
  let dev := meanOf s.plca.samples
  let st := s.plcaState
  if st = plcaActive ∨ st = plcaWarning then (if beyond300 dev then s.enterListenOnly 1 else s)
  else if st = plcaListen ∧ s.mnat 0x1101 9 ≠ 3 then
    if s.plca.ownClean && !beyond300 dev && !s.plca.outside then
      let s := s.mcount 0x1101 6 1
      if 64 ≤ s.mnat 0x1101 6 then ((s.mput 0x1101 4 0).mput 0x1101 9 0).setPlca plcaActive else s
    else s.mput 0x1101 6 0
  else s

/-- BEACON_RECEIVED (R312, R313, R317, R318). -/
def execBeaconReceived (f : BeaconFacts) (s : State) : Host.Outcome State Fault Refusal :=
  s.whenReeve fun s =>
    let s := s.mcount 0x1101 0x0A 1
    let st := s.plcaState
    if st = plcaUnassigned then .next s
    else if st = plcaStart then .next { s with plca := { s.plca with heard := true } }
    else if st = plcaCoordinator then .next (s.enterListenOnly 3)
    else if st = plcaWaiting then .next ((s.newCycle f.nodeCount s.tclk).setPlca plcaActive)
    else .next (((s.sample f.silentLocal).judgeCycle).newCycle f.nodeCount s.tclk)

/-- BEACON_TIMEOUT (R313, R318): 10 ms without a beacon; a duplicate coordinator stays in LISTEN_ONLY (R312). -/
def execBeaconTimeout (s : State) : Host.Outcome State Fault Refusal :=
  s.whenReeve fun s =>
    let st := s.plcaState
    if 1 ≤ st ∧ st ≤ 4 ∧ ¬(st = plcaListen ∧ s.mnat 0x1101 9 = 3) ∧ s.plca.lastBeacon + tclkOfMs 10 ≤ s.tclk then
      let s := { s with plca := { s.plca with lastBeacon := s.tclk, ownOpen := none } }
      .next ((s.plcaFlag noBeaconBit).setPlca plcaWaiting)
    else .next s

/-! ## Opportunities (R314 to R318) -/

/-- The computed start of the present opportunity: the end of the last one, and a bit time after every 32 while the
drift guard is enabled. -/
def State.oppStart (s : State) : Nat :=
  s.plca.prevEnd + (if s.mon 0x1100 6 && s.plca.k != 0 && s.plca.k % 32 == 0 then bitTime else 0)

/-- An edge yield (R316, R318, R320, R341). -/
def State.edgeYield (s : State) : State :=
  let s := s.mcount 0x1101 3 1
  let run := min 255 (s.mnat 0x1101 4 + 1)
  let s := (s.mput 0x1101 4 (w run)).plcaFlag edgeYieldBit
  let s := { s with plca := { s.plca with yielded := true, ownClean := false, ownOpen := none } }
  let s := s.missReleased
  let st := s.plcaState
  if (st = plcaActive ∨ st = plcaWarning) ∧ 16 ≤ run then s.enterListenOnly 2
  else if st = plcaActive ∧ 3 ≤ run then (s.plcaFlag driftWarnBit).setPlca plcaWarning
  else if st = plcaCoordinator ∧ 3 ≤ run then s.plcaFlag driftWarnBit
  else s

/-- The own opportunity starts with no carrier: the run ends (R316, R318). -/
def State.cleanStart (s : State) : State :=
  let s := s.mput 0x1101 4 0
  let s := { s with plca := { s.plca with ownClean := true } }
  if s.plcaState = plcaWarning then s.setPlca plcaActive else s

/-- The opportunity ends at a TCLK count; it was silent or used. -/
def State.endOpp (s : State) (end_ : Nat) (silent : Bool) : State :=
  { s with plca := { s.plca with
      k := s.plca.k + 1, prevEnd := end_, silent := s.plca.silent + (if silent then 1 else 0) } }

/-- An opportunity without a transmission of the module: silent for TO, or used by another node. -/
def State.otherOpp (s : State) (start : Nat) (f : OppFacts) : State :=
  match f.usedBits with
  | some b => s.endOpp (start + b * bitTime) false
  | none => s.endOpp (start + s.plca.toBits * bitTime) true

/-- PTP messages whose send point passes in LISTEN_ONLY are discarded (R319, R342). -/
def State.dropPtp (s : State) : State :=
  { s with
    txq := s.txq.filter fun (q : TxFrame) => q.cls != TxClass.ptpEvent && q.cls != TxClass.ptpGeneral
    tlq := s.tlq.filter fun (f : TlFrame) => f.sync.isNone }

/-- The module's own opportunity begins with no carrier present. -/
def State.ownOpp (s : State) (start : Nat) (f : OppFacts) : State :=
  let s := s.cleanStart
  if !s.mayTransmit then
    s.dropPtp.missReleased.otherOpp start f
  else if f.collision && s.nextFrame.isSome then
    s.missReleased.endOpp (start + (f.usedBits.getD s.plca.toBits) * bitTime) false
  else
    match s.sendFrames s.plca.framesMax with
    | (s, 0) => ({ s with plca := { s.plca with ownOpen := some start } }).otherOpp start f
    | (s, b) => s.missReleased.endOpp (start + b * bitTime) false

/-- OPPORTUNITY_START (R314 to R316, R318, R321, R322): due at its computed start in a cycle not yet over. -/
def execOpportunityStart (f : OppFacts) (s : State) : Host.Outcome State Fault Refusal :=
  s.whenReeve fun s =>
    let start := s.oppStart
    let inCycle := s.mayTransmit || s.plcaState == plcaListen
    if !inCycle || decide (s.tclk < start) || (s.plca.seen != 0 && decide (s.plca.seen ≤ s.plca.k)) then .next s
    else
      let own := s.plca.k == s.mnat 0x1100 1
      let s := { s with plca := { s.plca with ownOpen := none, rxError := s.plca.rxError || f.rxError } }
      if f.carrierAtStart then
        let s := { s with plca := { s.plca with prevEnd := start + (f.usedBits.getD 0) * bitTime } }
        .next (if own then s.edgeYield else s)
      else if own && !s.plca.yielded then .next (s.ownOpp start f)
      else .next (s.otherOpp start f)

/-! ## Time-launched frames (R49, R322, R323) -/

/-- Entries of the time-launched queue in use: a master's own Syncs hold one. -/
def State.tlEntries (s : State) : Nat :=
  (s.tlq.filter fun f => f.sync.isNone).length + (if s.ptp.role = .master then 1 else 0)

/-- The commit of 1 to 0x1040:03. -/
def tlQueueCommit : Commit := fun s =>
  let b := s.reeve.tlHeld
  let ty := beField b 6 2
  if b = [] then (abortConflict, s)
  else if ty = 0x88F7 ∨ ty = s.mnat 0x1010 2 then (abortInvalid, s)
  else if 8 ≤ s.tlEntries then (abortExhausted, s)
  else
    let f : TlFrame := { launch := s.mget 0x1040 1, bytes := b, released := none, late := false, sync := none }
    (0, { s with tlq := s.tlq ++ [f], reeve := { s.reeve with tlHeld := [] } })

/-- TL_FRAME_QUEUE (R323). -/
def execTlFrameQueue (p : Path) (s : State) : Host.Outcome State Fault Refusal :=
  s.writeRow p 0x1040 3 [1] tlQueueCommit

/-- The commit of 2 to 0x1040:03: every frame not yet released goes, counted. -/
def tlDiscardCommit : Commit := fun s =>
  let keep := s.tlq.filter fun f => f.released.isSome || f.sync.isSome
  (0, ({ s with tlq := keep }).mcount 0x1040 6 (s.tlq.length - keep.length))

/-- TL_FRAME_DISCARD_ALL (R323). -/
def execTlFrameDiscardAll (p : Path) (s : State) : Host.Outcome State Fault Refusal :=
  s.writeRow p 0x1040 3 [2] tlDiscardCommit

/-- TL_FRAME_RELEASE (R49, R67): every queued frame whose launch time T64 has reached goes to the MAC. -/
def execTlFrameRelease (s : State) : Host.Outcome State Fault Refusal :=
  s.whenReeve fun s =>
    let due := fun (f : TlFrame) => f.released.isNone && decide (f.launch.toNat ≤ s.now.toNat)
    if s.tlq.any due then
      let q := s.tlq.map fun (f : TlFrame) => if due f then { f with released := some s.tclk } else f
      .next ({ s with tlq := q }).sendLate
    else .next s

/-- TL_FRAME_TIMEOUT (R322): a released frame not sent within 1 s is discarded. -/
def execTlFrameTimeout (s : State) : Host.Outcome State Fault Refusal :=
  s.whenReeve fun s =>
    let old := fun (f : TlFrame) =>
      match f.released with | some t => decide (t + tclkOfS 1 ≤ s.tclk) | none => false
    let gone := s.tlq.filter old
    if gone.isEmpty then .next s
    else
      let s := { s with tlq := s.tlq.filter fun f => !old f }
      .next ((s.mcount 0x1040 6 (gone.filter fun f => f.sync.isNone).length).plcaFlag txDiscardedBit)

end Sys2Proof.Machine
end

