-- ==== Sys2Proof/Machine/RLink.lean ====
section
/-! DEFINITION. The RLink link layer, ingest and tensor frames (R81 to R89, R93, R95, R104, R106, R465). -/

namespace Sys2Proof.Machine

open Sys2Proof

/-! ## Link faults (R86, R106) -/

/-- A port in UP goes DOWN with a cause, and jobs that use it end LINK_FAIL, unless the channel is stopping or stopped. -/
def State.linkFault (s : State) (c : Chan) (p : Port) (cause : Nat) : State :=
  let uses := (s.chan c).usesPort p
  (s.portDown c p cause).failUsers c uses

/-- Commit of a port mode (R84, R87): mode 2 on ports 2 and 3 only; the link goes DOWN first. -/
def portModeCommit (c : Chan) (p : Port) (v : Nat) : Commit := fun s =>
  if v = 2 ∧ p.val < 2 then (abortInvalid, s)
  else
    let s := if (s.chan c).portUp p then s.linkFault c p causeMode
      else if (s.chan c).portState p ≠ 0 then s.portDown c p causeMode else s
    (0, s.cput c (portOff p) 1 (w v))

/-- PORT_MODE_WRITE. -/
def execPortModeWrite (p : Path) (c : Chan) (port : Port) (v : Byte) (s : State) : Host.Outcome State Fault Refusal :=
  s.writeRow p (chanIndex c (portOff port)) 1 [v] (portModeCommit c port v.toNat)

/-! ## Lanes (R81) -/

/-- One bit through a lane's scrambler x^58 + x^39 + 1, whose last 58 output bits are `r`, newest in bit 0. -/
def scrambleBit (r : BitVec 58) (b : Bool) : Bool × BitVec 58 :=
  let o := b ^^ (r.getLsbD 38 ^^ r.getLsbD 57)
  (o, (r <<< 1) ||| (if o then 1 else 0))

/-- A byte through the scrambler, least significant bit first. -/
def scrambleByte (r : BitVec 58) (b : Byte) : Byte × BitVec 58 :=
  (List.range 8).foldl (fun x i =>
    let y := scrambleBit x.2 (b.getLsbD i)
    (if y.1 then x.1 ||| BitVec.ofNat 8 (2 ^ i) else x.1, y.2)) (0, r)

/-- A lane's bytes through its scrambler. -/
def scramble (r : BitVec 58) (b : Bytes) : Bytes × BitVec 58 :=
  match b with
  | [] => ([], r)
  | x :: rest =>
    let y := scrambleByte r x
    let z := scramble y.2 rest
    (y.1 :: z.1, z.2)

/-- The four lanes through the port's scrambler. -/
def RPort.carry (r : RPort) (lanes : List Bytes) : List Bytes × RPort :=
  let x := (lanes.zip r.scram).map fun l => scramble l.2 l.1
  (x.map (·.1), { r with scram := x.map (·.2) })

/-! ## Training (R83, R84) -/

/-- The sender ID of a port (R465). -/
def State.senderId (s : State) (c : Chan) (p : Port) : BitVec 32 :=
  BitVec.ofNat 32 (0x52460000 + 256 * (s.mnat 0x4030 1 % 256) + 16 * c.val + p.val)

/-- Bytes 0 to 59 of a training block. -/
def blockHead (b : TrainingBlock) : Bytes :=
  leBytes 4 b.marker.toNat ++ [b.kind, b.lane, b.port, b.version] ++ leBytes 4 b.sender.toNat ++
    leBytes 2 b.credits.toNat ++ zeros 46

/-- The block that a port sends on a lane. -/
def RPort.block (r : RPort) (p : Port) (kind : Byte) (lane : Nat) : TrainingBlock :=
  let b : TrainingBlock := {
    marker := 0xB5C3E11D, kind := kind, lane := BitVec.ofNat 8 lane, port := BitVec.ofNat 8 p.val, version := 1
    sender := r.sender, credits := BitVec.ofNat 16 r.offered, crc := 0 }
  { b with crc := crc32 (blockHead b) }

/-- The port begins to send blocks of a kind on every lane, and repeats them until its state changes. -/
def State.sendBlocks (s : State) (c : Chan) (p : Port) (kind : Byte) : State :=
  let r := (s.chan c).port p
  let blocks := (List.range 4).map (r.block p kind)
  let x := r.carry (blocks.map fun b => blockHead b ++ leBytes 4 b.crc.toNat)
  (s.modChan c (·.setPort p x.2)).emit (.training c p blocks x.1)

/-- LINK_TRAIN_START (R84): 1 ms after DOWN was entered, outside reset, stop and Quarantine; the receive slots that it offers and
what its scramblers hold are not stated (log entry 10). -/
def execLinkTrainStart (c : Chan) (p : Port) (s : State) : Host.Outcome State Fault Refusal :=
  s.whenChan c fun s =>
    let ch := s.chan c
    let r := ch.port p
    if ch.portState p = 0 ∧ ch.nat (portOff p) 1 ≠ 0 ∧ ch.st ≠ .booting ∧ ch.st ≠ .quarantine ∧ ch.stopped = false ∧
        r.downSince + tclkOfMs 1 ≤ s.tclk then
      let seeds := (List.range 4).map fun i => BitVec.ofNat 58 (Config.freeNat (s.free + 1 + i))
      let r := { r with sender := s.senderId c p, offered := s.freeIn 1 65535, scram := seeds }
      let s := s.modChan c fun ch => (ch.setPort p r).put (portOff p) 2 1
      .next ({ s with free := s.free + 5 }.sendBlocks c p 1)
    else .next s

/-- The CRC of a training block agrees (R83). -/
def blockCrcOk (b : TrainingBlock) : Bool := crc32 (blockHead b) == b.crc

/-- A valid training block. -/
def blockValid (b : TrainingBlock) : Bool :=
  b.marker == 0xB5C3E11D && (b.kind == 1 || b.kind == 2) && b.version == 1 && blockCrcOk b

/-- The port reaches UP (R84): sequence numbers start at 0, the partner's credits are held, LINK_UP; the first UP of
channel 0 port 2 starts a measurement (R471). -/
def State.linkUp (s : State) (c : Chan) (p : Port) (b : TrainingBlock) : State :=
  let s := s.modChan c fun ch =>
    let r := ch.port p
    (((ch.setPort p { RPort.reset with
        sender := r.sender, offered := r.offered, credits := b.credits.toNat, ackAt := s.tclk, scram := r.scram })).put
      (portOff p) 2 3).put (portOff p) 8 (w b.sender.toNat)
  let s := s.event c { unit := 0x38 + p.val, num := 0x0900, pay := payAt 8 b.sender.toNat }
  if c = alignChan ∧ p = alignPort ∧ s.align.autoDone = false then
    { s with align := { s.align with autoDone := true } }.startMeasure
  else s

/-- A set of blocks in TRAIN (R84). -/
def State.trainStep (s : State) (c : Chan) (p : Port) (lanes : List TrainingBlock) (skewNs : Nat) : State :=
  let ids := lanes.map (·.lane)
  let valid := lanes.length == 4 && lanes.all blockValid
  if valid && ids == [0, 1, 2, 3] && decide (skewNs ≤ 16) then
    let s := s.modChan c fun ch => (ch.modPort p fun r => { r with ts2 := 0 }).put (portOff p) 2 2
    s.sendBlocks c p 2
  else if valid && ([0, 1, 2, 3] : List Byte).all ids.contains && ids != [0, 1, 2, 3] then
    s.cput c (portOff p) 9 (w causeLane)
  else s

/-- A set of blocks in CONFIRM (R84): 16 consecutive valid TS2 on all lanes reach UP; a TS1 or a bad CRC goes back. -/
def State.confirmStep (s : State) (c : Chan) (p : Port) (lanes : List TrainingBlock) : State :=
  if lanes.length == 4 && lanes.all (fun b => blockValid b && b.kind == 2) then
    let n := ((s.chan c).port p).ts2 + 1
    if 16 ≤ n then
      match lanes with
      | b :: _ => s.linkUp c p b
      | [] => s
    else s.modChan c fun ch => ch.modPort p fun r => { r with ts2 := n }
  else
    let s := s.modChan c fun ch => (ch.modPort p fun r => { r with ts2 := 0 }).put (portOff p) 2 1
    s.sendBlocks c p 1

/-- Blocks that can reach the port: on the board ring those of the port at its far end, once that has begun to send their kind, or
what a bit error makes of them (R19); on a connector any. -/
def State.blocksArrive (s : State) (c : Chan) (p : Port) (lanes : List TrainingBlock) : Bool :=
  match ringPeer c p with
  | none => true
  | some q =>
    let far := s.chan q.1
    let state := far.portState q.2
    lanes.zipIdx.all fun b =>
      !blockCrcOk b.1 && state != 0 || (decide (b.1.kind.toNat ≤ state) && b.1 == (far.port q.2).block q.2 b.1.kind b.2)

/-- TRAINING_BLOCK_RECEIVED (R84, R86): one block on each lane. -/
def execTrainingBlockReceived (c : Chan) (p : Port) (lanes : List TrainingBlock) (skewNs : Nat) (s : State) :
    Host.Outcome State Fault Refusal :=
  s.whenChan c fun s =>
    if !s.blocksArrive c p lanes then .next s
    else match (s.chan c).portState p with
    | 1 => .next (s.trainStep c p lanes skewNs)
    | 2 => .next (s.confirmStep c p lanes)
    | 3 => .next (s.linkFault c p causeTraining)
    | _ => .next s

/-! ## Flits (R82, R85) -/

/-- Bytes 0 to 251 of a flit. -/
def flitBytes (f : Flit) : Bytes :=
  [f.type, f.stream] ++ leBytes 2 f.seq.toNat ++ leBytes 2 f.ack.toNat ++ leBytes 2 f.credit.toNat ++
  leBytes 2 f.length.toNat ++ [f.flags, 0] ++ (padTo f.payload 240).take 240

/-- The flit with its CRC. -/
def sealFlit (f : Flit) : Flit := { f with payload := padTo f.payload 240, crc := crc32 (flitBytes f) }

/-- The ack and credit fields of a flit sent now; the slots freed are given back with it. -/
def RPort.outgoing (r : RPort) (f : Flit) : Flit × RPort :=
  (sealFlit { f with ack := r.rxNext - 1, credit := BitVec.ofNat 16 r.freed },
   { r with offered := r.offered + r.freed, freed := 0, sinceIdle := r.sinceIdle + 1 })

/-- Byte k of a flit travels on lane k mod 4 (R82). -/
def laneBytes (b : Bytes) (lane : Nat) : Bytes := (b.zipIdx.filter fun x => x.2 % 4 == lane).map (·.1)

/-- The flit leaves the port, and on the board ring is on its way to the port at the far end (R19). -/
def State.sendFlit (s : State) (c : Chan) (p : Port) (f : Flit) : State :=
  let o := ((s.chan c).port p).outgoing f
  let b := flitBytes o.1 ++ leBytes 4 o.1.crc.toNat
  let x := o.2.carry ((List.range 4).map (laneBytes b))
  let s := (s.modChan c (·.setPort p x.2)).emit (.flit c p o.1 x.1)
  match ringPeer c p with
  | some q => if s.chanUp q.1 && (s.chan q.1).portUp q.2 then { s with ring := s.ring ++ [(q.1, q.2, o.1)] } else s
  | none => s

def idleFlit : Flit :=
  { type := 0, stream := 0, seq := 0, ack := 0, credit := 0, length := 0, flags := 0, payload := [], crc := 0 }

/-- A NAK with the expected sequence number. -/
def nakFlit (expected : BitVec 16) : Flit := { idleFlit with type := 3, payload := leBytes 2 expected.toNat }

/-- A LINK_SEND or LINK_RECEIVE record (R139, R142, R147). -/
def State.linkRecord (s : State) (c : Chan) (p : Port) (type : Byte) (seq : BitVec 16) (t : T64) (word stream : Nat)
    (kind : Byte) (frameBytes : Nat) (owner : Option Slot) : State :=
  let r : Rec := {
    type := type, unit := BitVec.ofNat 8 (0x38 + p.val), code := seq, t := t
    payload := payAt 8 word ||| payAt 12 stream ||| payAt 13 kind.toNat ||| payAt 14 ((frameBytes + 239) / 240)
    epoch := s.time.epoch, owner := owner, group := some 16, privileged := false, counters := false, only := none }
  s.modChan c fun ch => if ch.tracing then ch.enqueue s.now r else ch

/-- Payload bytes of the next DATA flit of a frame: what is at hand, then what its Hatch holds; none until the Hatch holds enough for
a full flit, or the rest of the frame (R80, R82). -/
def Channel.nextPayload (ch : Channel) (d : TxData) : Option Bytes :=
  let more := match d.hatch with | some h => (ch.hatch h).take d.need | none => []
  let b := d.bytes ++ more
  if b.length < min 240 (d.bytes.length + d.need) then none else some (b.take 240)

/-- A frame once n of its bytes have been sent; none is left of it at its end. -/
def TxData.sent (d : TxData) (n : Nat) : Option TxData :=
  if d.bytes.length + d.need ≤ n then none
  else some { d with bytes := d.bytes.drop n, need := d.need - (n - d.bytes.length), fresh := false }

/-- Bytes that the flit takes from the frame's Hatch leave it. -/
def Channel.takePayload (ch : Channel) (d : TxData) (n : Nat) : Channel :=
  match d.hatch with | some h => ch.takeHatch h (n - d.bytes.length) | none => ch

/-- A DATA flit of a frame. -/
def dataFlit (d : TxData) (seq : BitVec 16) (pay : Bytes) : Flit :=
  { idleFlit with
    type := 1, stream := BitVec.ofNat 8 d.stream.val, seq := seq, length := BitVec.ofNat 16 pay.length
    flags := (if d.fresh then 1 else 0) + (if (d.sent pay.length).isNone then 2 else 0), payload := pay }

/-- A new DATA flit is sent: a credit is spent, it is kept for replay, and a FIRST flit takes its send stamp (R85, R89,
R470). -/
def State.sendData (s : State) (c : Chan) (p : Port) (d : TxData) (rest : List TxData) (pay : Bytes) : State :=
  match (if d.fresh then s.stamp c (0x38 + p.val) else (s.now, s)) with
  | (t, s) =>
    let probe := d.fresh && d.kind == 3
    let pay := if probe then stampProbe pay t s.stepCount else pay
    let r := (s.chan c).port p
    let f := dataFlit d r.txSeq pay
    let s := if probe && leField pay 2 1 == 0 then
        { s with align := { s.align with probe := s.align.probe.map fun a => (t, a.2) } } else s
    let s := if d.fresh && d.kind != 3 then
        s.linkRecord c p 9 r.txSeq t d.tag.toNat d.stream.val d.kind d.total d.owner else s
    let s := s.modChan c fun ch =>
      ((ch.takePayload d pay.length).setPort p { r with
        txq := (d.sent pay.length).toList ++ rest, txSeq := r.txSeq + 1, credits := r.credits - 1
        replay := r.replay ++ [{ flit := f, times := 0 }]
        ackAt := if r.replay.isEmpty then s.tclk else r.ackAt }).pushCount (0x38 + p.val) 0x0980 t
    let s := match d.hatch with | some h => s.unhold c h false | none => s
    s.sendFlit c p f

/-- A kept flit is sent again; the eighth time takes the link DOWN (R85, R86). -/
def State.resendFlit (s : State) (c : Chan) (p : Port) (f : Flit) (rest : List Flit) : State :=
  let r := (s.chan c).port p
  let times := ((r.replay.find? (·.flit.seq == f.seq)).map (·.times)).getD 0 + 1
  let replay := r.replay.map fun x => if x.flit.seq = f.seq then { x with times := times } else x
  let s := (s.modChan c (·.setPort p { r with resend := rest, replay := replay })).sendFlit c p f
  if 8 ≤ times then s.linkFault c p causeReplay else s

/-- DATA_FLIT_SEND (R85): the port's next flit: an IDLE where rate matching needs one, a NAK that is due, a replay, new
data under credit and replay room, else IDLE; a frame whose Hatch is empty holds the port (R80). -/
def execDataFlitSend (c : Chan) (p : Port) (s : State) : Host.Outcome State Fault Refusal :=
  s.whenChan c fun s =>
    let ch := s.chan c
    let r := ch.port p
    let idle := fun (s : State) =>
      (s.sendFlit c p idleFlit).modChan c fun ch => ch.modPort p fun r => { r with sinceIdle := 0 }
    if !ch.portUp p then .next s
    else if 4095 ≤ r.sinceIdle then .next (idle s)
    else if r.nakDue then
      .next ((s.modChan c fun ch => ch.setPort p { r with nakDue := false }).sendFlit c p (nakFlit r.rxNext))
    else match r.resend, r.txq with
      | f :: rest, _ => .next (s.resendFlit c p f rest)
      | [], d :: rest =>
        if 0 < r.credits ∧ r.replay.length < 128 then
          match ch.nextPayload d with
          | some pay => .next (s.sendData c p d rest pay)
          | none =>
            match d.hatch with
            | some h => .next (idle (s.noteHold c h false))
            | none => .next (idle s)
        else .next (idle s)
      | [], [] => .next (idle s)

/-! ## Replay (R85, R86) -/

/-- Replay from the oldest unacknowledged flit, counted and reported. -/
def State.replay (s : State) (c : Chan) (p : Port) : State :=
  let r := (s.chan c).port p
  match r.replay with
  | [] => s
  | f :: _ =>
    let s := s.ccount c (portOff p) 3 1
    let s := s.event c { unit := 0x38 + p.val, num := 0x0941, pay := payAt 8 f.flit.seq.toNat }
    s.modChan c fun ch => ch.setPort p { r with resend := r.replay.map (·.flit), ackAt := s.tclk }

/-- REPLAY_TIMEOUT (R85): 2 µs without progress in the ack field. -/
def execReplayTimeout (c : Chan) (p : Port) (s : State) : Host.Outcome State Fault Refusal :=
  s.whenChan c fun s =>
    let r := (s.chan c).port p
    if (s.chan c).portUp p && !r.replay.isEmpty && decide (r.ackAt + tclkOfUs 2 ≤ s.tclk) then .next (s.replay c p)
    else .next s

/-- SIGNAL_LOSS (R86). -/
def execSignalLoss (c : Chan) (p : Port) (s : State) : Host.Outcome State Fault Refusal :=
  s.whenChan c fun s => .next (if (s.chan c).portUp p then s.linkFault c p causeSignal else s)

/-- Flits up to and including the acknowledged one leave the replay buffer. -/
def dropAcked (l : List Sent) (ack : BitVec 16) : List Sent :=
  if l.any (·.flit.seq == ack) then (l.dropWhile (·.flit.seq != ack)).drop 1 else l

/-- The ack and credit fields of a received flit (R85). -/
def RPort.takeFields (r : RPort) (tclk : Nat) (f : Flit) : RPort :=
  let r := { r with credits := r.credits + f.credit.toNat }
  let left := dropAcked r.replay f.ack
  if left.length = r.replay.length then r
  else { r with
    replay := left, ackAt := tclk
    resend := r.resend.filter fun x => left.any (·.flit.seq == x.seq) }

/-- Everything before a NAKed number has been received (R85). -/
def RPort.takeNak (r : RPort) (expected : BitVec 16) : RPort :=
  if r.replay.any (·.flit.seq == expected) then { r with replay := r.replay.dropWhile (·.flit.seq != expected) } else r

/-- A DATA flit is discarded; one NAK answers until the expected number comes. -/
def RPort.wantNak (r : RPort) : RPort := if r.nakked then r else { r with nakked := true, nakDue := true }

/-! ## Frames (R87, R88, R93) -/

/-- The frame kind that a port's mode carries, probes apart: ingest in mode 2, tensor frames in mode 1 (R20, R87).  DESIGN CHOICE
(log entry 127): to a port, any other kind is unknown. -/
def modeKind (mode : Nat) : Nat := if mode = 2 then 1 else 2

/-- The header checks of R88 on a port in a mode. -/
def headerOk (mode : Nat) (h : Bytes) : Bool :=
  let kind := leField h 0 1
  let len := leField h 4 4
  let count := leField h 24 4
  decide (32 ≤ h.length) && kind == modeKind mode && leField h 1 1 == 1 &&
  (if kind = 1 then decide (33 ≤ len) && decide (len ≤ 1048576) else decide (32 ≤ len)) &&
  (match elementBytes kind (leField h 2 1) with | some n => count * n == len - 32 | none => false)

/-- Frame sequence of an ingest frame, job tag of a tensor frame. -/
def frameWord (h : Bytes) : Nat := leField h 16 4

/-- A malformed frame is counted and reported (R88). -/
def State.malformed (s : State) (c : Chan) (p : Port) (stream seq : Nat) : State :=
  (s.ccount c (portOff p) 7 1).event c
    { unit := 0x38 + p.val, num := 0x0902, pay := payAt 8 stream ||| payAt 12 seq }

/-- A frame that no open window takes is counted and reported (R93). -/
def State.dropFrame (s : State) (c : Chan) (p : Port) (stream seq : Nat) : State :=
  (s.ccount c (portOff p) 6 1).event c
    { unit := 0x38 + p.val, num := 0x0903, pay := payAt 8 stream ||| payAt 12 seq }

/-- The queued job whose window takes a frame of a kind, stamped t, on a port and stream (R93, R104). -/
def Channel.windowFor (ch : Channel) (p : Port) (stream : Fin 16) (kind : Nat) (t : T64) : Option Job :=
  if !ch.computing then none
  else ch.jobs.find? fun j =>
    !j.running && j.desc.arrival && j.arrived.isNone && j.desc.port == p && j.desc.stream == stream &&
    (ch.plan j.desc.plan).source == kind && decide (j.desc.t0.toNat ≤ t.toNat) && decide (t.toNat ≤ j.desc.t1.toNat)

/-- The frame being received on a port is changed. -/
def Channel.modRx (ch : Channel) (p : Port) (f : RxFrame → RxFrame) : Channel :=
  ch.modPort p fun r => { r with rx := r.rx.map f }

/-- The re-test of R95 fails for a plan. -/
def Channel.belowFloor (ch : Channel) (j : Job) : Bool := decide (ch.admitCeiling < (ch.plan j.desc.plan).floor)

/-- A frame launches the job whose window it meets; a running job or a relock makes the launch wait, late (R70, R93, R95,
R99, R102). -/
def State.takeFrame (s : State) (c : Chan) (p : Port) (j : Job) (h : Bytes) (t : T64) (stream : Nat) : State :=
  let ch := s.chan c
  let pl := ch.plan j.desc.plan
  if ch.belowFloor j then (s.rejectJob c j rejCeilingAtLaunch).dropFrame c p stream (frameWord h)
  else
    let wait := ch.onSafeClock || ch.runningJob.isSome
    let n := leField h 24 4
    let j' := { j with
      arrived := some t, late := j.late || wait, inShort := decide (n < pl.count), inLong := decide (pl.count < n)
      inFmt := BitVec.ofNat 8 (leField h 2 1) }
    let ch := ({ ch with jobs := ch.jobs.map fun (x : Job) => if x.num = j.num then j' else x }).modRx p fun f =>
      { f with job := some j.num, drop := false }
    let s := s.setChan c ch
    if wait then s else s.launchDue c j' t

/-- The FIRST flit of a frame that is no probe: its record, the header checks, and the window it may meet (R88, R89, R93).  The
record belongs to the job that takes the frame (R147). -/
def State.firstFlit (s : State) (c : Chan) (p : Port) (stream : Fin 16) (seq : BitVec 16) (h : Bytes) : State :=
  match s.stamp c (0x38 + p.val) with
  | (t, s) =>
    let kind := leField h 0 1
    let ok := headerOk ((s.chan c).nat (portOff p) 1) h
    let j := if ok then (s.chan c).windowFor p stream kind t else none
    let owner := (j.filter fun j => !(s.chan c).belowFloor j).map (·.owner)
    let s := s.linkRecord c p 0x0A seq t (frameWord h) stream.val (BitVec.ofNat 8 kind) (leField h 4 4) owner
    let rx : RxFrame := {
      stream := stream, kind := BitVec.ofNat 8 kind, length := leField h 4 4, got := 0
      seq := BitVec.ofNat 32 (frameWord h), drop := !ok, job := none }
    let s := s.modChan c fun ch => ch.modPort p fun r => { r with rx := some rx }
    if !ok then s.malformed c p stream.val (frameWord h)
    else match j with
      | some j => s.takeFrame c p j h t stream.val
      | none => s.dropFrame c p stream.val (frameWord h)

/-- The job that consumes the frame in reception. -/
def Channel.frameJob (ch : Channel) (f : RxFrame) : Option Job := f.job.bind ch.jobNo

/-- The length check of R88 as bytes arrive: the frame is malformed, and the job that consumes it ends at this flit. -/
def State.countFrame (s : State) (c : Chan) (p : Port) (n : Nat) (last : Bool) : State :=
  match ((s.chan c).port p).rx with
  | none => s
  | some f =>
    let got := f.got + n
    let bad := !f.drop && (decide (f.length < got) || (last && decide (got < f.length)))
    let job := (s.chan c).frameJob f
    let s := s.modChan c fun ch => ch.modRx p fun f => { f with got := got, drop := f.drop || bad }
    if bad then
      let s := s.malformed c p f.stream.val f.seq.toNat
      match job with | some j => s.endJob c j statusMalformed | none => s
    else s

/-- The bytes of an accepted flit: the job that consumes their frame keeps them in the receive slot until its Hatch takes them;
without one the slot is free again at once (R80, R82, R88). -/
def State.keepData (s : State) (c : Chan) (p : Port) (data : Bytes) (last : Bool) : State :=
  let s := s.modChan c fun ch => ch.modPort p fun r =>
    match r.rx.bind fun f => if f.drop then none else f.job with
    | some n => { r with held := r.held ++ [{ job := n, data := data, last := last }] }
    | none => { r with freed := r.freed + 1 }
  let s := if last then s.modChan c fun ch => ch.modPort p fun r => { r with rx := none } else s
  s.drainPort c p

/-- A probe frame on a port in mode 1: one flit, never a Hatch, job, record or count (R470). -/
def State.probeFrame (s : State) (c : Chan) (p : Port) (b : Bytes) : State :=
  if isProbe b 1 then (if c = alignChan ∧ p = alignPort then s.takeEcho b else s) else s.answerProbe c p b

/-- A flit marked FIRST inside a frame: that frame has ended without LAST, and the job that consumes it ends LINK_FAIL (R106, log
entry 100). -/
def State.breakFrame (s : State) (c : Chan) (p : Port) : State :=
  match ((s.chan c).port p).rx.bind (s.chan c).frameJob with
  | some j => s.endJob c j statusLinkFail
  | none => s

/-- An accepted DATA flit goes to its frame. -/
def State.acceptData (s : State) (c : Chan) (p : Port) (f : Flit) : State :=
  let b := f.payload.take f.length.toNat
  let first := f.flags.getLsbD 0
  let last := f.flags.getLsbD 1
  let mode := (s.chan c).nat (portOff p) 1
  let s := if first then s.breakFrame c p else s
  if first && last && mode == 1 && (isProbe b 0 || isProbe b 1) then
    (s.modChan c fun ch => ch.modPort p fun r => { r with rx := none, freed := r.freed + 1 }).probeFrame c p b
  else
    let s := if first then s.firstFlit c p (Fin.ofNat 16 f.stream.toNat) f.seq b else s
    let s := s.countFrame c p b.length last
    s.keepData c p (if first then b.drop 32 else b) last

/-- A DATA flit that belongs to no frame: the manual names no reaction (R1, R85). -/
def RPort.outOfFrame (r : RPort) (f : Flit) : Bool :=
  match r.rx with
  | some x => !f.flags.getLsbD 0 && x.stream.val != f.stream.toNat % 16
  | none => !f.flags.getLsbD 0

/-- What a port does with a flit that R82 or R85 forbids is left open (R1): it discards it, discards and NAKs it, or takes the link
DOWN with a cause of R84 (log entry 100). -/
def State.forbidden (s : State) (c : Chan) (p : Port) : State :=
  match s.freeIn 0 2 with
  | 0 => s.drawn
  | 1 => s.drawn.modChan c fun ch => ch.modPort p (·.wantNak)
  | _ => s.drawn.drawn.linkFault c p (s.drawn.freeIn 1 7)

/-- A good DATA flit: out of order it is discarded; with no credit outstanding the link goes down; else it is accepted. -/
def State.takeData (s : State) (c : Chan) (p : Port) (f : Flit) : State :=
  let r := (s.chan c).port p
  if f.length = 0 ∨ 240 < f.length.toNat then s.forbidden c p
  else if f.seq ≠ r.rxNext then s.modChan c fun ch => ch.setPort p r.wantNak
  else if r.offered = 0 then s.linkFault c p causeCredit
  else if r.outOfFrame f then s.forbidden c p
  else
    let s := s.modChan c fun ch =>
      ch.setPort p { r with rxNext := r.rxNext + 1, nakked := false, nakDue := false, offered := r.offered - 1 }
    let s := s.modChan c (·.pushCount (0x38 + p.val) 0x0981 s.now)
    s.acceptData c p f

/-- The flits in flight without the first one that is to reach a port. -/
def dropFirst (l : List (Chan × Port × Flit)) (c : Chan) (p : Port) : List (Chan × Port × Flit) :=
  match l with
  | [] => []
  | x :: r => if x.1 = c ∧ x.2.1 = p then r else x :: dropFirst r c p

/-- The flit reaches the port: on the board ring it is the first in flight from the far end, or what a bit error has made of it
(R19, R82); on a connector any flit.  None where it cannot. -/
def State.arrive (s : State) (c : Chan) (p : Port) (f : Flit) : Option State :=
  match ringPeer c p with
  | none => some s
  | some _ =>
    match s.ring.find? fun x => x.1 == c && x.2.1 == p with
    | none => none
    | some x =>
      if x.2.2 = f ∨ crc32 (flitBytes f) ≠ f.crc then some { s with ring := dropFirst s.ring c p } else none

/-- A flit at a port in UP: one that fails its CRC is counted and NAKed; a good one gives its credits and acknowledgement, and then
its type decides. -/
def State.takeFlit (s : State) (c : Chan) (p : Port) (f : Flit) : State :=
  if crc32 (flitBytes f) ≠ f.crc then
    let r := (s.chan c).port p
    let s := (s.modChan c fun ch => ch.setPort p r.wantNak).ccount c (portOff p) 4 1
    s.event c { unit := 0x38 + p.val, num := 0x0940, pay := payAt 8 r.rxNext.toNat }
  else
    let s := s.modChan c fun ch => ch.modPort p fun r => r.takeFields s.tclk f
    match f.type with
    | 0 => s
    | 1 => s.takeData c p f
    | 3 => (s.modChan c fun ch => ch.modPort p (·.takeNak (BitVec.ofNat 16 (leField f.payload 0 2)))).replay c p
    | _ => s.forbidden c p

/-- FLIT_RECEIVED (R82, R85, R86). -/
def execFlitReceived (c : Chan) (p : Port) (f : Flit) (s : State) : Host.Outcome State Fault Refusal :=
  s.whenChan c fun s =>
    if !(s.chan c).portUp p then .next s
    else match s.arrive c p f with
      | some s => .next (s.takeFlit c p f)
      | none => .next s

end Sys2Proof.Machine
end

