-- ==== Sys2Proof/Machine/Stop.lean ====
section
/-! DEFINITION. Stop and release, their spread over the module and SYNC, the test port, the Seal fuse and the Daybooks
(R191, R208 to R224, R239 to R247). -/

namespace Sys2Proof.Machine

open Sys2Proof

/-! ## The test port's view of a scan (R216, R218) -/

/-- The opcode of SCAN_OUT. -/
def opScanOut : Byte := 0x20

/-- SCAN_ACTIVE (R218). -/
def Tap.scanActive (t : Tap) : Bool :=
  t.ir == opScanOut && t.ctl != .runTestIdle && t.ctl != .testLogicReset

/-- The scan chain's length in bits (R217). -/
def chainLength : Nat := 9437184

/-- The shift count is compared with the chain length (R218). -/
def Tap.judge (t : Tap) : Tap :=
  if t.scanActive && t.shifts % chainLength != 0 then { t with partialScan := true } else t

/-- SCAN_OUT is no longer allowed: the instruction behaves as BYPASS (R216, R221). -/
def Tap.leaveScan (t : Tap) : Tap := if t.ir = opScanOut then { t.judge with ir := 0xFF } else t

/-! ## Release (R210, R211) -/

/-- The Chute resumes: what the stop has left in the queues is staged, then each ring shows the stop as a GAP from its last
record (R169, R246). -/
def Channel.resumeChute (ch : Channel) (now : T64) (tclk : Nat) : Channel :=
  if ch.tracing then
    let ch := ch.mergeAll now tclk ch.queued
    let ch := allSlots.foldl (fun (ch : Channel) i => ch.modOwner i fun o =>
      if o.trace.routing && o.ts.silent.isNone then { o with ts := { o.ts with silent := some (5, o.ts.lastT) } } else o) ch
    ch.resumeTrace now tclk
  else ch

/-- Hatches are emptied and Stillroom accumulators cleared (R210). -/
def Channel.clearCompute (ch : Channel) : Channel :=
  { ch with hatches := Vector.replicate 16 [], stills := Vector.replicate 2 Still.reset }

/-- The release of a STOPPED channel (R210, R211). -/
def State.releaseStop (s : State) (c : Chan) : State :=
  let s := s.modChan c fun ch =>
    { ch.clearCompute with
      tap := ch.tap.leaveScan, stop := { ch.stop with st := 0, drained := false, eventHit := false, flight := [] } }
  let s := s.endJobs c (fun _ => true) statusStopped decStopped
  (s.modChan c fun ch => ch.resumeChute s.now s.tclk).raiseIrq c irqStop

/-- A release is accepted: STOPPED, no scan-out active, SCAN_PARTIAL clear (R210). -/
def Channel.mayRelease (ch : Channel) : Bool :=
  ch.stop.st == 2 && !ch.tap.scanActive && !ch.tap.partialScan

/-! ## Stop and release commands (R208, R210) -/

/-- STOP_CTRL_STOP. -/
def execStopCtrlStop (c : Chan) (s : State) : Host.Outcome State Fault Refusal :=
  s.whenHost c fun s => .next ((s.access .bar0 c 0x10).requestStop c 1)

/-- STOP_CTRL_RELEASE (R210): a refused release changes nothing. -/
def execStopCtrlRelease (c : Chan) (s : State) : Host.Outcome State Fault Refusal :=
  s.whenHost c fun s =>
    let s := s.access .bar0 c 0x10
    .next (if (s.chan c).mayRelease then s.releaseStop c else s)

/-- Commit of 0x8400:01. -/
def channelStopCommit (c : Chan) (v : Nat) : Commit := fun s =>
  if v = 1 then (0, s.requestStop c 2)
  else if (s.chan c).mayRelease then (0, s.releaseStop c) else (abortConflict, s)

/-- CHANNEL_STOP_COMMAND. -/
def execChannelStopCommand (p : Path) (c : Chan) (s : State) : Host.Outcome State Fault Refusal :=
  s.writeRow p (chanIndex c 0x400) 1 [1] (channelStopCommit c 1)

/-- CHANNEL_RELEASE_COMMAND. -/
def execChannelReleaseCommand (p : Path) (c : Chan) (s : State) : Host.Outcome State Fault Refusal :=
  s.writeRow p (chanIndex c 0x400) 1 [2] (channelStopCommit c 2)

/-! ## The stop across the module (R213, R214) -/

/-- A falling edge on STOP_N: each channel with 0x8400:0A set stops with code 3. -/
def State.stopNEdge (s : State) : State :=
  let s := { s with pins := { s.pins with stopNLow := some s.tclk, stopNStuck := false } }
  s.eachChan fun s c => if s.con c 0x400 0x0A then s.requestStop c 3 else s

/-- The Reeve drives STOP_N low for 1 µs; a line that it already holds low, or that a fault holds low, has no second falling edge
(R213, R214, R247). -/
def State.driveStopN (s : State) : State :=
  let held := s.pins.stopNEnd.isSome
  let s := { s with pins := { s.pins with stopNEnd := some (s.tclk + tclkOfUs 1) } }
  if held then s
  else
    let s := s.emit (.pin 0 0 0 false)
    if s.pins.stopNStuck then s else s.stopNEdge

/-- The cause of the last spread and MODULE_STOP. -/
def State.recordSpread (s : State) (cause : Nat) : State :=
  (s.mput 0x4020 3 (w cause)).moduleEvent { unit := 0xF0, num := 0x1003, pay := payAt 8 cause }

/-- A spread asked by channel c with PROPAGATE set, on a source with code 1, 2 or 6 to 9 (R213). -/
def State.spread (s : State) (c : Chan) : State :=
  let code := (s.chan c).stop.source
  let asks := s.con c 0x400 5 && (code == 1 || code == 2 || decide (6 ≤ code))
  if asks && s.reeveUp then
    let s := (s.recordSpread (0x10 + c.val)).driveStopN
    if s.mon 0x4020 1 then s.originate 32 else s
  else s

/-- Commit of 0x4020:02 (R210, R213). -/
def moduleStopCommit (v : Nat) : Commit := fun s =>
  if v = 1 then
    let s := s.eachChan fun s c => s.requestStop c 5
    let s := s.recordSpread 5
    let s := if s.mon 0x4020 5 then s.driveStopN else s
    (0, if s.mon 0x4020 1 then s.originate 32 else s)
  else if s.chans.toList.any fun ch => ch.stop.st == 2 && !ch.mayRelease then (abortConflict, s)
  else (0, s.eachChan fun s c => if (s.chan c).mayRelease then s.releaseStop c else s)

/-- MODULE_STOP_COMMAND. -/
def execModuleStopCommand (p : Path) (s : State) : Host.Outcome State Fault Refusal :=
  s.writeRow p 0x4020 2 [1] (moduleStopCommit 1)

/-- MODULE_RELEASE_COMMAND. -/
def execModuleReleaseCommand (p : Path) (s : State) : Host.Outcome State Fault Refusal :=
  s.writeRow p 0x4020 2 [2] (moduleStopCommit 2)

/-- STOP_N_FALL (R214). -/
def execStopNFall (s : State) : Host.Outcome State Fault Refusal := s.whenLive fun s => .next s.stopNEdge

/-- STOP_N_PULSE_END (R213). -/
def execStopNPulseEnd (s : State) : Host.Outcome State Fault Refusal :=
  s.whenReeve fun s =>
    match s.pins.stopNEnd with
    | some t =>
      if t ≤ s.tclk then .next ({ s with pins := { s.pins with stopNEnd := none } }.emit (.pin 0 0 0 true)) else .next s
    | none => .next s

/-- STOP_N_STUCK (R247): low for more than 10 µs. -/
def execStopNStuck (s : State) : Host.Outcome State Fault Refusal :=
  s.whenReeve fun s =>
    match s.pins.stopNLow with
    | some t => 
      if t + tclkOfUs 10 < s.tclk then
        .next { s.morBits 0x4020 4 1 with pins := { s.pins with stopNStuck := true } }
      else .next s
    | none => .next s

/-! ## Armed stops (R208, R209) -/

/-- Commit of 0x8400:09 (R190, R209). -/
def stopTimeCommit (c : Chan) (v : T64) : Commit := fun s =>
  (0, s.modChan c fun ch =>
    let ch := ch.put 0x400 9 v
    { ch with stop := { ch.stop with timeArmed := true, timeLate := decide (v.toNat ≤ s.now.toNat) } })

/-- STOP_TIME_ARM. -/
def execStopTimeArm (p : Path) (c : Chan) (v : T64) (s : State) : Host.Outcome State Fault Refusal :=
  s.writeRow p (chanIndex c 0x400) 9 (leBytes 8 v.toNat) (stopTimeCommit c v)

/-- STOP_TIME_FIRE (R209): it disarms as it fires, and stops the channel where bit 2 of the arm mask is set. -/
def execStopTimeFire (c : Chan) (s : State) : Host.Outcome State Fault Refusal :=
  s.whenChan c fun s =>
    let ch := s.chan c
    if ch.stop.timeArmed = true ∧ (ch.get 0x400 9).toNat ≤ s.now.toNat then
      let ch' := if ch.stop.timeLate then ch.orBits 0x400 0x0B 8 else ch
      let s := s.setChan c { ch' with stop := { ch'.stop with timeArmed := false, timeLate := false } }
      .next (if bitOf (ch.get 0x400 7) 2 then s.requestStop c 8 else s)
    else .next s

/-- STOP_EVENT_MATCH (R208): the event number of 0x8400:08 has occurred with bit 1 of the arm mask set. -/
def execStopEventMatch (c : Chan) (s : State) : Host.Outcome State Fault Refusal :=
  s.whenChan c fun s =>
    if (s.chan c).stop.eventHit then
      .next ((s.modChan c fun ch => { ch with stop := { ch.stop with eventHit := false } }).requestStop c 7)
    else .next s

/-! ## STOPPING to STOPPED (R210, R215) -/

/-- Every CORE unit has halted: halt time, count, CHANNEL_STOP, and the spread that the channel asks for. -/
def State.halted (s : State) (c : Chan) : State :=
  let s := s.modChan c fun ch =>
    (({ ch with stop := { ch.stop with st := 2 } }).put 0x400 4 s.now).count 0x400 6 1
  let s := s.event c { unit := 0x3E, num := 0x0C03, pay := payAt 8 (s.chan c).stop.source }
  (s.raiseIrq c irqStop).spread c

/-- Every DMA engine stands at its boundary, or has been abandoned with the upstream link or a failed GCM engine (R215, R272). -/
def Channel.dmaHalted (ch : Channel) : Bool :=
  ch.fetching.isNone && (ch.stop.flight.isEmpty || ch.host.linkDown || ch.chute.gcmFault)

/-- DMA_DRAINED (R215): blocks and a fetch that had begun are complete. -/
def execDmaDrained (c : Chan) (s : State) : Host.Outcome State Fault Refusal :=
  s.whenChan c fun s =>
    let ch := s.chan c
    if ch.stop.st = 2 ∧ ch.dmaHalted = true then
      .next (s.setChan c { ch with stop := { ch.stop with drained := true } })
    else .next s

/-! ## SYNC_IN stop pulses (R191, R208) -/

/-- A pulse still high at its 24th TCLK is a stop: channels with 0x8400:0A set stop with code 4 on the edge of the
provisional freeze; every other provisional freeze is discarded. -/
def State.syncStop (s : State) : State :=
  let s := { s with pins := { s.pins with syncStop := true } }
  (s.eachChan fun s c => if s.con c 0x400 0x0A then s.requestStop c 4 else s).dropProvisional

/-- SYNC_STOP_RECOGNISED. -/
def execSyncStopRecognised (s : State) : Host.Outcome State Fault Refusal :=
  s.whenLive fun s =>
    match s.pins.syncRise with
    | some t =>
      if !s.pins.syncStop && !s.pins.syncIgnored && decide (t + 24 ≤ s.tclk) then .next s.syncStop else .next s
    | none => .next s

/-- SYNC_IN_FALL (R191, R192). -/
def execSyncInFall (s : State) : Host.Outcome State Fault Refusal :=
  s.whenLive fun s =>
    match s.pins.syncRise with
    | none => .next s
    | some t =>
      let width := s.tclk - t
      let s := if s.mayRepeat && !s.pins.syncIgnored then s.syncOut false else s
      let s := if s.pins.syncIgnored || s.pins.syncStop then s
        else if 24 ≤ width then s.syncStop else s.classifySync width
      .next { s with pins := { s.pins with syncRise := none, syncStop := false, syncIgnored := false } }

/-! ## The test port (R216 to R218, R243) -/

/-- The TAP controller of IEEE 1149.1 (R216). -/
def TapSt.next (t : TapSt) (tms : Bool) : TapSt :=
  match t with
  | .testLogicReset => if tms then .testLogicReset else .runTestIdle
  | .runTestIdle => if tms then .selectDr else .runTestIdle
  | .selectDr => if tms then .selectIr else .captureDr
  | .captureDr => if tms then .exit1Dr else .shiftDr
  | .shiftDr => if tms then .exit1Dr else .shiftDr
  | .exit1Dr => if tms then .updateDr else .pauseDr
  | .pauseDr => if tms then .exit2Dr else .pauseDr
  | .exit2Dr => if tms then .updateDr else .shiftDr
  | .updateDr => if tms then .selectDr else .runTestIdle
  | .selectIr => if tms then .testLogicReset else .captureIr
  | .captureIr => if tms then .exit1Ir else .shiftIr
  | .shiftIr => if tms then .exit1Ir else .shiftIr
  | .exit1Ir => if tms then .updateIr else .pauseIr
  | .pauseIr => if tms then .exit2Ir else .pauseIr
  | .exit2Ir => if tms then .updateIr else .shiftIr
  | .updateIr => if tms then .selectDr else .runTestIdle

/-- The instruction that an opcode selects: one outside the table selects BYPASS (R216). -/
def tapInstruction (op : Byte) : Byte :=
  if op == 0x00 || op == 0x01 || op == 0x02 || op == 0x20 || op == 0x21 then op else 0xFF

/-- The SEAL_STATUS data register (R216). -/
def Channel.sealStatus (ch : Channel) : Nat :=
  ch.tap.fuse + (if ch.stop.st = 2 then 4 else 0) + (if ch.tap.refused then 8 else 0) +
  (if ch.tap.partialScan then 16 else 0)

/-- Test-Logic-Reset: a scan ends, REFUSED clears, IDCODE is selected (R216, R218, R243). -/
def Tap.reset_ (t : Tap) : Tap :=
  { t.judge with ctl := .testLogicReset, ir := 1, refused := false }

/-- A new instruction (R216, R218, R221): SCAN_OUT only in a STOPPED channel whose Seal is intact; a refused one behaves as
BYPASS and sets REFUSED. -/
def Channel.selectInstruction (ch : Channel) (op : Byte) : Channel :=
  let i := tapInstruction op
  let allowed := decide (ch.tap.fuse = 0 ∧ ch.stop.st = 2)
  let ir : Byte := if i = opScanOut && !allowed then 0xFF else i
  let t := if ir = ch.tap.ir then ch.tap else ch.tap.judge
  let t := { t with ctl := .updateIr, ir := ir }
  if i ≠ opScanOut then { ch with tap := t }
  else if allowed then
    { ch with tap := { t with refused := false, shifts := if ch.tap.ir = opScanOut then t.shifts else 0 } }
  else { ch with tap := { t with refused := true } }

/-- TAP_INSTRUCTION_UPDATE (R216): the controller stands in Update-IR with the opcode shifted in. -/
def execTapInstructionUpdate (c : Chan) (op : Byte) (s : State) : Host.Outcome State Fault Refusal :=
  s.whenChan c fun s => .next (s.modChan c fun ch => if ch.tap.trst then ch else ch.selectInstruction op)

/-- SCAN_END (R218): the controller enters Run-Test/Idle. -/
def execScanEnd (c : Chan) (s : State) : Host.Outcome State Fault Refusal :=
  s.whenChan c fun s =>
    .next (s.modChan c fun ch =>
      if ch.tap.scanActive then { ch with tap := { ch.tap.judge with ctl := .runTestIdle } } else ch)

/-- TAP_RESET (R26, R216, R243): TAP_TRST_N at a level; low holds the test logic in reset. -/
def execTapReset (c : Chan) (level : Bool) (s : State) : Host.Outcome State Fault Refusal :=
  s.whenChan c fun s => .next (s.modChan c fun ch =>
    { ch with tap := if level then { ch.tap with trst := false } else { ch.tap.reset_ with trst := true } })

/-! ### The scan chain (R217, R219) -/

/-- A Daybook entry of 24 bytes (R222). -/
def entryBytes (e : DayEntry) : Bytes :=
  leBytes 2 e.event.toNat ++ [e.unit, e.flags] ++ leBytes 4 e.seq.toNat ++ leBytes 8 e.stamp.toNat ++
  leBytes 8 e.payload.toNat

/-- The DAYBOOKS of the channel: 35 units of an 8-byte header and 64 entries in ring order (R228). -/
def Channel.daybooksText (ch : Channel) : Bytes :=
  channelUnits.flatMap fun u =>
    let d := ch.daybook (BitVec.ofNat 8 u)
    [BitVec.ofNat 8 u, BitVec.ofNat 8 d.entries.length, BitVec.ofNat 8 (d.seq.toNat % 64), BitVec.ofNat 8 (ch.nat 0x402 4)] ++
      zeros 4 ++
    (List.range 64).flatMap fun i =>
      match d.entries.find? (fun e => e.seq.toNat % 64 == i) with
      | some e => entryBytes e
      | none => zeros 24

/-- A Slate entry of 16 bytes (R228). -/
def tileBytes (t : Tile) : Bytes := leBytes 4 t.k ++ leBytes 4 t.cycle ++ leBytes 8 t.deadline.toNat

/-- Stillroom accumulators: wide words and Welford lanes. -/
def Still.text (st : Still) : Bytes :=
  (st.acc.flatMap fun a => leBytes 6 a.toNat) ++
  st.lanes.flatMap fun l => leBytes 4 l.1.toNat ++ leBytes 4 l.2.1.toNat ++ leBytes 4 l.2.2.toNat

/-- What R217 names of the chain's contents: Hatch arrays, Slate, Daybooks, Stillroom accumulators. -/
def Channel.scanText (ch : Channel) : Bytes :=
  (ch.hatches.toList.flatMap fun h => padTo h 4096) ++ ch.slate.flatMap tileBytes ++ ch.daybooksText ++
  ch.stills.toList.flatMap Still.text

/-- The bit at a position of the chain of channel c (R217, R219): a bit of the text, or another flop's. -/
def Channel.chainBit (ch : Channel) (c : Chan) (pos : Nat) : Bool :=
  let k := Config.scanPlace pos
  match ch.scanText[k / 8]? with
  | some b => b.getLsbD (k % 8)
  | none => Config.scanFlop c.val ch.stop.since pos

/-! ### A TCK edge (R216, R217) -/

/-- What a capture state loads (R216): IDCODE, SEAL_STATUS, a bypass bit of 0, 0b0000_0001 for the instruction register;
boundary cells are not stated (log entry 10). -/
def State.tapCapture (s : State) (c : Chan) : BitVec 32 :=
  let ch := s.chan c
  if ch.tap.ctl = .captureIr then 1
  else if ch.tap.ir = 0x01 then BitVec.ofNat 32 (s.reeve.factory.steppings.getD c.val 0 * 2 ^ 28 + 0x0A8F60D3)
  else if ch.tap.ir = 0x21 then BitVec.ofNat 32 ch.sealStatus
  else if ch.tap.ir = 0xFF then 0
  else BitVec.ofNat 32 (s.freeIn 0 0xFFFFFFFF)

/-- Bits of the register between TDI and TDO; none for the boundary scan, whose length the manual leaves to its description
file. -/
def Tap.width (t : Tap) : Option Nat :=
  if t.ctl = .shiftIr then some 8
  else if t.ir = 0x01 then some 32
  else if t.ir = 0x21 then some 8
  else if t.ir = 0xFF then some 1
  else none

/-- The register shifts by one bit: TDI enters at its top. -/
def Tap.shift (t : Tap) (width : Nat) (tdi : Bool) : Tap :=
  { t with sr := (t.sr >>> 1) ||| (if tdi then BitVec.ofNat 32 (2 ^ (width - 1)) else 0) }

/-- One TCK edge before the controller moves: captures, shifts, and the rotation of the scan chain, which ignores TDI. -/
def State.tapEdge (s : State) (c : Chan) (tdi : Bool) : State :=
  let ch := s.chan c
  let t := ch.tap
  match t.ctl with
  | .captureDr | .captureIr => (s.modChan c fun ch => { ch with tap := { t with sr := s.tapCapture c } }).drawn
  | .shiftDr | .shiftIr =>
    if t.ctl = .shiftDr ∧ t.ir = opScanOut then
      (s.modChan c fun ch => { ch with tap := { t with shifts := t.shifts + 1, rot := (t.rot + 1) % chainLength } }).emit
        (.tdo c (ch.chainBit c t.rot))
    else
      match t.width with
      | some n => (s.modChan c fun ch => { ch with tap := t.shift n tdi }).emit (.tdo c (t.sr.getLsbD 0))
      | none => s.drawn.emit (.tdo c (s.freeIn 0 1 == 1))
  | _ => s

/-- The controller moves to a state (R216, R218). -/
def Channel.tapMove (ch : Channel) (n : TapSt) : Channel :=
  match n with
  | .testLogicReset => { ch with tap := ch.tap.reset_ }
  | .runTestIdle => { ch with tap := { ch.tap.judge with ctl := n } }
  | .updateIr => ch.selectInstruction (ch.tap.sr.setWidth 8)
  | n => { ch with tap := { ch.tap with ctl := n } }

/-- SCAN_SHIFT (R216 to R218): a TCK edge, with TMS and TDI; none while TAP_TRST_N is low. -/
def execScanShift (c : Chan) (tms tdi : Bool) (s : State) : Host.Outcome State Fault Refusal :=
  s.whenChan c fun s =>
    let t := (s.chan c).tap
    if t.trst then .next s
    else .next ((s.tapEdge c tdi).modChan c (·.tapMove (t.ctl.next tms)))

/-! ## The Seal fuse (R220, R242, R247) -/

/-- Commit of 0x8401:02. -/
def sealGuardCommit (c : Chan) : Commit := commitOk fun s =>
  s.modChan c fun ch => { ch with tap := { ch.tap with guardEnd := some (s.tclk + tclkOfS 1) } }

/-- SEAL_GUARD_WRITE. -/
def execSealGuardWrite (p : Path) (c : Chan) (v : BitVec 16) (s : State) : Host.Outcome State Fault Refusal :=
  s.writeRow p (chanIndex c 0x401) 2 (leBytes 2 v.toNat)
    (sealGuardCommit c)

/-- Commit of 0x8401:03 (R220). -/
def sealBlowCommit (c : Chan) : Commit := fun s =>
  let t := (s.chan c).tap
  let guarded := match t.guardEnd with | some e => decide (s.tclk ≤ e) | none => false
  if !guarded || t.scanActive || s.reeve.serviceKey.isNone || t.fuse != 0 then (abortConflict, s)
  else (0, s.modChan c fun ch =>
    { ch with tap := { t.leaveScan with fuse := 1, guardEnd := none, senseAt := some (s.tclk + tclkOfMs 50) } })

/-- SEAL_BLOW. -/
def execSealBlow (p : Path) (c : Chan) (s : State) : Host.Outcome State Fault Refusal :=
  s.writeRow p (chanIndex c 0x401) 3 [1] (sealBlowCommit c)

/-- SEAL_SENSE (R220): 50 ms after the blow. -/
def execSealSense (c : Chan) (blown : Bool) (s : State) : Host.Outcome State Fault Refusal :=
  s.whenChan c fun s =>
    let ch := s.chan c
    match ch.tap.senseAt with
    | some t =>
      if t ≤ s.tclk then
        let ch := { ch with tap := { ch.tap with fuse := if blown then 2 else 0, senseAt := none } }
        .next (s.setChan c (if blown then ch else ch.orBits 0x401 6 1))
      else .next s
    | none => .next s

/-! ## Daybooks (R223) -/

/-- Every Daybook is emptied; its sequence goes on counting since power-on (R222, R223). -/
def Channel.clearDaybooks (ch : Channel) : Channel :=
  { ch with daybooks := ch.daybooks.map fun (d : Byte × Daybook) => (d.1, { d.2 with entries := [] }) }

/-- DAYBOOK_CLEAR. -/
def execDaybookClear (p : Path) (c : Chan) (s : State) : Host.Outcome State Fault Refusal :=
  s.writeRow p (chanIndex c 0x402) 5 [1] (commitOk fun s => s.modChan c (·.clearDaybooks))

end Sys2Proof.Machine
end

