-- ==== Sys2Proof/Machine/Keys.lean ====
section
/-! DEFINITION. Owner slots and keys: blobs, installation, retirement and their failures; the service key (R248 to R255,
R265 to R272). -/

namespace Sys2Proof.Machine

open Sys2Proof

/-! ## Key blobs (R249, R251) -/

/-- What checks 2 to 5 of R251 compare a blob with. -/
structure BlobTarget where
  channel : Nat
  slot : Nat
  busy : Bool
  floor : Nat
deriving Repr

/-- Blob codes of 0x8610 + s:07. -/
def blobBadFormat : Nat := 1
def blobWrongTarget : Nat := 2
def blobStale : Nat := 3
def blobAuthFail : Nat := 4
def blobBusy : Nat := 5

/-- The key that a blob unwraps to under the KEK. -/
def unwrapKey (b : Bytes) : Option (BitVec 256) :=
  (gcmOpen (keyBytes Config.kek) (slice b 12 12) (b.take 24) (slice b 24 32) (slice b 56 16)).map keyOf

/-- The checks of R251 in order: code and abort, or the key with its generation. -/
def checkBlob (t : BlobTarget) (b : Bytes) : Except (Nat × AbortCode) (BitVec 256 × BitVec 32) :=
  let gen := leField b 4 4
  if b.length ≠ 72 then .error (blobBadFormat, abortLength)
  else if leField b 0 1 ≠ 1 ∨ leField b 3 1 ≠ 0 ∨ leField b 8 4 ≠ 0 then .error (blobBadFormat, abortInvalid)
  else if leField b 1 1 ≠ t.channel ∨ leField b 2 1 ≠ t.slot then .error (blobWrongTarget, abortInvalid)
  else if t.busy then .error (blobBusy, abortConflict)
  else if gen ≤ t.floor then .error (blobStale, abortKey)
  else match unwrapKey b with
    | none => .error (blobAuthFail, abortKey)
    | some k => .ok (k, BitVec.ofNat 32 gen)

/-! ## Slots -/

/-- Offset of a slot's key object, and of its trace object. -/
def keyOff (i : Slot) : Nat := 0x610 + i.val
def traceOff (i : Slot) : Nat := 0x320 + i.val

/-- Bit s of a permission mask is cleared (R149, R229, R254, R263, R283). -/
def Channel.clearMask (ch : Channel) (off : Nat) (i : Slot) : Channel := ch.clearBits off 0 (w (2 ^ i.val))

/-- The permissions that retirement clears (R254). -/
def Channel.clearPermissions (ch : Channel) (i : Slot) : Channel :=
  [0x201, 0x301, 0x403, 0x601].foldl (fun ch off => ch.clearMask off i) ch

/-- Decant points of the slot are disarmed without further records (R245). -/
def Channel.disarmOwner (ch : Channel) (i : Slot) : Channel :=
  { ch with dbg := { ch.dbg with pts := ch.dbg.pts.map fun (p : DecantPt) =>
      if p.owner = i then { p.idle with armed := false } else p } }

/-- Retirement of slot s begins (R105, R245, R248, R254): queued jobs end REJ_CANCELLED. -/
def State.startRetirement (s : State) (c : Chan) (i : Slot) : State :=
  let s := s.modChan c fun ch =>
    ((ch.modOwner i fun o => { o with st := .retiring }).disarmOwner i).sealStream .decant i
  ((s.chan c).jobs.filter fun j => j.owner == i && !j.running).foldl
    (fun s j => s.rejectJob c j rejCancelled) (s.raiseIrq c irqKey)

/-- Conditions of R254 still open: bit 0 jobs, 1 result, 2 trace, 3 decant. -/
def Channel.openConditions (ch : Channel) (i : Slot) : Nat :=
  let o := ch.owner i
  let jobs := ch.jobs.any fun j => j.owner == i
  let result := (ch.completions.any fun x => x.slot == i) || !o.rs.buf.isEmpty || !o.rs.sealedQ.isEmpty
  let due := o.trace.routing &&
    ((ch.waiting.any fun r => r.owner == some i) || !o.ts.wait.isEmpty || !o.ts.loss.isEmpty || o.ts.gap.isSome)
  let trace := due || !o.ts.recs.isEmpty || !o.ts.sealedQ.isEmpty
  let decant := !o.ds.buf.isEmpty || !o.ds.sealedQ.isEmpty ||
    ch.dbg.caps.any fun x => match x with | some (k : Capture) => k.owner == i | none => false
  (if jobs then 1 else 0) + (if result then 2 else 0) + (if trace then 4 else 0) + (if decant then 8 else 0)

/-- A ring is deactivated with ENABLE cleared; base and size stay (R254). -/
def Ring.off (r : Ring) : Ring := { r with enable := false, active := false, reenable := false }

/-- A load of slot i that is in progress goes on with the image under the key that is destroyed now (R267). -/
def Channel.orphanLoad (ch : Channel) (c : Chan) (i : Slot) : Channel :=
  match ch.loading with
  | some r =>
    if r.owner = i ∧ r.image = none then
      { ch with loading := some { r with image := some (ch.cellarRead c i r.off r.len, (ch.whtKey c i).getD 0) } }
    else ch
  | none => ch

/-- Records of a slot that are still on their way to the Chute as its key goes, for a ring that takes none or at a parity error, are
discarded: no later key may seal them (R265, R272). -/
def Channel.discardQueued (ch : Channel) (i : Slot) : Channel :=
  let keep := fun (r : Rec) => r.owner != some i
  { ch with chute := { ch.chute with
      srcQ := (ch.chute.srcQ.map fun q => (q.1, q.2.filter keep)).filter fun q => !q.2.isEmpty
      held := ch.chute.held.filter keep, tally := ch.chute.tally.filter keep } }

/-- The slot's key is gone: plans unloaded, rings off, permissions and trace settings cleared (R254). -/
def State.dropKey (s : State) (c : Chan) (i : Slot) : State :=
  let s := s.modChan c fun ch => ((ch.orphanLoad c i).discardQueued i).modOwner i fun o =>
    { o with
      st := .empty, key := none, job := o.job.off, result := o.result.off, trace := o.trace.off
      decant := o.decant.off, ts := { o.ts with loss := [], gap := none, wait := [], silent := none } }
  let s := (s.event c { unit := 0x42, num := 0x0F01, pay := payAt 8 i.val }).raiseIrq c irqKey
  let s := (List.finRange 16).foldl
    (fun s p => if ((s.chan c).plan p).owner = i then s.unloadPlan c p else s) s
  s.modChan c fun ch =>
    let ch := ch.clearPermissions i
    { ch with dict := ch.dict.filter fun e => e.1 != dkey (traceOff i) 1 && e.1 != dkey (traceOff i) 2 }

/-- RETIREMENT_COMPLETE (R248, R254, R265): what waits for the trace ring is written and open blocks are sealed under the old key;
once nothing is left, and no descriptor of the slot is being fetched, the key is destroyed and a pending key is installed. -/
def execRetirementComplete (c : Chan) (i : Slot) (s : State) : Host.Outcome State Fault Refusal :=
  s.whenChan c fun s =>
    let ch := s.chan c
    let o := ch.owner i
    if o.st ≠ .retiring ∨ ch.fetching = some i then .next s
    else if ch.openConditions i = 0 then
      if o.pendKey.isSome && ch.install.isSome then .next s
      else
        let s := s.dropKey c i
        .next (if o.pendKey.isSome then s.modChan c fun ch => { ch with install := some i } else s)
    else if ch.openConditions i % 4 = 0 then
      .next (s.setChan c ((ch.disableTrace s.now s.tclk i).sealStream .decant i))
    else .next s

/-- The key is in the slot (R149, R151, R248, R263, R283): sequences start at 0, permissions are clear, enabled rings
may become ACTIVE. -/
def Channel.installKey (ch : Channel) (c : Chan) (i : Slot) (k : Key) : Channel :=
  let k := { k with stream := streamKey c i k }
  let ch := ch.modOwner i fun o =>
    { o with
      st := .keyed, key := some k, pendKey := none, compSeq := 0, decSeq := 0
      result := o.result.settle true, trace := o.trace.settle true, decant := o.decant.settle true }
  let ch := (ch.clearPermissions i).clearMask 0x602 i
  let ch := ((ch.put (traceOff i) 3 0).put (traceOff i) 4 0).put (traceOff i) 5 0
  { (ch.put (keyOff i) 3 (w (keyCheck k.key).toNat)).put (keyOff i) 4 (w k.gen.toNat) with install := none }

/-- KEY_INSTALLED (R248): the unwrapped key is in its slot, within 50 µs. -/
def execKeyInstalled (c : Chan) (s : State) : Host.Outcome State Fault Refusal :=
  s.whenChan c fun s =>
    match (s.chan c).install with
    | some i =>
      match ((s.chan c).owner i).pendKey with
      | some k =>
        let s := s.modChan c (·.installKey c i k)
        .next ((s.event c { unit := 0x42, num := 0x0F00, pay := payAt 8 i.val }).raiseIrq c irqKey)
      | none => .next (s.modChan c fun ch => { ch with install := none })
    | none => .next s

/-- A blob that passed is used (R248, R251): the floor rises first. -/
def State.acceptBlob (s : State) (c : Chan) (i : Slot) (k : BitVec 256) (gen : BitVec 32) : State :=
  let s := (s.cputSaved c 0x600 2 (w gen.toNat)).cput c (keyOff i) 7 0
  let key : Key := { key := k, gen := gen, stream := 0 }
  let st := ((s.chan c).owner i).st
  let s := s.modChan c fun ch => ch.modOwner i fun o => { o with pendKey := some key }
  if st = .keyed then s.startRetirement c i else s.modChan c fun ch => { ch with install := some i }

/-- Checks 1 to 5 of R251 and their effects; they take the place of steps 7 to 11 of R361. -/
def keyBlobCommit (c : Chan) (i : Slot) (blob : Bytes) : Commit := fun s =>
  let ch := s.chan c
  let t : BlobTarget := {
    channel := c.val, slot := i.val, busy := (ch.owner i).st == .retiring || ch.install.isSome, floor := ch.nat 0x600 2 }
  match checkBlob t blob with
  | .ok (k, gen) => (0, s.acceptBlob c i k gen)
  | .error (code, abort) =>
    let s := s.cput c (keyOff i) 7 (w code)
    if code = blobAuthFail then
      (abort, (s.ccount c 0x600 4 1).event c { unit := 0x42, num := 0x0F02, pay := payAt 8 i.val })
    else (abort, s)

/-- A write whose checks 7 to 10 the object itself replaces (R251). -/
def State.writeBlob (s : State) (p : Path) (idx sub : Nat) (commit : Commit) : AbortCode × State :=
  match s.checkAccess p idx sub with
  | .error e => (e, s)
  | .ok (pl, m) =>
    match commit s with
    | (code, s') => if code = 0 then (0, s'.committed pl m idx sub) else (code, s')

/-- KEY_BLOB_WRITE. -/
def execKeyBlobWrite (p : Path) (c : Chan) (i : Slot) (blob : Bytes) (s : State) : Host.Outcome State Fault Refusal :=
  if !s.pathUp p then .next s
  else
    match s.writeBlob p (chanIndex c (keyOff i)) 2 (keyBlobCommit c i blob) with
    | (code, s') => .next (s'.answer code)

/-- KEY_DESTROY (R248): retirement of a KEYED slot begins; in any other state nothing follows. -/
def keyDestroyCommit (c : Chan) (i : Slot) : Commit :=
  commitOk fun s => if ((s.chan c).owner i).st = .keyed then s.startRetirement c i else s

def execKeyDestroy (p : Path) (c : Chan) (i : Slot) (s : State) : Host.Outcome State Fault Refusal :=
  s.writeRow p (chanIndex c (keyOff i)) 5 [1] (keyDestroyCommit c i)

/-- Staged data of a slot is discarded (R272, R302). -/
def Channel.discardStaged (ch : Channel) (i : Slot) : Channel :=
  let ch := ch.modOwner i fun o =>
    { o with
      rs := { o.rs with buf := [], first := none, irq := false, sealedQ := [] }
      ds := { o.ds with buf := [], first := none, irq := false, sealedQ := [] }
      ts := { o.ts with recs := [], sealedQ := [] } }
  { ch with
    completions := ch.completions.filter fun x => x.slot != i
    dbg := { ch.dbg with caps := ch.dbg.caps.map fun (x : Option Capture) =>
        match x with | some k => if k.owner = i then none else some k | none => none } }

/-- KEY_SLOT_PARITY_ERROR (R272): the slot is destroyed at once; its jobs end MEMORY_FAIL. -/
def execKeySlotParityError (c : Chan) (i : Slot) (s : State) : Host.Outcome State Fault Refusal :=
  s.whenChan c fun s =>
    if ((s.chan c).owner i).keyed then
      let s := s.modChan c (·.disarmOwner i)
      let s := s.endJobs c (fun j => j.owner == i) statusMemoryFail
      let s := s.modChan c fun ch => (ch.discardStaged i).modOwner i fun o => { o with pendKey := none }
      .next (s.dropKey c i)
    else .next s

/-- Commit of 0x4040:04 (R252): loaded into every channel; the module holds it once. -/
def serviceKeyCommit (blob : Bytes) : Commit := fun s =>
  match checkBlob { channel := 0xFF, slot := 0xFF, busy := false, floor := s.mnat 0x4040 6 } blob with
  | .ok (k, gen) =>
    let s := (s.mputSaved 0x4040 6 (w gen.toNat)).mput 0x4040 2 1
    (0, { s.mput 0x4040 5 (w (keyCheck k).toNat) with reeve := { s.reeve with serviceKey := some k, serviceGen := gen } })
  | .error (_, abort) => (abort, s)

/-- SERVICE_KEY_BLOB_WRITE. -/
def execServiceKeyBlobWrite (p : Path) (blob : Bytes) (s : State) : Host.Outcome State Fault Refusal :=
  if !s.pathUp p then .next s
  else
    match s.writeBlob p 0x4040 4 (serviceKeyCommit blob) with
    | (code, s') => .next (s'.answer code)

/-- CIPHER_FAULT (R272): engine 0 XTS, 1 GCM, 2 whitening.  A GCM fault holds every sealed write and leaves trace under
R171. -/
def execCipherFault (c : Chan) (engine : Fin 3) (s : State) : Host.Outcome State Fault Refusal :=
  s.whenChan c fun s =>
    let s := s.event c { unit := 0x42, num := 0x0F03, pay := payAt 8 engine.val }
    .next (match engine with
      | 0 => (s.modChan c fun ch => { ch with xtsFault := true }).disableCompute c reasonXts
      | 1 =>
        ((s.changeTraceMode c 0 0 3).modChan c fun ch => { ch with chute := { ch.chute with gcmFault := true } }).markSaved
      | _ => (s.modChan c fun ch => { ch with whtFault := true }).disableCompute c reasonWhitening)

end Sys2Proof.Machine
end

