-- ==== Sys2Proof/Machine/Ptp.lean ====
section
/-! DEFINITION. PTP on the field network: the best master clock algorithm, delay exchanges, the master's messages and
the transmit-timestamp queue (R49, R55, R57 to R61, R71). -/

namespace Sys2Proof.Machine

open Sys2Proof

/-! ## Identity and intervals -/

/-- clockIdentity of the module, from its MAC address. -/
def State.clockId (s : State) : BitVec 64 :=
  let m := s.reeve.factory.mac.toNat
  BitVec.ofNat 64 (m / 2 ^ 24 * 2 ^ 40 + 0xFFFE * 2 ^ 24 + m % 2 ^ 24)

/-- 2^log s in ns. -/
def logNs (log : Int) : Nat :=
  if 0 ≤ log then 1000000000 * 2 ^ log.toNat else 1000000000 / 2 ^ (-log).toNat

/-- A signed member. -/
def State.mint (s : State) (idx sub : Nat) : Int := (s.mget idx sub).toInt

/-- PTP runs and a message of the domain is for it (R58). -/
def State.ptpHears (s : State) (domain : Nat) : Bool := s.mon 0x3010 1 && domain == s.mnat 0x3010 2

/-- The slave-only ordinary clock (R58). -/
def State.slaveOnly (s : State) : Bool := s.mon 0x3010 5

/-- Smallest multiple of an interval past T64. -/
def nextMultiple (now : T64) (i : Nat) : T64 := BitVec.ofNat 64 ((now.toNat / i + 1) * i)

/-- The master's Sync interval now, ns: 16 per second during the burst (R59). -/
def State.syncNs (s : State) : Nat := if s.ptp.burstEnd.isSome then 62500000 else logNs (s.mint 0x3010 6)

/-- A receive stamp at the start frame delimiter (R58), within the 20 ns of the PHY crossing that the manual leaves
open. -/
def State.rxStamp (s : State) : T64 × State :=
  (s.now + BitVec.ofNat 64 (s.freeIn 0 40) - 20, s.drawn)

/-! ## Messages sent (R58) -/

/-- A PTP frame: destination 01-1B-19-00-00-00, Ethertype 0x88F7, the 34-byte header and a body. -/
def State.ptpFrame (s : State) (ty : Byte) (flags : Nat) (corr : Int) (seq : BitVec 16) (control : Byte)
    (logInterval : Int) (body : Bytes) : Bytes :=
  [0x01, 0x1B, 0x19, 0, 0, 0, 0x88, 0xF7] ++
  [ty, 0x12] ++ beBytes 2 (34 + body.length) ++ [BitVec.ofNat 8 (s.mnat 0x3010 2), 0] ++ beBytes 2 flags ++
  beBytes 8 (wInt (corr * 65536)).toNat ++ zeros 4 ++ beBytes 8 s.clockId.toNat ++ [0, 1] ++ beBytes 2 seq.toNat ++
  [control, BitVec.ofInt 8 logInterval] ++ body

/-- A PTP timestamp: seconds in 48 bits, ns in 32. -/
def ptpStamp (t : T64) : Bytes := beBytes 6 (t.toNat / 1000000000) ++ beBytes 4 (t.toNat % 1000000000)

/-- A PTP frame is queued. -/
def State.queuePtp (s : State) (bytes : Bytes) (event : Option (Byte × BitVec 16)) : State :=
  s.enqueueTx { cls := if event.isSome then .ptpEvent else .ptpGeneral, bytes := bytes, event := event, session := none }

/-! ## Best master clock algorithm (R58) -/

/-- The module's own data set as master: clockClass 248 (R58).  PRESUMED from IEEE 1588 (log entry 114): clockAccuracy 0xFE and
offsetScaledLogVariance 0xFFFF, both "unknown", timeSource 0xA0, an internal oscillator, and currentUtcOffsetValid always
set. -/
def State.ownAnnounce (s : State) : Announce :=
  { domain := s.mnat 0x3010 2, gm := s.clockId, priority1 := s.mnat 0x3010 3, clockClass := 248,
    clockAccuracy := 0xFE, variance := 0xFFFF, priority2 := s.mnat 0x3010 4, stepsRemoved := 0, sender := s.clockId,
    utcOffset := s.taiOffset, utcValid := true, leap61 := s.leapPending == 1, leap59 := s.leapPending == -1 }

/-- The fields compared, in order. -/
def Announce.ranks (a : Announce) : List Nat :=
  [a.priority1, a.clockClass, a.clockAccuracy, a.variance, a.priority2, a.gm.toNat, a.stepsRemoved, a.sender.toNat]

/-- Lexicographic comparison. -/
def ranksBelow (a b : List Nat) : Bool :=
  match a, b with
  | x :: xs, y :: ys => x < y || (x == y && ranksBelow xs ys)
  | _, _ => false

/-- Data set a is better than b. -/
def betterThan (a b : Announce) : Bool :=
  ranksBelow (Announce.ranks a) (Announce.ranks b)

/-- No master is selected any more.  While ACQUIRING or LOCKED its grandmaster is remembered for the Holdover that follows; in
HOLDOVER the one held before it stays (R55). -/
def Ptp.dropMaster (p : Ptp) (ts : TimeState) : Ptp :=
  { p with
    held := if ts = .acquiring ∨ ts = .locked then (p.master.map (·.gm)).orElse fun _ => p.held else p.held
    master := none }

/-- The module becomes master: the Sync burst of 8 s begins (R59). -/
def State.becomeMaster (s : State) : State :=
  { s with ptp := { s.ptp.dropMaster s.time.ts with
      role := .master
      burstEnd := some (s.tclk + tclkOfS 8), nextSyncT64 := nextMultiple s.now 62500000
      lastAnn := s.tclk - tclkOfNs (logNs (s.mint 0x3010 8)) } }

/-- A master is selected for the time state (R55): it leaves FREE_RUN, and a different grandmaster ends an acquisition
or a lock.  DESIGN CHOICE (log entry 111): with PPS_IN as the source an Announce leaves the time state unchanged. -/
def State.selected (s : State) (old : BitVec 64) (gm : BitVec 64) : State :=
  if s.mon 0x3001 2 then s
  else match s.time.ts with
  | .freeRun => s.acquire true
  | .acquiring | .locked =>
    if old = gm then s
    else
      let s := { s with time := { s.time with allowance := true } }
      let s := (s.timeFlag masterChangedBit).mput 0x3000 6 s.now
      ({ s with ptp := { s.ptp with held := some old } }).setTimeState .holdover
  | .holdover => s

/-- Announce a is that of the selected master.  DESIGN CHOICE (log entry 113): before its first Sync the three intervals of R55
count from the moment it is followed. -/
def State.follow (s : State) (a : Announce) : State :=
  let fresh := match s.ptp.master with | some m => m.sender != a.sender || m.gm != a.gm | none => true
  let old := s.masterId
  let s := { s with ptp := { s.ptp with
      role := .slave, master := some a, lastAnnounce := some s.tclk, burstEnd := none } }
  let s := if fresh then
      { s with ptp := { s.ptp with
          lastSync := some s.tclk, advertised := none
          exch := { s.ptp.exch with t1 := none, t2 := none, t3 := none, t4 := none } } }
    else s
  s.selected old a.gm

/-- The Announce against the present master and the module's own data set. -/
def State.bmca (s : State) (a : Announce) : State :=
  let ownWins := !s.slaveOnly && betterThan s.ownAnnounce a
  match s.ptp.master with
  | some m =>
    if m.sender = a.sender then (if ownWins then s.becomeMaster else s.follow a)
    else if betterThan a m then s.follow a else s
  | none =>
    if ownWins then (if s.ptp.role = .master then s else s.becomeMaster) else s.follow a

/-- UTC offset and leap flags of a valid Announce (R57, R368). -/
def State.copyUtc (s : State) (a : Announce) : State :=
  let s := if a.utcValid then s.setTaiOffset a.utcOffset else s
  let p : Int := if a.leap61 then 1 else if a.leap59 then -1 else 0
  if p = s.leapPending then s else s.setLeap p

/-- ANNOUNCE_RECEIVED (R55, R57, R58, R368). -/
def execAnnounceReceived (a : Announce) (s : State) : Host.Outcome State Fault Refusal :=
  s.whenReeve fun s =>
    if s.ptpHears a.domain && a.sender != s.clockId && decide (a.stepsRemoved < 255) then
      .next ((s.copyUtc a).bmca a)
    else .next s

/-- ANNOUNCE_RECEIPT_TIMEOUT (R58): the algorithm runs again; the time state judges its own loss (R55). -/
def execAnnounceReceiptTimeout (s : State) : Host.Outcome State Fault Refusal :=
  s.whenReeve fun s =>
    let wait := s.mnat 0x3010 9 * tclkOfNs (logNs (s.mint 0x3010 8))
    if s.mon 0x3010 1 = true ∧ s.ptp.role ≠ .master ∧ s.ptp.lastAnnounce.getD 0 + wait ≤ s.tclk then
      let s := { s with ptp := { s.ptp with lastAnnounce := some s.tclk } }
      if s.slaveOnly then
        .next { s with ptp := { s.ptp.dropMaster s.time.ts with role := .listening } }
      else .next s.becomeMaster
    else .next s

/-- TCLK edges of the Sync interval that counts for the loss of the master (R55). -/
def State.lossInterval (s : State) : Nat := tclkOfNs (logNs (s.ptp.advertised.getD (s.mint 0x3010 6)))

/-- MASTER_LOST (R55, R73): three intervals since the last Sync, while PTP is the source. -/
def execMasterLost (s : State) : Host.Outcome State Fault Refusal :=
  s.whenReeve fun s =>
    match s.ptp.lastSync with
    | some t =>
      if s.mon 0x3001 2 = false ∧ (s.time.ts = .acquiring ∨ s.time.ts = .locked) ∧
          t + 3 * s.lossInterval ≤ s.tclk then .next (s.enterHoldover masterLostBit)
      else .next s
    | none => .next s

/-- Commit of 0x3010:01. -/
def ptpEnableCommit (v : Nat) : Commit := commitOk fun s =>
  let s := s.mput 0x3010 1 (w v)
  if v = 0 then
    let s := if s.mon 0x3001 2 then s else s.enterHoldover masterLostBit
    { s with ptp := { s.ptp.dropMaster s.time.ts with role := .listening, burstEnd := none } }
  else { s with ptp := { s.ptp with lastAnnounce := some s.tclk } }

/-- PTP_ENABLE_WRITE (R55): a disable acts on the time state only while PTP is the source. -/
def execPtpEnableWrite (p : Path) (v : Byte) (s : State) : Host.Outcome State Fault Refusal :=
  s.writeRow p 0x3010 1 [v] (ptpEnableCommit v.toNat)

/-! ## Delay exchanges (R58, R59) -/

/-- A PTP message comes from the selected master. -/
def State.fromMaster (s : State) (m : PtpMsg) : Bool :=
  s.ptpHears m.domain && decide (s.ptp.role = .slave) &&
  (match s.ptp.master with | some a => a.sender == m.sender | none => false)

/-- The exchange is complete: offset and mean path delay, published as medians of the last 8, and a measurement (R53,
R55, R59).  DESIGN CHOICE (log entry 112): the two halves of R59 are rounded toward zero to the nanosecond. -/
def State.completeExchange (s : State) : State :=
  let e := s.ptp.exch
  match e.t1, e.t2, e.t3, e.t4 with
  | some t1, some t2, some t3, some t4 =>
    let ms := tInt t2 - (tInt t1 + e.corr + s.mint 0x3010 0x0A)
    let sm := t4 - tInt t3
    let off := (ms - sm).tdiv 2
    let delay := (ms + sm).tdiv 2
    let s := { s with ptp := { s.ptp with exch := { e with t3 := none, t4 := none } } }
    if s.mon 0x3001 2 then s
    else
      let offs := (off :: s.time.offsets).take 8
      let dels := (delay :: s.time.delays).take 8
      let s := { s with time := { s.time with offsets := offs, delays := dels } }
      let s := (s.mput 0x3008 1 (wInt (median offs))).mput 0x3008 2 (wInt (median dels))
      s.measure off s.masterId
  | _, _, _, _ => s

/-- SYNC_RECEIVED (R55, R58): the loss timer restarts, and an exchange starts; a one-step Sync carries t1. -/
def execSyncReceived (m : PtpMsg) (s : State) : Host.Outcome State Fault Refusal :=
  s.whenReeve fun s =>
    if s.fromMaster m then
      match s.rxStamp with
      | (t2, s) =>
        .next { s with ptp := { s.ptp with
            lastSync := some s.tclk, advertised := some m.logInterval
            exch := { s.ptp.exch with
              corr := m.correction, syncSeq := m.seqId, t1 := if m.twoStep then none else some m.stamp
              t2 := some t2 } } }
    else .next s

/-- FOLLOW_UP_RECEIVED (R58): t1 of the two-step Sync with the same sequence ID. -/
def execFollowUpReceived (m : PtpMsg) (s : State) : Host.Outcome State Fault Refusal :=
  s.whenReeve fun s =>
    let e := s.ptp.exch
    if s.fromMaster m && e.syncSeq == m.seqId && e.t2.isSome && e.t1.isNone then
      .next (({ s with ptp := { s.ptp with
          exch := { e with t1 := some m.stamp, corr := e.corr + m.correction } } }).completeExchange)
    else .next s

/-- TCLK edges between Delay_Reqs: 16 per second while ACQUIRING (R59). -/
def State.reqInterval (s : State) : Nat :=
  if s.time.ts = .acquiring then tclkOfNs 62500000 else tclkOfNs (logNs (s.mint 0x3010 7))

/-- DELAY_REQ_SEND (R59): the slave queues a Delay_Req, its correction less the delay asymmetry. -/
def execDelayReqSend (s : State) : Host.Outcome State Fault Refusal :=
  s.whenReeve fun s =>
    if s.mon 0x3010 1 = true ∧ s.ptp.role = .slave ∧ s.ptp.lastReq + s.reqInterval ≤ s.tclk then
      let seq := s.ptp.reqSeq + 1
      let b := s.ptpFrame 1 0 (-(s.mint 0x3010 0x0A)) seq 1 0x7F (zeros 10)
      let s := { s with ptp := { s.ptp with
          reqSeq := seq, lastReq := s.tclk, exch := { s.ptp.exch with reqSeq := seq, t3 := none, t4 := none } } }
      .next (s.queuePtp b (some (1, seq)))
    else .next s

/-- DELAY_RESP_RECEIVED (R59): t4 completes the exchange. -/
def execDelayRespReceived (m : PtpMsg) (s : State) : Host.Outcome State Fault Refusal :=
  s.whenReeve fun s =>
    let e := s.ptp.exch
    if s.fromMaster m && m.requester == s.clockId && e.reqSeq == m.seqId && e.t4.isNone then
      .next (({ s with ptp := { s.ptp with
          exch := { e with t4 := some (tInt m.stamp - m.correction) } } }).completeExchange)
    else .next s

/-- DELAY_REQ_RECEIVED (R58): as master, the module answers with a Delay_Resp that carries the receive time. -/
def execDelayReqReceived (m : PtpMsg) (s : State) : Host.Outcome State Fault Refusal :=
  s.whenReeve fun s =>
    if s.ptpHears m.domain && decide (s.ptp.role = .master) then
      match s.rxStamp with
      | (t4, s) =>
        .next (s.queuePtp (s.ptpFrame 9 0 m.correction m.seqId 3 (s.mint 0x3010 7)
          (ptpStamp t4 ++ beBytes 8 m.requester.toNat ++ [0, 1])) none)
    else .next s

/-! ## The master's messages -/

/-- PTP_SYNC_SEND (R49, R59): at each multiple of the interval a two-step Sync is released as a time-launched frame; it
takes the place of one still unsent. -/
def execPtpSyncSend (s : State) : Host.Outcome State Fault Refusal :=
  s.whenReeve fun s =>
    if s.ptp.role = .master ∧ s.ptp.nextSyncT64.toNat ≤ s.now.toNat then
      let seq := s.ptp.syncSeq + 1
      let log := if s.ptp.burstEnd.isSome then -4 else s.mint 0x3010 6
      let f : TlFrame := {
        launch := s.ptp.nextSyncT64, bytes := s.ptpFrame 0 0x0200 0 seq 0 log (zeros 10), released := some s.tclk
        late := false, sync := some seq }
      let keep := s.tlq.filter fun (f : TlFrame) => f.sync.isNone
      let tlq := if s.plcaState = plcaListen ∨ s.plcaState = plcaUnassigned then keep else keep ++ [f]
      .next (({ s with
        tlq := tlq
        ptp := { s.ptp with syncSeq := seq, nextSyncT64 := nextMultiple s.now s.syncNs } }).sendLate)
    else .next s

/-- The body of an Announce (R58). -/
def State.announceBody (s : State) : Bytes :=
  let a := s.ownAnnounce
  zeros 10 ++ beBytes 2 (wInt a.utcOffset).toNat ++ [0, BitVec.ofNat 8 a.priority1, BitVec.ofNat 8 a.clockClass,
    BitVec.ofNat 8 a.clockAccuracy] ++ beBytes 2 a.variance ++ [BitVec.ofNat 8 a.priority2] ++
    beBytes 8 a.gm.toNat ++ [0, 0, 0xA0]

/-- ANNOUNCE_SEND (R58). -/
def execAnnounceSend (s : State) : Host.Outcome State Fault Refusal :=
  s.whenReeve fun s =>
    let log := s.mint 0x3010 8
    if s.ptp.role = .master ∧ s.ptp.lastAnn + tclkOfNs (logNs log) ≤ s.tclk then
      let seq := s.ptp.annSeq + 1
      let a := s.ownAnnounce
      let flags := (if a.leap61 then 1 else 0) + (if a.leap59 then 2 else 0) + 4 + 8
      let b := s.ptpFrame 0x0B flags 0 seq 5 log s.announceBody
      .next (({ s with ptp := { s.ptp with annSeq := seq, lastAnn := s.tclk } }).queuePtp b none)
    else .next s

/-- SYNC_BURST_END (R59): the configured rate takes over. -/
def execSyncBurstEnd (s : State) : Host.Outcome State Fault Refusal :=
  s.whenReeve fun s =>
    match s.ptp.burstEnd with
    | some t =>
      if t ≤ s.tclk then
        .next { s with ptp := { s.ptp with
            burstEnd := none, nextSyncT64 := nextMultiple s.now (logNs (s.mint 0x3010 6)) } }
      else .next s
    | none => .next s

/-- TSQ_DRAIN (R60): the oldest entry leaves; a Sync's gives its Follow_Up, a Delay_Req's gives t3. -/
def execTsqDrain (s : State) : Host.Outcome State Fault Refusal :=
  s.whenReeve fun s =>
    match s.ptp.tsq with
    | [] => .next s
    | e :: rest =>
      let s := ({ s with ptp := { s.ptp with tsq := rest } }).mput 0x3020 1 (w rest.length)
      if e.messageType = syncType then
        if s.ptp.role = .master then
          .next (s.queuePtp (s.ptpFrame 8 0 0 e.seqId 2 (s.mint 0x3010 6) (ptpStamp e.stamp)) none)
        else .next s
      else if e.seqId = s.ptp.exch.reqSeq then
        .next (({ s with ptp := { s.ptp with exch := { s.ptp.exch with t3 := some e.stamp } } }).completeExchange)
      else .next s

end Sys2Proof.Machine
end

