-- ==== Sys2Proof/Machine/Reset.lean ====
section
/-! DEFINITION. The scope of each reset and the way a channel and the Reeve come up again (R432 to R450, R457 to R463):
warm reset, loss of a channel's power, Steward boot and pairing, Reeve restart, module power-on and power loss. -/

namespace Sys2Proof.Machine

open Sys2Proof

/-! ## Members that live through a reset (R358, R433, R435) -/

/-- A saved member of a channel block, of the module. -/
def savedChannel (off sub : Nat) : Bool :=
  match DictMap.lookupChannel off sub with | some m => m.pers == .s | none => false
def savedModule (idx sub : Nat) : Bool :=
  match DictMap.lookupModule idx sub with | some m => m.pers == .s | none => false

/-- The members that p selects. -/
def Dict.keep (d : Dict) (p : Nat → Nat → Bool) : Dict := d.filter fun e => p (e.1 / 256) (e.1 % 256)

/-- Volatile members that a warm reset keeps: R435, and the hang record of R226 that its bench note reads afterwards (log
entry 60). -/
def keptVolatile (off sub : Nat) : Bool :=
  (off == 0x402 && sub == 4) || off == 0x600 || decide (0x610 ≤ off ∧ off < 0x620) ||
  (decide (0x320 ≤ off ∧ off < 0x330) && decide (3 ≤ sub ∧ sub ≤ 5)) ||
  (sub == 0 && [0x201, 0x301, 0x403, 0x601, 0x602].contains off) ||
  (off == 0x404 && [4, 5, 6, 7, 0xA].contains sub)

/-! ## Channel warm reset (R434, R435) -/

/-- Trace of a channel that loses its Observatory to a reset: what is staged is sealed and the silence begins (R164). -/
def Channel.darkTrace (ch : Channel) (now : T64) (tclk : Nat) : Channel :=
  if ch.observed && ch.traceMode != 0 then
    ((ch.releaseSources now lossSourceQueue).sealEvery now tclk).fallSilent now 4
  else ch

/-- What a Governor keeps through a warm reset: its share, the trips, and what is saved. -/
def Gov.warm (g : Gov) : Gov :=
  { Gov.reset with
    share := g.share, newShare := g.newShare, trips := g.trips, coolSince := g.coolSince, hottest := g.hottest
    wear := g.wear, milliwatts := g.milliwatts }

/-- A SCAN_OUT that a reset cuts off is over; the fuse and a blow in progress stay (R218, R433). -/
def Tap.warm (t : Tap) : Tap :=
  { t with ir := if t.ir = opScanOut then 0xFF else t.ir, shifts := 0, rot := 0, partialScan := false, guardEnd := none }

/-- Hang, dump and decant state after a warm reset: the dump slots survive (R227), and a hang of the Steward keeps its record
where a dump follows its restart (R226). -/
def Debug.warm (d : Debug) (now : T64) : Debug :=
  { d with
    hang := d.hang.filter fun h => h.cause == 5 && h.dumping, lastReset := now, pts := Vector.replicate 8 DecantPt.reset, caps := [none, none] }

/-- The Chute after a warm reset: staged blocks stay in the HOST domain, source queues are gone. -/
def Chute.warm (t : Chute) : Chute :=
  { t with
    srcQ := [], held := [], heldPart := 0, fullSince := none, locked := false, steps := [], closing := false, tally := []
    gcmFault := false }

/-- TABLE_FAULT of the two Stillrooms, which a reset leaves until its self-test has passed (R137). -/
def Channel.tableFaults (ch : Channel) : Dict :=
  [0x550, 0x551].filterMap fun off =>
    let v := ch.get off 3 &&& stillTableFault
    if v = 0 then none else some (dkey off 3, v)

/-- A passed self-test clears them. -/
def Channel.tablesPassed (ch : Channel) : Channel := (ch.clearBits 0x550 3 stillTableFault).clearBits 0x551 3 stillTableFault

/-- Every unit of the channel outside the HOST domain is reset (R434). -/
def Channel.warm (ch : Channel) (now : T64) : Channel :=
  let faults := ch.tableFaults
  let ch := ch.clearCompute
  let ch := { ch with
    steward := false, rebootWanted := false, xtsFault := false, whtFault := false
    dict := (ch.dict.keep fun off sub => savedChannel off sub || keptVolatile off sub) ++ faults
    looms := Vector.replicate 2 Loom.reset, holds := []
    cmp := ch.cmp.map fun (k : Cmp) => { Cmp.reset with pulseEnd := k.pulseEnd }
    plans := Vector.replicate 16 Plan.reset, loading := none, slate := [], countQ := []
    chute := ch.chute.warm, st0 := Stocktake.reset, stop := Stop.reset, tap := ch.tap.warm
    dbg := ch.dbg.warm now, gov := ch.gov.warm }
  ch.count 0x402 4 1

/-- Polarities return to their default, active high: an active-low output that is in no pulse moves at once (R47, R433; log entry
55). -/
def State.polaritiesReset (s : State) (c : Chan) : State :=
  (List.finRange 4).foldl (fun s n =>
    if s.con c (0x110 + n.val) 5 && ((s.chan c).cmp[n.val]).pulseEnd.isNone then s.emit (.pin 2 c n.val false) else s) s

/-- A channel warm reset (R434): jobs end STOPPED, ports go DOWN, units are reset, the channel boots. -/
def State.warmNow (s : State) (c : Chan) : State :=
  let wasStopped := (s.chan c).stop.st = 2
  let s := s.endJobs c (fun _ => true) statusStopped decStopped
  let s := s.portsDown c
  let s := (s.polaritiesReset c).modChan c fun ch => (ch.darkTrace s.now s.tclk).warm s.now
  let s := if wasStopped then s.raiseIrq c irqStop else s
  s.setChanSt c .booting 0

/-- A channel warm reset; during a function reset it waits until the endpoint is ready (R460). -/
def State.warmReset (s : State) (c : Chan) : State :=
  if (s.chan c).host.ready then s.warmNow c
  else s.modChan c fun ch => { ch with host := { ch.host with warmWaits := true } }

/-- States that a warm reset leaves (R438). -/
def ChanSt.resettable : ChanSt → Bool
  | .ready | .quarantine | .computeDisabled => true
  | .booting | .poweredDown => false

/-- A warm reset where the channel's state allows one. -/
def State.warmIf (s : State) (c : Chan) : State :=
  if ChanSt.resettable (s.chan c).st then s.warmReset c else s

/-- CHANNEL_WARM_RESET. -/
def execChannelWarmReset (c : Chan) (s : State) : Host.Outcome State Fault Refusal :=
  s.whenChan c fun s => .next (s.warmIf c)

/-! ## Loss and return of a channel's power (R433, R437, R438) -/

/-- The endpoint is powered with the Reeve: enumeration and MSI-X stay, every ring and register of the channel's HOST
domain is lost (R35, R449). -/
def HostPort.dark (h : HostPort) : HostPort :=
  { HostPort.reset with
    ready := h.ready, linkDown := h.linkDown, msix := h.msix, pba := h.pba, irqStatus := h.irqStatus
    irqEnable := h.irqEnable }

/-- What is left of a channel without power: its saved members, fuse, wear and trips, the level of TAP_TRST_N, and the count of
the dumps since the module's boot (R228). -/
def Channel.dark (ch : Channel) : Channel :=
  { Channel.reset with
    st := ch.st, reason := ch.reason, chanKey := ch.chanKey, dict := ch.dict.keep savedChannel
    host := ch.host.dark, tap := { Tap.reset with fuse := ch.tap.fuse, trst := ch.tap.trst }
    dbg := { Debug.reset with dumpSeq := ch.dbg.dumpSeq }
    gov := { Gov.reset with trips := ch.gov.trips, wear := ch.gov.wear } }

/-- Rails off (R438): the far ends of its board links see them go down (R33). -/
def State.powerDown (s : State) (c : Chan) (reason : Byte) : State :=
  ((s.portsDown c).modChan c Channel.dark).setChanSt c .poweredDown reason

/-- The channel's rails are up: a new channel key, a sensed fuse, a boot, which is a reset (R220, R228, R256, R432, R433). -/
def Channel.raise (ch : Channel) (now : T64) (tclk draw : Nat) : Channel :=
  { ch with
    st := .booting, reason := 0, chanKey := ch.chanKey + 1
    ports := Vector.replicate 4 { RPort.reset with downSince := tclk }
    chute := { ch.chute with tokensAt := tclk }, dbg := { ch.dbg with lastReset := now }
    tap := { ch.tap with fuse := if ch.tap.fuse = 1 then 2 * draw else ch.tap.fuse } }

/-- The last thermal trip was the third within one hour (R416); trips stand newest first. -/
def Gov.tripped (g : Gov) : Bool :=
  match g.trips with
  | [] => false
  | t :: _ => decide (3 ≤ (g.trips.filter fun x => t < x + tclkOfS 3600).length)

/-- A powered-down channel may return (R400, R416): the reason it went down for has passed. -/
def State.mayPowerUp (s : State) (c : Chan) : Bool :=
  let ch := s.chan c
  if ch.reason = 0x06 then true
  else if ch.reason = 0x22 then !s.reeve.underDown
  else if ch.reason = 0x20 ∨ ch.reason = 0x21 then
    !ch.gov.tripped &&
    (match ch.gov.coolSince with | some t => decide (t + tclkOfS 10 ≤ s.tclk) | none => false)
  else false

/-- CHANNEL_POWER_UP (R437). -/
def execChannelPowerUp (c : Chan) (s : State) : Host.Outcome State Fault Refusal :=
  s.whenReeve fun s =>
    if (s.chan c).st = .poweredDown ∧ s.mayPowerUp c = true then
      let draw := s.freeIn 0 1
      let s := s.drawn.modChan c fun ch => { ch.raise s.now s.tclk draw with st := .poweredDown }
      .next (s.setChanSt c .booting 0)
    else .next s

/-! ## Images and banks (R440 to R444) -/

/-- A Steward bank, a Reeve bank: false A, true B. -/
def Flash.steward (f : Flash) (b : Bool) : Bank := if b then f.stewardB else f.stewardA
def Flash.reeve (f : Flash) (b : Bool) : Bank := if b then f.reeveB else f.reeveA

/-- Reasons of pairing (R438). -/
def reasonMajor : Byte := 1
def reasonStewardMinor : Byte := 2
def reasonReeveMinor : Byte := 3
def reasonStepping : Byte := 4
def reasonInvalid : Byte := 5
def reasonRecovery : Byte := 6

/-- pair_check of R442. -/
def pairCheck (r st : ImageHdr) (stepping : Nat) : Byte :=
  if !st.steppings.contains stepping then reasonStepping
  else if r.ifMajor ≠ st.ifMajor then reasonMajor
  else if st.ifMinor < r.ifMinPartner then reasonStewardMinor
  else if r.ifMinor < st.ifMinPartner then reasonReeveMinor
  else 0

/-- The interface version word (R441). -/
def ImageHdr.iface (h : ImageHdr) : Nat := h.ifMajor * 65536 + h.ifMinor * 256 + h.ifMinPartner

/-- Silicon stepping of channel c (R382). -/
def State.stepping (s : State) (c : Chan) : Nat := s.reeve.factory.steppings.getD c.val 0

/-- The code of one Steward bank for channel c: 0 when it pairs with the running Reeve image (R442, R444); `bad` when its load
has failed its CRC three times (R463). -/
def State.bankCode (s : State) (c : Chan) (bad b : Bool) : Byte :=
  let k := s.reeve.flash.steward b
  match s.reeve.image, k.hdr with
  | some r, some h => if k.valid && !bad then pairCheck r h (s.stepping c) else reasonInvalid
  | _, _ => reasonInvalid

/-- The banks that R442 tries, in order. -/
def State.banksToTry (s : State) (c : Chan) : List Bool :=
  let req := s.cnat c 0 7
  if req = 1 then [false] else if req = 2 then [true]
  else [s.reeve.flash.activeSteward, !s.reeve.flash.activeSteward]

/-! ## Forwarded accesses (R34, R296, R377) -/

def Mailbox.idx (m : Mailbox) : Nat := m.index.toNat % 65536
def Mirror.idx (m : Mirror) : Nat := m.index.toNat % 65536
def Mirror.sub (m : Mirror) : Nat := m.index.toNat / 65536 % 256

def State.modMbx (s : State) (c : Chan) (f : Mailbox → Mailbox) : State :=
  s.modChan c fun ch => { ch with host := { ch.host with mbx := f ch.host.mbx } }

def State.modMirror (s : State) (c : Chan) (i : Slot) (f : Mirror → Mirror) : State :=
  s.modChan c fun ch => { ch with host := { ch.host with mir := ch.host.mir.set i.val (f ch.host.mir[i.val]) } }

/-- The mailbox operation ends: DONE, or ERR with its abort code (R293); vector 49. -/
def State.finishMbx (s : State) (c : Chan) (code : AbortCode) : State :=
  (s.modMbx c fun m => { m with busy := false, done := code == 0, err := code != 0, abort := code, op := none }).raiseIrq
    c irqMbx

/-- The mirror of window i of channel c carries the object. -/
def Channel.mirrors (ch : Channel) (c : Chan) (i : Slot) (idx sub : Nat) : Bool :=
  match placeOf idx with
  | some (.module m) => [(0x3000, 1), (0x3000, 2), (0x3007, 0), (0x3008, 1)].contains (m, sub)
  | some (.channel d off) =>
    d == c &&
    ((off == 0 && sub == 1) || (off == 0x100 && (1 ≤ sub && sub ≤ 3)) || decide (0x110 ≤ off ∧ off < 0x114) || off == 0x120 ||
     (off == keyOff i && [1, 3, 6].contains sub) ||
     (decide (0x520 ≤ off ∧ off < 0x530) &&
       (let p := ch.plan (Fin.ofNat 16 (off - 0x520)); p.st != 0 && p.owner == i)) ||
     (decide (0x200 ≤ off ∧ off < 0x300) && bitOf (ch.get 0x201 0) i.val))
  | none => false

/-- The mirror's operation ends. -/
def State.finishMirror (s : State) (c : Chan) (i : Slot) (code : AbortCode) : State :=
  s.modMirror c i fun m => { m with busy := false, done := code == 0, err := code != 0, abort := code, answer := none }

/-- The Reeve serves the object for the mailbox of channel c: a module object, or any object of a channel in Quarantine. -/
def State.forwards (s : State) (c : Chan) (idx : Nat) : Bool :=
  match placeOf idx with
  | some (.module _) => (s.chan c).steward || (s.chan c).st == .quarantine
  | some (.channel d _) => d == c && (s.chan c).st == .quarantine
  | none => false

/-- A Reeve restart ends every forwarded access in flight with DEVICE_NOT_READY; what was committed stands (R377). -/
def State.endForwarded (s : State) : State :=
  let s := s.eachChan fun s c =>
    let m := (s.chan c).host.mbx
    let s := match m.op with
      | some (write, _) =>
        if s.forwards c m.idx then
          (s.modMbx c fun m => { m with pend := if write then none else m.pend }).finishMbx c abortNotReady
        else s
      | none => s
    allSlots.foldl (fun s i =>
      let m := (s.chan c).host.mir[i.val]
      if m.busy && (s.chan c).mirrors c i m.idx m.sub && s.forwards c m.idx then s.finishMirror c i abortNotReady else s) s
  { s with reeveQ := [] }

/-! ## Reeve restart (R35, R73, R206, R432, R433, R440, R443) -/

/-- Module members that a Reeve restart keeps beside the saved ones: the increment in force and the reference (R73), the time
state and the time HOLDOVER was entered, the journal's pending bits (R359), the service key that the channels hold (R252). -/
def keptAtRestart (idx sub : Nat) : Bool :=
  savedModule idx sub ||
  [(0x3000, 1), (0x3000, 2), (0x3000, 6), (0x3002, 0), (0x1020, 2), (0x4040, 2), (0x4040, 5)].contains (idx, sub)

/-- Corrections that the Reeve had not yet put on the bus are lost; the TBUs count on (R73); the allowance stays, as at
every entry into HOLDOVER (R55).  DESIGN CHOICE (log entry 82): the servo's integral term restarts at 0. -/
def TimeBase.restarted (t : TimeBase) : TimeBase :=
  { t.restart with
    pendIncr := none, pendStep := none, ppsLoad := none, integral := 0, lastMeas := none, offsets := [], delays := []
    lastPps := none }

/-- PTP restarts with the Reeve; the master held before Holdover is remembered (R55, R73). -/
def State.ptpRestarted (s : State) : Ptp :=
  { Ptp.reset with held :=
      if s.time.ts = .acquiring ∨ s.time.ts = .locked then some s.masterId else s.ptp.held }

/-- The Reeve stops serving, for a cause of R443; R345, R377, R433, R459 say what it loses. -/
def State.reeveRestart (s : State) (cause : Nat) : State :=
  let writing := s.reeve.update.writing
  let s := s.endForwarded
  let s := { s with
    dict := s.dict.keep keptAtRestart, time := s.time.restarted, ptp := s.ptpRestarted, plca := Plca.reset, txq := [], tlq := []
    sessions := Vector.replicate 32 Session.reset, usb := { s.usb with ctlQ := [], bulkQ := [] }
    align := { Align.reset with autoDone := s.align.autoDone }
    reeve := { s.reeve with
      running := false, restartCause := cause, update := { held := none, writing := false }, tlHeld := [] } }
  if writing then s.mput 0x1030 4 0x15 else s

/-- REEVE_WATCHDOG. -/
def execReeveWatchdog (s : State) : Host.Outcome State Fault Refusal :=
  s.whenReeve fun s => .next (s.reeveRestart 1)

/-- A Reeve bank that the boot ROM may take (R440). -/
def State.bootable (s : State) (b : Bool) : Bool :=
  let k := s.reeve.flash.reeve b
  k.valid && (match k.hdr with | some h => h.steppings.contains s.reeve.factory.hwRevision | none => false)

/-- A pair that fails now, of the Steward image that a channel runs with the running Reeve image (R441). -/
def State.pairFails (s : State) (c : Chan) : Bool :=
  match s.reeve.image, (s.chan c).image with
  | some r, some h => pairCheck r h (s.stepping c) != 0
  | _, _ => true

/-- The review of every channel after a Reeve boot (R441). -/
def State.reviewPairs (s : State) : State :=
  s.eachChan fun s c =>
    match (s.chan c).st with
    | .quarantine => s.warmReset c
    | .ready | .computeDisabled => if s.pairFails c then s.warmReset c else s
    | _ => s

/-- The boot ROM's choice: bank, and whether it is not the active one; none when neither bank is valid (R440). -/
def State.romChoice (s : State) : Option (Bool × Bool) :=
  let a := s.reeve.flash.activeReeve
  if s.bootable a then some (a, false) else if s.bootable (!a) then some (!a, true) else none

/-- The boot ROM reads the boot selector: where both copies are invalid, bank A is taken for both targets and the selector
is rewritten (R440, R463). -/
def State.readSelector (s : State) (bad : Bool) : State :=
  if bad then
    { s with reeve := { s.reeve with flash := { s.reeve.flash with activeReeve := false, activeSteward := false } } }
  else s

/-- NO_PROFILE is clear while a mission profile is held (R420). -/
def State.profileStatus (s : State) : State := if s.reeve.profile.isEmpty then s else s.mclearBits 0x2060 6 2

/-- The Reeve runs the image of a bank. -/
def State.runReeve (s : State) (b : Bool) : State :=
  let wasRecovery := s.reeve.recovery
  let s := s.profileStatus
  { s with reeve := { s.reeve with
      running := true, recovery := false, restartCause := 0, bank := b, image := (s.reeve.flash.reeve b).hdr
      reviewing := wasRecovery || !(allChans.any fun c => match (s.chan c).st with
        | .ready | .computeDisabled => !({ s with reeve := { s.reeve with
            image := (s.reeve.flash.reeve b).hdr } }).pairFails c
        | _ => false) } }

/-- Recovery (R463): identity and images on USB alone; every channel POWERED_DOWN. -/
def State.enterRecovery (s : State) : State :=
  let s := { s with reeve := { s.reeve with
    running := true, recovery := true, restartCause := 0, image := none } }
  s.eachChan fun s c => s.powerDown c reasonRecovery

/-- PTP and PLCA begin anew when the Reeve starts to serve (R58, R312). -/
def State.startField (s : State) : State :=
  let s := { s with ptp := { Ptp.reset with held := s.ptp.held, lastAnnounce := some s.tclk, lastReq := s.tclk, lastAnn := s.tclk } }
  s.startPlca

/-- REEVE_RETURN (R35, R73, R406, R441, R443): `selectorBad` where both copies of the boot selector are invalid. -/
def execReeveReturn (selectorBad : Bool) (s : State) : Host.Outcome State Fault Refusal :=
  s.whenLive fun s =>
    if s.reeve.running then .next s
    else
      let s := s.readSelector selectorBad
      match s.romChoice with
      | none => .next s.enterRecovery
      | some (b, fell) =>
        let cause := if fell || selectorBad then 2 else s.reeve.restartCause
        let s := (s.runReeve b).startField
        let s := s.moduleEvent { unit := 0xF0, num := 0x1000, pay := payAt 8 cause }
        let s := if s.time.ts = .acquiring ∨ s.time.ts = .locked then
            ((s.timeFlag masterLostBit).mput 0x3000 6 s.now).setTimeState .holdover
          else s
        .next (s.morBits 0x2000 6 8).reviewPairs

/-- R443: every powered channel has entered QUARANTINE after a Reeve boot: the other Reeve bank, once. -/
def State.pairFallback (s : State) : State :=
  let other := !s.reeve.bank
  let k := s.reeve.flash.reeve other
  let all := allChans.all fun c => (s.chan c).st == .quarantine || (s.chan c).st == .poweredDown
  let same := match k.hdr with
    | some h => decide (h.version.toNat = (s.mget 0x1030 7).toNat / 2 ^ 32)
    | none => false
  if s.reeve.reviewing && !s.reeve.pairUsed && all && k.valid && same then
    { s with reeve := { s.reeve with
        pairUsed := true, flash := { s.reeve.flash with activeReeve := other } } }.reeveRestart 5
  else s

/-! ## Steward boot (R442 to R446, R457, R458, R462) -/

/-- Fresh core voltage of 100 MHz steps from 600 MHz (R402). -/
def freshTable : List Nat := [650, 665, 680, 697, 715, 737, 760, 782, 805, 825, 825]

/-- V_fresh of R402 in mV: interpolated within each span and rounded up. -/
def vFresh (f : Nat) : Nat :=
  let i := (f - 600) / 100
  let r := (f - 600) % 100
  let a := freshTable.getD i 0
  let b := freshTable.getD (i + 1) 0
  a + (r * (b - a) + 99) / 100

/-- V(f) for a consumed guard band g in 0.1 % (R402). -/
def voltage (f g : Nat) : Nat := vFresh f + (25 * g + 999) / 1000

/-- The CORE clock takes its value, with the launch offsets that it gives (R48, R402). -/
def Channel.setFreq (ch : Channel) (f : Nat) : Channel :=
  (((ch.put 0x700 1 (w f)).put 0x100 1 (w (launchOffset f))).put 0x100 3 (w (arrivalOffset f)))

/-- CORE starts at its default clock of 1500 MHz, without a change being counted (R422; log entry 61). -/
def Channel.startCore (ch : Channel) : Channel :=
  ((ch.setFreq 1500).put 0x700 2 1500).put 0x700 8 (w (voltage 1500 (ch.nat 0x702 1)))

/-- The Observatory returns after a reset (R138, R164, R189). -/
def Channel.wake (ch : Channel) (now : T64) (tclk : Nat) : Channel :=
  if ch.observed then
    let ch := ch.maskMoved
    if ch.traceMode = 0 then ch else ch.resumeTrace now tclk
  else ch

/-- Version, interface version and bank of 0x8000:04 to :06 (R446). -/
def Channel.setImage (ch : Channel) (b : Bool) (h : Option ImageHdr) : Channel :=
  let ch := { ch with bank := b, image := h }
  ((ch.put 0 4 (w ((h.map (·.version.toNat)).getD 0))).put 0 5 (w ((h.map (·.iface)).getD 0))).put 0 6 (wBool b)

/-- Eight pages from p on are untagged. -/
def Channel.freeRun (ch : Channel) (p : Nat) : Bool := (List.range 8).all fun i => ch.tagOf (p + i) == 0x1F

/-- While 0x8404:01 is 1, two dump slots of 256 KiB are reserved in the Cellar (R227): the manual leaves open where, so the first
page is a free value among the runs of eight untagged pages. -/
def State.reserveDump (s : State) (c : Chan) : State :=
  let ch := s.chan c
  if ch.on 0x404 1 then
    if ch.dbg.area.isSome then s
    else
      let k := s.freeIn 0 (pageCount - 8)
      let page := if ch.freeRun k then some k else (List.range (pageCount - 7)).find? ch.freeRun
      match page with
      | none => s.drawn
      | some p => s.drawn.setChan c ((List.range 8).foldl (fun (ch : Channel) i => ch.setTag (p + i) 0x1E)
          { ch with dbg := { ch.dbg with area := some p, dumps := [none, none] } })
  else
    match ch.dbg.area with
    | none => s
    | some p => s.setChan c ((List.range 8).foldl (fun (ch : Channel) i => ch.setTag (p + i) 0x1F)
        { ch with dbg := { ch.dbg with area := none, dumps := [none, none] } })

/-- The bank is loaded and its Steward runs (R442). -/
def State.runSteward (s : State) (c : Chan) (b : Bool) : State :=
  let h := (s.reeve.flash.steward b).hdr
  let s := s.modChan c fun ch => ({ (ch.setImage b h).startCore with steward := true }).wake s.now s.tclk
  let s := s.reserveDump c
  let s := { s with reeve := { s.reeve with reviewing := false } }
  s.event c { unit := 0x40, num := 0x0D00, pay := payAt 8 b.toNat ||| payAt 12 ((h.map (·.version.toNat)).getD 0) }

/-- Every bank tried has failed: the reason is that of the first (R442, R443). -/
def State.quarantine (s : State) (c : Chan) (b : Bool) (code : Byte) : State :=
  let s := s.modChan c (·.setImage b (s.reeve.flash.steward b).hdr)
  let s := s.event c { unit := 0x40, num := 0x0D03, pay := payAt 8 code.toNat }
  let s := s.moduleEvent { unit := 0xF0, num := 0x1002, pay := payAt 8 c.val ||| payAt 9 code.toNat }
  let s := s.setChanSt c .quarantine code
  if (s.chan c).rebootWanted then s.warmReset c else s.pairFallback

/-- A channel waits for its pairing (R462). -/
def State.pairing (s : State) : Bool :=
  allChans.any fun c => (s.chan c).st == .booting && !(s.chan c).steward

/-- A Reeve restart that waited for pairings happens (R462). -/
def State.restartIfDue (s : State) : State :=
  if s.reeve.restartCause ≠ 0 ∧ s.reeve.running = true ∧ s.pairing = false then s.reeveRestart s.reeve.restartCause else s

/-- STEWARD_BOOT (R442, R458): the banks are tried in turn while the Reeve runs. -/
def execStewardBoot (c : Chan) (badA badB : Bool) (s : State) : Host.Outcome State Fault Refusal :=
  s.whenReeve fun s =>
    let ch := s.chan c
    if ch.st = .booting ∧ ch.steward = false then
      let banks := s.banksToTry c
      let bad := fun b : Bool => if b then badB else badA
      match banks.find? fun b => s.bankCode c (bad b) b == 0 with
      | some b => .next (s.runSteward c b).restartIfDue
      | none =>
        let first := banks.headD false
        .next (s.quarantine c first (s.bankCode c (bad first) first)).restartIfDue
    else .next s

/-- The boot has ended; a bank request committed meanwhile resets the channel once more (R457). -/
def State.bootEnded (s : State) (c : Chan) : State :=
  if (s.chan c).rebootWanted then s.warmReset c else s

/-- A Stillroom's tables fail its self-test (R136): the event has 1 in byte 9. -/
def State.tableReport (s : State) (c : Chan) (n : Nat) : State :=
  (s.corBits c (0x550 + n) 3 stillTableFault).event c {
    unit := 0x18 + n, num := 0x0502, pay := payAt 8 n ||| payAt 9 1 }

/-- What a failed self-test reports beside the reason (R136, R272, R463).  The command does not say whose tables failed: one room's
or both, a free value. -/
def State.selfTestReport (s : State) (c : Chan) (r : Byte) : State :=
  if r = reasonStillroom then
    let rooms := s.freeIn 1 3
    let s := s.drawn
    let s := if rooms.testBit 0 then s.tableReport c 0 else s
    if rooms.testBit 1 then s.tableReport c 1 else s
  else if r = reasonXts then
    (s.event c { unit := 0x42, num := 0x0F03, pay := payAt 8 0 }).modChan c fun ch => { ch with xtsFault := true }
  else if r = reasonWhitening then
    (s.event c { unit := 0x42, num := 0x0F03, pay := payAt 8 2 }).modChan c fun ch => { ch with whtFault := true }
  else s

/-- Reasons that a self-test can set (R431, R438, R463). -/
def selfTestReasons : List Byte := [reasonHbm, reasonStillroom, reasonXts, reasonWhitening, reasonSelfTest, 0x24]

/-- SELF_TEST_COMPLETE (R438, R443). -/
def execSelfTestComplete (c : Chan) (failure : Option Byte) (s : State) : Host.Outcome State Fault Refusal :=
  s.whenChan c fun s =>
    let ch := s.chan c
    if ch.st = .booting ∧ ch.steward = true then
      match failure with
      | none =>
        let v := fun (h : Option ImageHdr) => (h.map (·.version.toNat)).getD 0
        let s := (s.modChan c (·.tablesPassed)).setChanSt c .ready 0
        .next ((s.mputSaved 0x1030 7 (w (v s.reeve.image * 2 ^ 32 + v ch.image))).bootEnded c)
      | some r =>
        if selfTestReasons.contains r then .next (((s.selfTestReport c r).setChanSt c .computeDisabled r).bootEnded c)
        else .next s
    else .next s

/-- Commit of 0x8000:07 (R445, R457): a warm reset in every state but POWERED_DOWN. -/
def bankRequestCommit (c : Chan) (v : Nat) : Commit := fun s =>
  let s := s.cput c 0 7 (w v)
  if (s.chan c).st = .booting then (0, s.modChan c fun ch => { ch with rebootWanted := true })
  else (0, s)

/-- The warm reset that follows the commit, after its answer (R445). -/
def State.afterBankRequest (s : State) (c : Chan) (code : AbortCode) : State := if code = 0 then s.warmIf c else s

/-- STEWARD_BANK_REQUEST. -/
def execStewardBankRequest (p : Path) (c : Chan) (v : Byte) (s : State) : Host.Outcome State Fault Refusal :=
  if !s.pathUp p then .next s
  else
    match s.write p (chanIndex c 0) 7 [v] (bankRequestCommit c v.toNat) with
    | (code, s') => .next ((s'.afterBankRequest c code).answer code)

/-- HBM_FAILURE (R35, R438): compute is disabled; the dictionary stays readable. -/
def execHbmFailure (c : Chan) (s : State) : Host.Outcome State Fault Refusal :=
  s.whenChan c fun s => .next (s.disableCompute c reasonHbm)

/-! ## Module power (R248, R359, R360, R369, R378, R400, R433, R436, R440, R459, R463) -/

/-- The live saved members, as a store into the journal carries them (R359). -/
def State.savedNow (s : State) : Journal :=
  { s.reeve.journal with
    mod := s.dict.keep savedModule, chans := s.chans.toList.map fun ch => ch.dict.keep savedChannel
    profile := s.reeve.profile, accessKey := s.reeve.accessKey, wear := s.chans.toList.map (·.gov.wear) }

/-- The module without power: what flash, fuses, the calendar clock and the host's pins hold. -/
def State.unpowered (s : State) : State :=
  { State.reset with
    pending := s.pending, free := s.free, out := s.out, tclk := s.tclk, dict := [], perst := s.perst, upLink := !s.perst
    reeve := { Reeve.reset with
      powered := false, running := false, journal := s.reeve.journal, flash := s.reeve.flash
      factory := s.reeve.factory, calSec := s.reeve.calSec, calAt := s.reeve.calAt, lostAt := s.tclk }
    chans := s.chans.map fun (ch : Channel) => { ch.dark with
      st := .poweredDown, reason := 0, dict := [], host := HostPort.reset, gov := Gov.reset, dbg := Debug.reset } }

/-- MODULE_POWER_LOSS. -/
def execModulePowerLoss (s : State) : Host.Outcome State Fault Refusal :=
  if s.reeve.powered then .next s.unpowered else .next s

/-- The generation floors live through a restore and through unreadable areas (R360, R378). -/
def floorOnlyModule (idx sub : Nat) : Bool := idx == 0x4040 && sub == 6
def floorOnlyChannel (off sub : Nat) : Bool := off == 0x600 && sub == 2

/-- The journal as power-on finds it: restored to defaults where a restore was requested, and without the saved values of
each server (8 the module, 0 to 7 a channel) whose two areas cannot be read.  The wear sums are no member: a restore leaves
them (R396, R431). -/
def Journal.atPowerOn (j : Journal) (lost : List Nat) : Journal :=
  let gone := fun n : Nat => j.restore || lost.contains n
  { mod := if gone 8 then j.mod.keep floorOnlyModule else j.mod
    chans := j.chans.zipIdx.map fun (x : Dict × Nat) => if gone x.2 then x.1.keep floorOnlyChannel else x.1
    profile := if gone 8 then [] else j.profile
    accessKey := if gone 8 then none else j.accessKey
    restore := false
    wear := if lost.contains 8 then List.replicate 8 WearSums.reset else j.wear }

/-- The calendar clock at power-on: its backup lasts at least 72 h; past that it may have run out (R369). -/
def State.calendarBack (s : State) : State :=
  if s.reeve.lostAt + tclkOfS 259200 < s.tclk ∧ s.freeIn 0 1 = 1 then
    { s.drawn with reeve := { s.reeve with calSec := calendarRestart, calAt := s.tclk } }.morBits 0x2040 5 1
  else s

/-- The counters start from the calendar clock, and the channels' boot dates from there (R55, R228, R436). -/
def State.startTime (s : State) : State :=
  let now := BitVec.ofNat 64 (s.calendar * 1000000000)
  { s with
    time := { TimeBase.reset with t64 := now, prev := now, nextSlot := s.tclk + 64 }
    chans := s.chans.map fun (ch : Channel) => { ch with dbg := { ch.dbg with lastReset := now } } }

/-- Saved values are loaded, the counters start, rails are raised (R436). -/
def State.powered (s : State) (lost : List Nat) : State :=
  let j := s.reeve.journal.atPowerOn lost
  let s := { s with
    dict := j.mod
    reeve := { s.reeve with
      powered := true, journal := j, profile := j.profile, accessKey := j.accessKey, bank := false }
    chans := Vector.ofFn fun c : Fin 8 =>
      let ch := s.chan c
      { (ch.raise 0 s.tclk (Config.freeNat (s.free + c.val) % 2)) with
        dict := j.chans.getD c.val [], gov := { Gov.reset with wear := j.wear.getD c.val WearSums.reset } }
    free := s.free + 8 }
  let s := if lost.isEmpty then s else s.morBits 0x1020 2 4
  let s := s.calendarBack.startTime
  s.mputSaved 0x4040 3 (w ((s.mnat 0x4040 3 + 1) % 2 ^ 32))

/-- MODULE_POWER_ON: the servers whose saved values are unreadable are given, and whether both copies of the boot selector
are invalid. -/
def execModulePowerOn (lost : List Nat) (selectorBad : Bool) (s : State) : Host.Outcome State Fault Refusal :=
  if s.reeve.powered then .next s
  else
    let s := (s.powered lost).readSelector selectorBad
    match s.romChoice with
    | none => .next s.enterRecovery
    | some (b, fell) =>
      let s := (s.runReeve b).startField
      .next (if fell || selectorBad then s.moduleEvent { unit := 0xF0, num := 0x1000, pay := payAt 8 2 } else s)

/-- TCXO_FAILURE (R35): the Reeve holds the module in reset, and the PWR status LED reports it. -/
def execTcxoFailure (s : State) : Host.Outcome State Fault Refusal :=
  s.whenLive fun s => .next (({ s with time := { s.time with tcxoFailed := true } } : State).emit (.pin 3 0 0 true))

end Sys2Proof.Machine
end

