-- ==== Sys2Proof/Machine/Firmware.lean ====
section
/-! DEFINITION. Image update, activation and fall back through 0x1030 (R441, R444, R447, R448, R459, R462). -/

namespace Sys2Proof.Machine

open Sys2Proof

/-! ## Update status (R447) -/

def updIdle : Nat := 0
def updHeld : Nat := 1
def updWriting : Nat := 2
def updWritten : Nat := 3
def updActivating : Nat := 4
def updBadHeader : Nat := 0x10
def updBadCrc : Nat := 0x11
def updBadSignature : Nat := 0x12
def updWrongTarget : Nat := 0x13
def updNoStepping : Nat := 0x14
def updVerifyFailed : Nat := 0x15

/-- 0x1030:04 and :01. -/
def State.updStatus (s : State) : Nat := s.mnat 0x1030 4
def State.setUpd (s : State) (n : Nat) : State := s.mput 0x1030 4 (w n)
def State.updTarget (s : State) : Nat := s.mnat 0x1030 1

/-- WRITING or ACTIVATING: nothing else is in turn. -/
def State.updBusy (s : State) : Bool := s.updStatus == updWriting || s.updStatus == updActivating

/-! ## Images (R441, R444) -/

/-- The header fields of an image that the Reeve reads. -/
def headerOf (b : Bytes) : ImageHdr :=
  { version := BitVec.ofNat 32 (leField b 8 4), ifMajor := leField b 14 2, ifMinor := leField b 13 1
    ifMinPartner := leField b 12 1, steppings := ((slice b 24 8).filter (· != 0xFF)).map (·.toNat) }

/-- The image can run here: a powered channel's stepping, or the hardware revision, is in its table. -/
def State.fits (s : State) (h : ImageHdr) : Bool :=
  if s.updTarget = 1 then
    allChans.any fun c => (s.chan c).st != .poweredDown && h.steppings.contains (s.stepping c)
  else h.steppings.contains s.reeve.factory.hwRevision

/-- The checks of R444 and R447 in the order of the status codes; 0 when the image passes. -/
def State.checkImage (s : State) (b : Bytes) : Nat :=
  let total := leField b 16 4
  if leField b 0 4 ≠ 0x52464957 ∨ leField b 5 1 ≠ 1 ∨ 1 < leField b 4 1 ∨ total < 352 ∨ 16777216 < total ∨
      total ≠ b.length then updBadHeader
  else if leField b 20 4 ≠ (crc32 (slice b 256 (total - 352))).toNat then updBadCrc
  else if Config.signatureValid b = false then updBadSignature
  else if leField b 4 1 ≠ s.updTarget then updWrongTarget
  else if s.fits (headerOf b) = false then updNoStepping
  else 0

/-! ## Commits -/

/-- Commit of 0x1030:01: an image already held is discarded. -/
def imageTargetCommit (v : Nat) : Commit := fun s =>
  if s.updBusy then (abortConflict, s)
  else (0, { (s.mput 0x1030 1 (w v)).setUpd updIdle with reeve := { s.reeve with update := { s.reeve.update with held := none } } })

/-- IMAGE_TARGET_WRITE. -/
def execImageTargetWrite (p : Path) (v : Byte) (s : State) : Host.Outcome State Fault Refusal :=
  s.writeRow p 0x1030 1 [v] (imageTargetCommit v.toNat)

/-- Commit of 0x1030:02, at the LAST segment. -/
def imageCommit (b : Bytes) : Commit := fun s =>
  if s.updBusy then (abortConflict, s)
  else if s.checkImage b = 0 then
    (0, { s.setUpd updHeld with reeve := { s.reeve with update := { s.reeve.update with held := some (headerOf b) } } })
  else (abortInvalid, s.setUpd (s.checkImage b))

/-- IMAGE_WRITE. -/
def execImageWrite (p : Path) (image : Bytes) (s : State) : Host.Outcome State Fault Refusal :=
  s.writeRow p 0x1030 2 image (imageCommit image)

/-- A target's bank replaced. -/
def Flash.setBank (f : Flash) (steward b : Bool) (k : Bank) : Flash :=
  match steward, b with
  | false, false => { f with reeveA := k }
  | false, true => { f with reeveB := k }
  | true, false => { f with stewardA := k }
  | true, true => { f with stewardB := k }

/-- The target is the Steward. -/
def State.updSteward (s : State) : Bool := s.updTarget == 1

/-- The active bank of the target. -/
def State.updActive (s : State) : Bool :=
  if s.updSteward then s.reeve.flash.activeSteward else s.reeve.flash.activeReeve

/-- The target's inactive bank takes new contents. -/
def State.setInactive (s : State) (k : Bank) : State :=
  { s with reeve := { s.reeve with flash := s.reeve.flash.setBank s.updSteward (!s.updActive) k } }

/-- Command 1: the inactive bank is erased and programmed, its header last (R447, R459). -/
def bankWriteCommit : Commit := fun s =>
  if s.updBusy || s.reeve.update.held.isNone then (abortConflict, s)
  else
    let s := (s.setInactive { hdr := none, valid := false }).setUpd updWriting
    (0, { s with reeve := { s.reeve with update := { s.reeve.update with writing := true } } })

/-- IMAGE_BANK_WRITE. -/
def execImageBankWrite (p : Path) (s : State) : Host.Outcome State Fault Refusal :=
  s.writeRow p 0x1030 3 [1] bankWriteCommit

/-- BANK_WRITE_COMPLETE: the read-back passes or fails. -/
def execBankWriteComplete (ok : Bool) (s : State) : Host.Outcome State Fault Refusal :=
  if !s.reeve.powered || !s.reeve.running || !s.reeve.update.writing then .next s
  else
    let s := { s with reeve := { s.reeve with update := { s.reeve.update with writing := false } } }
    .next (if ok then (s.setInactive { hdr := s.reeve.update.held, valid := true }).setUpd updWritten
           else s.setUpd updVerifyFailed)

/-- A Steward activation or fall back warm-resets the channels on the automatic request (R448); one that is still booting
boots once more (R457). -/
def State.restartStewards (s : State) : State :=
  s.eachChan fun s c =>
    if s.cnat c 0 7 = 0 then
      if (s.chan c).st = .booting then s.modChan c fun ch => { ch with rebootWanted := true } else s.warmIf c
    else s

/-- The target's other bank becomes active and the target restarts; nothing stays held (R447, R448, R462). -/
def State.activate (s : State) (cause : Nat) : State :=
  let b := !s.updActive
  let s := { s with reeve := { s.reeve with update := { s.reeve.update with held := none } } }
  if s.updSteward then
    ({ s with reeve := { s.reeve with flash := { s.reeve.flash with activeSteward := b } } }.setUpd updIdle).restartStewards
  else
    let s := { s with reeve := { s.reeve with flash := { s.reeve.flash with activeReeve := b }, restartCause := cause } }
    (s.setUpd updActivating).restartIfDue

/-- Command 2: out of turn before WRITTEN. -/
def activateOk (s : State) : Bool := s.updStatus == updWritten

/-- Command 3: the other bank must be valid. -/
def fallBackOk (s : State) : Bool :=
  let f := s.reeve.flash
  !s.updBusy && (if s.updSteward then f.steward (!s.updActive) else f.reeve (!s.updActive)).valid

/-- Commit of 2 and 3 to 0x1030:03; the restart follows the answer. -/
def restartCommit (ok : State → Bool) : Commit := fun s => if ok s then (0, s) else (abortConflict, s)

/-- The restart after a commit that passed. -/
def State.afterActivate (s : State) (code : AbortCode) (cause : Nat) : State := if code = 0 then s.activate cause else s

/-- IMAGE_ACTIVATE. -/
def execImageActivate (p : Path) (s : State) : Host.Outcome State Fault Refusal :=
  if !s.pathUp p then .next s
  else
    match s.write p 0x1030 3 [2] (restartCommit activateOk) with
    | (code, s') => .next ((s'.answer code).afterActivate code 3)

/-- IMAGE_FALL_BACK. -/
def execImageFallBack (p : Path) (s : State) : Host.Outcome State Fault Refusal :=
  if !s.pathUp p then .next s
  else
    match s.write p 0x1030 3 [3] (restartCommit fallBackOk) with
    | (code, s') => .next ((s'.answer code).afterActivate code 4)

end Sys2Proof.Machine
end

