-- ==== Sys2Proof/Machine/Hang.lean ====
section
/-! DEFINITION. Hangs, their dumps and the recovery that follows; the end of a stop's halt, where a hang may wait for it
(R225 to R228, R244, R247, R252, R261, R270). -/

namespace Sys2Proof.Machine

open Sys2Proof

/-! ## The dump (R228, R261) -/

/-- A section before it is sealed: kind, key byte, flags, sealing key, plaintext. -/
structure Section where
  kind : Nat
  keyByte : Nat
  flags : Nat
  key : BitVec 256
  text : Bytes
deriving Repr

/-- Unit ID of what stands at an end of a Hatch for a job (R11): the ingest unit belongs to its input port, the result writer to the
PCIe endpoint. -/
def Job.unitId (j : Job) (u : HatchUnit) : Nat :=
  match u with
  | .loom n => 0x10 + n.val
  | .still n => 0x18 + n.val
  | .port p => 0x38 + p.val
  | .ingest => 0x38 + j.desc.port.val
  | .result => 0x3C

/-- What holds unit u of the running job: the Hatch that it waits for, or for a Hatch the unit at the end that keeps it waiting
(R80, R228). -/
def Channel.heldBy (ch : Channel) (j : Job) (u : Nat) : Option Nat :=
  let uses := (ch.plan j.desc.plan).facts.hatches
  ch.holds.findSome? fun x =>
    match uses.find? (·.hatch == x.hatch) with
    | none => none
    | some y =>
      let waits := if x.full then j.unitId y.producer else j.unitId y.consumer
      let keeps := if x.full then j.unitId y.consumer else j.unitId y.producer
      if u = waits then some (hatchId x.hatch) else if u = hatchId x.hatch then some keeps else none

/-- Units of CORE that serve the running job (R208, R228). -/
def servesJobs (u : Nat) : Bool :=
  let cls := unitClass u
  cls == 0x02 || cls == 0x03 || cls == 0x04 || cls == 0x05 || cls == 0x08

/-- A record of UNIT_STATE: held with its holder where a Hatch or the Chute holds the unit; the job served and the cycles since its
last retirement for CORE units; what the manual does not state is free (log entry 10). -/
def Channel.unitState (ch : Channel) (h : Hang) (draw u : Nat) : Bytes :=
  let f := fun n => Config.freeNat (draw + 4 * u + n)
  let by_ := match ch.runningJob with
    | some j => ch.heldBy j u
    | none => none
  let by_ := if ch.chute.held.any (fun r => r.source.toNat == u) then some 0x3D else by_
  let free := [0, 1, 3].getD (f 0 % 3) 0
  let job := if servesJobs u then ch.runningJob else none
  let tag := match job with | some j => j.desc.tag.toNat | none => f 1
  let cycles := match job with | some j => (h.at_ - j.progress) * ch.coreMHz h.at_ / 500 | none => f 2
  [BitVec.ofNat 8 u, BitVec.ofNat 8 (if by_.isSome then 2 else free), BitVec.ofNat 8 (by_.getD 0xFF), 0] ++ leBytes 4 tag ++
    leBytes 8 cycles ++ leBytes 16 (f 3)

/-- The UNIT_STATE section: 35 records of 32 bytes. -/
def Channel.unitStateText (ch : Channel) (h : Hang) (draw : Nat) : Bytes := channelUnits.flatMap (ch.unitState h draw)

/-- Draws that UNIT_STATE takes. -/
def unitStateDraws : Nat := 1024

/-- A counter with its wrap bit, as 8 bytes. -/
def counterBytes (v : Nat) (wrapped : Bool) : Bytes := leBytes 8 (v % wrap48 + (if wrapped then 2 ^ 63 else 0))

/-- The COUNTERS section: 96 fixed and 280 programmable counters. -/
def Channel.countersText (ch : Channel) : Bytes :=
  ((List.range 96).flatMap fun j => counterBytes (ch.nat 0x2A0 j) (bitOf (ch.get 0x2A2 (1 + j / 32)) (j % 32))) ++
  channelUnits.flatMap fun u => (List.range 8).flatMap fun i =>
    counterBytes (ch.nat (0x240 + u) (0x11 + i)) (bitOf (ch.get (0x240 + u) 0x0A) i)

/-- The 32 bytes of a descriptor (R92). -/
def descBytes (d : Desc) : Bytes :=
  [BitVec.ofNat 8 d.plan.val, BitVec.ofNat 8 d.arrival.toNat, BitVec.ofNat 8 (d.runLate.toNat + 2 * d.irq.toNat),
   BitVec.ofNat 8 d.port.val] ++ leBytes 4 d.tag.toNat ++ leBytes 8 d.t0.toNat ++ leBytes 8 d.t1.toNat ++
  [BitVec.ofNat 8 d.stream.val] ++ zeros 7

/-- A job entry of 64 bytes; the fields after the descriptor are packed without gaps (log entry 62). -/
def Channel.jobBytes (ch : Channel) (j : Job) : Bytes :=
  let retired := if j.running then j.issued - ch.slate.length else 0
  padTo (descBytes j.desc ++ [BitVec.ofNat 8 j.running.toNat] ++ leBytes 8 j.launched.toNat ++ leBytes 4 retired ++
    [j.breach.getD 0]) 64

/-- A Hatch that the plan assigns, with its 16-byte header: number, fill bytes, producer and consumer, and its bytes. -/
def Channel.hatchBytes (ch : Channel) (j : Job) (x : HatchUse) : Bytes :=
  let b := ch.hatch x.hatch
  leBytes 4 x.hatch.val ++ leBytes 4 b.length ++ leBytes 4 (j.unitId x.producer) ++ leBytes 4 (j.unitId x.consumer) ++
    padTo b ((b.length + 15) / 16 * 16)

/-- The OWNER_STATE section of slot i. -/
def Channel.ownerText (ch : Channel) (i : Slot) : Bytes :=
  let js := ch.jobs.filter fun j => j.owner == i
  let hatches := match js.find? (·.running) with
    | some j => (allSlots.filterMap fun (h : Slot) => (ch.plan j.desc.plan).facts.hatches.find? fun (x : HatchUse) => x.hatch == h).map (ch.hatchBytes j)
    | none => []
  let slate := if js.any (·.running) then ch.slate else []
  leBytes 4 js.length ++ leBytes 4 slate.length ++ leBytes 4 hatches.length ++ zeros 4 ++
    js.flatMap ch.jobBytes ++ slate.flatMap tileBytes ++ hatches.flatten

/-- The sections present, in kind and slot order (R228, R247); those of cause 5 that no longer hold are not VALID. -/
def Channel.dumpSections (ch : Channel) (h : Hang) (draw : Nat) : List Section :=
  let valid := if h.cause = 5 then 0 else 1
  let service := match h.service with
    | none => []
    | some k =>
      [{ kind := 1, keyByte := 0xFF, flags := 1, key := k, text := ch.daybooksText },
       { kind := 2, keyByte := 0xFF, flags := valid, key := k, text := ch.unitStateText h draw },
       { kind := 3, keyByte := 0xFF, flags := 1 + (if ch.observed then 0 else 2), key := k, text := ch.countersText }]
  service ++ h.slots.filterMap fun i =>
    match (ch.owner i).key with
    | some k => some {
        kind := 4, keyByte := i.val, flags := valid, key := k.stream
        text := if h.cause = 5 then zeros 16 else ch.ownerText i }
    | none => none

/-- The next multiple of 64. -/
def align64 (n : Nat) : Nat := (n + 63) / 64 * 64

/-- Offsets of sections of the lengths given, from the end of what precedes them, and the end of the last. -/
def layoutFrom (at_ : Nat) (lens : List Nat) : List Nat × Nat :=
  match lens with
  | [] => ([], at_)
  | n :: r =>
    let o := align64 at_
    let (os, e) := layoutFrom (o + n) r
    (o :: os, e)

/-- The whole dump: header, table, sealed sections at their offsets (R228, R261). -/
def Channel.dumpBytes (ch : Channel) (c : Chan) (h : Hang) (boots reeve : Nat) (draw : Nat) : Bytes :=
  let secs := ch.dumpSections h draw
  let lens := secs.map fun x => x.text.length + 16
  let start := 64 + 16 * secs.length
  let (offs, total) := layoutFrom start lens
  let seq := boots * 2 ^ 32 + (ch.dbg.dumpSeq.toNat + 1) % 2 ^ 32
  let header := leBytes 4 0x48444D50 ++ [1, BitVec.ofNat 8 c.val, BitVec.ofNat 8 h.cause, BitVec.ofNat 8 secs.length] ++
    leBytes 8 h.detect.toNat ++ leBytes 8 seq ++ leBytes 4 (ch.nat 0 4) ++ leBytes 4 reeve ++
    [h.unit, BitVec.ofNat 8 h.epoch] ++ zeros 2 ++ leBytes 4 total ++ leBytes 8 ch.dbg.lastReset.toNat ++ zeros 16
  let table := ((secs.zip lens).zip offs).flatMap fun (x : (Section × Nat) × Nat) =>
    [BitVec.ofNat 8 x.1.1.kind, BitVec.ofNat 8 x.1.1.keyByte] ++ leBytes 2 x.1.1.flags ++ leBytes 4 x.1.2 ++ leBytes 8 x.2
  let head := header ++ table
  (secs.zip offs).zipIdx.foldl (fun (acc : Bytes) (x : (Section × Nat) × Nat) =>
    let q := x.1.1
    let nonce := [4, BitVec.ofNat 8 c.val, BitVec.ofNat 8 q.keyByte, BitVec.ofNat 8 x.2] ++ leBytes 8 seq
    let ct := gcmSeal (keyBytes q.key) nonce head q.text
    padTo acc x.1.2 ++ ct.1 ++ ct.2) head

/-! ## Hang (R225, R226) -/

/-- A DMA engine has work that its ring takes: a descriptor fetch, or a sealed block of a ring that is not full (R225). -/
def Channel.dmaWaits (ch : Channel) : Bool :=
  ch.fetching.isSome || ch.owners.toList.any fun (o : Owner) =>
    [(o.trace, o.ts.sealedQ), (o.result, o.rs.sealedQ), (o.decant, o.ds.sealedQ)].any fun x =>
      x.1.active && !x.1.full && !x.2.isEmpty

/-- The condition of a cause, where the model holds what it speaks of; a Cellar request or a DMA engine without progress is
told by the command (R225). -/
def State.hangHolds (s : State) (c : Chan) (cause : Nat) : Bool :=
  let ch := s.chan c
  if cause = 1 then
    match ch.runningJob with
    | some j => decide (j.progress + tclkOfMs (ch.nat 0x404 2) ≤ s.tclk)
    | none => false
  else if cause = 3 then
    match ch.gov.change with
    | some (.relock _ _ start _ _) => decide (start + tclkOfMs 1 ≤ s.tclk)
    | _ => false
  else if cause = 4 then s.upLink && ch.dmaWaits
  else cause == 2

/-- A hang is counted: 0x8404:04 and :0A. -/
def State.countHang (s : State) (c : Chan) (cause : Nat) : State :=
  (s.ccount c 0x404 4 1).cput c 0x404 0x0A (w cause)

/-- What the dump will need of the moment of the hang. -/
def State.hangRecord (s : State) (c : Chan) (cause : Nat) (unit : Byte) : Hang :=
  let ch := s.chan c
  { cause := cause, unit := unit, detect := s.now, at_ := s.tclk, seq := ch.dbg.dumpSeq
    service := s.reeve.serviceKey.map fun k => subkey k labelGcm (BitVec.ofNat 8 c.val) 0xFF s.reeve.serviceGen
    epoch := ch.nat 0x402 4
    slots := allSlots.filter fun i => (ch.owner i).keyed && ch.jobs.any fun j => j.owner == i
    dumping := ch.on 0x404 1 && ch.dbg.area.isSome }

/-- The channel keeps the record of a hang. -/
def Channel.setHang (ch : Channel) (h : Option Hang) : Channel := { ch with dbg := { ch.dbg with hang := h } }

/-- The Steward declares a hang (R226, steps 1 to 3). -/
def State.declareHang (s : State) (c : Chan) (cause : Nat) (unit : Byte) : State :=
  let h := s.hangRecord c cause unit
  let s := (s.requestStop c 9).countHang c cause
  let s := s.event c { unit := 0x40, num := 0x0D01, pay := payAt 8 unit.toNat }
  (s.modChan c (·.setHang (some h))).raiseIrq c irqHang

/-- The watchdog runs (R225, R460): from the end of pairing, except in a stop. -/
def Channel.watched (ch : Channel) : Bool := ch.steward && ch.mayStop && !ch.stopped

/-- A dump is being written. -/
def Channel.dumping (ch : Channel) : Bool := match ch.dbg.hang with | some h => h.dumping | none => false

/-- HANG_DETECTED (R11, R225, R244): causes 1 to 4, of a unit of the channel; one that arises while a dump is written is only
counted. -/
def execHangDetected (c : Chan) (cause : Fin 6) (unit : Byte) (s : State) : Host.Outcome State Fault Refusal :=
  s.whenChan c fun s =>
    let ch := s.chan c
    if cause = 0 ∨ cause = 5 ∨ isChannelUnit unit.toNat = false then .next s
    else if ch.dumping then .next (s.countHang c cause.val)
    else if ch.watched && s.hangHolds c cause.val then .next (s.declareHang c cause.val unit)
    else .next s

/-- After a hang with auto-recover: the release of R210 and a warm reset (R226). -/
def State.recover (s : State) (c : Chan) : State :=
  let s := s.modChan c (·.setHang none)
  if s.con c 0x404 3 then (if (s.chan c).mayRelease then s.releaseStop c else s).warmReset c else s

/-- CORE_HALTED (R210, R226): a hang that has no dump to write is handled once the channel is STOPPED. -/
def execCoreHalted (c : Chan) (s : State) : Host.Outcome State Fault Refusal :=
  s.whenChan c fun s =>
    if (s.chan c).stop.st = 1 then
      let s := s.halted c
      .next (match (s.chan c).dbg.hang with
        | some h => if h.dumping || h.cause == 5 then s else s.recover c
        | none => s)
    else .next s

/-- HEARTBEAT_MISSED (R226): the Reeve stops and warm-resets the channel; the Steward writes the dump after its restart.  While a
dump is written it is only counted (R244). -/
def execHeartbeatMissed (c : Chan) (s : State) : Host.Outcome State Fault Refusal :=
  s.whenReeve fun s =>
    let ch := s.chan c
    if ch.dumping then .next (s.countHang c 5)
    else if ch.watched then
      let h := s.hangRecord c 5 0x40
      let s := ((s.requestStop c 9).countHang c 5).halted c
      .next ((s.modChan c (·.setHang (some h))).warmReset c)
    else .next s

/-- The dump stands in its slot (R226, R227, R247). -/
def State.storeDump (s : State) (c : Chan) (h : Hang) (page : Nat) : State :=
  let ch := s.chan c
  let n := ch.dbg.nextDump
  let off := page * pageSize + 262144 * n
  let reeve := (s.reeve.image.map (·.version.toNat)).getD 0
  let bytes := ch.dumpBytes c h (s.mnat 0x4040 3) reeve s.free
  let ch := { ch with
    cellar := (ch.writeCellar (ch.channelKeys c) off bytes).cellar
    dbg := { ch.dbg with
      dumps := ch.dbg.dumps.set n (some bytes.length), nextDump := (n + 1) % 2, dumpSeq := ch.dbg.dumpSeq + 1 } }
  let ch := ((ch.count 0x404 5 1).put 0x404 6 (w off)).put 0x404 7 (w bytes.length)
  let ch := if h.service.isNone then ch.orBits 0x401 6 2 else ch
  let s := { s with free := s.free + unitStateDraws }
  (s.setChan c ch).event c { unit := 0x40, num := 0x0D02, pay := w off }

/-- The dump is abandoned at an uncorrectable Cellar error (R247). -/
def State.abandonDump (s : State) (c : Chan) : State :=
  let s := s.modChan c fun ch => { ch with dbg := { ch.dbg with dumps := ch.dbg.dumps.set ch.dbg.nextDump none } }
  s.event c { unit := 0x40, num := 0x0D02, pay := BitVec.allOnes 64 }

/-- HANG_DUMP_COMPLETE (R226): in a STOPPED channel, or after the restart of a Steward that had missed its heartbeat. -/
def execHangDumpComplete (c : Chan) (cellarError : Bool) (s : State) : Host.Outcome State Fault Refusal :=
  s.whenChan c fun s =>
    let ch := s.chan c
    match ch.dbg.hang, ch.dbg.area with
    | some h, some page =>
      let ready := if h.cause = 5 then ch.steward else ch.stop.st == 2
      if h.dumping && ready then
        let s := (if cellarError || ch.xtsFault then s.abandonDump c else s.storeDump c h page).raiseIrq c irqHang
        .next (if h.cause = 5 then s.modChan c (·.setHang none) else s.recover c)
      else .next s
    | _, _ => .next s

end Sys2Proof.Machine
end

