-- ==== Sys2Proof/Machine/Power.lean ====
section
/-! DEFINITION. Supply, shares, the Governor's ladder, frequency and voltage changes, temperature (R400 to R417, R422 to
R431). -/

namespace Sys2Proof.Machine

open Sys2Proof

/-! ## Supply (R400) -/

/-- Sticky bits of 0x2000:06. -/
def underVoltageBit : Word := 1
def overVoltageBit : Word := 2
def capLimitingBit : Word := 4

/-- SUPPLY_MARGINAL: 38 to below 40 V (low), or above 60 to 63 V: every ceiling is held at 600 MHz. -/
def execSupplyMarginal (low : Bool) (s : State) : Host.Outcome State Fault Refusal :=
  s.whenReeve fun s =>
    let s := s.morBits 0x2000 6 (if low then underVoltageBit else overVoltageBit)
    .next { s with reeve := { s.reeve with supplyHold := true } }

/-- SUPPLY_UNDERVOLTAGE: below 38 V for 100 µs. -/
def execSupplyUndervoltage (s : State) : Host.Outcome State Fault Refusal :=
  s.whenReeve fun s =>
    let s := s.morBits 0x2000 6 underVoltageBit
    let s := s.eachChan fun s c => if (s.chan c).st = .poweredDown then s else s.powerDown c 0x22
    .next { s with reeve := { s.reeve with underDown := true } }

/-- SUPPLY_CRITICAL: above 63 V the whole module loses power. -/
def execSupplyCritical (s : State) : Host.Outcome State Fault Refusal :=
  if s.reeve.powered then .next s.unpowered else .next s

/-- SUPPLY_RECOVERED: 41 to 59 V for 10 ms, or for 100 ms, after which channels may power up. -/
def execSupplyRecovered (powerUp : Bool) (s : State) : Host.Outcome State Fault Refusal :=
  s.whenReeve fun s =>
    .next { s with reeve := { s.reeve with
      supplyHold := false, underDown := if powerUp then false else s.reeve.underDown } }

/-! ## Predictions (R402, R403) -/

/-- A power in mW, to the nearest W. -/
def wattsOf (mw : Nat) : Nat := (mw + 500) / 1000

/-- f × V(f)^2 of R403, for a consumed guard band. -/
def load (f g : Nat) : Nat := f * voltage f g ^ 2

/-- The 37 CORE frequencies, lowest first (R29). -/
def steps25 : List Nat := (List.range 37).map fun i => 600 + 25 * i

/-- Consumed guard band of a channel. -/
def Channel.guardBand (ch : Channel) : Nat := ch.nat 0x702 1

/-- P_pred(f) × the load at the present frequency does not exceed limit × that load. -/
def Channel.meetsLimit (ch : Channel) (mw limit f : Nat) : Bool :=
  decide (mw * load f ch.guardBand ≤ limit * load ch.freq ch.guardBand)

/-- The highest step whose predicted power meets a limit in mW, 600 MHz when none does (R403). -/
def Channel.highestStep (ch : Channel) (mw limit : Nat) : Nat :=
  ((steps25.filter fun f => ch.meetsLimit mw limit f).getLast?).getD 600

/-! ## Limits and ceilings (R401, R403, R404, R407, R408) -/

/-- Every channel's share limit while the Reeve is away (R405, R406). -/
def staticCap : Nat := 150

/-- The share that limits the channel now, in W (R401, R406). -/
def State.shareNow (s : State) (c : Chan) : Option Nat :=
  match (s.chan c).gov.share, s.reeve.running with
  | some w, true => some w
  | some w, false => some (min w staticCap)
  | none, true => none
  | none, false => some staticCap

/-- Channel power limit in W (R401). -/
def State.powerLimit (s : State) (c : Chan) : Nat :=
  match s.shareNow c with
  | some w => min (s.cnat c 0x700 6) w
  | none => s.cnat c 0x700 6

/-- The power measurement has failed (R417). -/
def Channel.powerFault (ch : Channel) : Bool := bitOf (ch.get 0x203 0x0B) 0

/-- Whole degrees of a temperature in 0.1 °C above a point in °C. -/
def degreesAbove (t : Int) (point : Nat) : Nat := ((t - 10 * point) / 10).toNat

/-- A temperature register as a number; 0x8000 is a failed sensor (R185, R417). -/
def tempOf (v : Word) : Option Int := if v.toNat % 65536 = 0x8000 then none else some (BitVec.ofNat 16 v.toNat).toInt

/-- The hottest valid die sensor, and its number (R415). -/
def Channel.hottestDie (ch : Channel) : Option (Int × Nat) :=
  (List.range 6).foldl (fun best i =>
    match tempOf (ch.get 0x203 (2 + i)), best with
    | some t, some b => if b.1 < t then some (t, i) else some b
    | some t, none => some (t, i)
    | none, b => b) none

/-- The HBM temperature. -/
def Channel.hbmTemp (ch : Channel) : Option Int := tempOf (ch.get 0x203 8)

/-- Die sensors that read 0x8000. -/
def Channel.deadDie (ch : Channel) : Nat := ((List.range 6).filter fun i => (tempOf (ch.get 0x203 (2 + i))).isNone).length

/-- The die action points fall by 5 °C with one sensor excluded (R417). -/
def Channel.dieDrop (ch : Channel) : Nat := if ch.deadDie = 0 then 0 else 5

/-- The limit in force at the whole degrees over its throttle point: one step at least, until it ends (R416, DEDUCED, log entry
101). -/
def throttled25 (past : Nat) : Nat := max 600 (1500 - 25 * max 1 past)

/-- The thermal limit: of the dies and of the HBM, each from its throttle point until 3 °C below it (R416). -/
def Channel.thermalLimit (ch : Channel) : Nat :=
  let d := match ch.gov.dieHot, ch.hottestDie with
    | some _, some x => throttled25 (degreesAbove x.1 (100 - ch.dieDrop))
    | _, _ => 1500
  let h := match ch.gov.hbmHot, ch.hbmTemp with
    | true, some t => throttled25 (degreesAbove t 95)
    | _, _ => 1500
  min d h

/-- f_prot of rung 1 (R400, R416, R417). -/
def State.fProt (s : State) (c : Chan) : Nat :=
  let ch := s.chan c
  let a := if s.reeve.supplyHold then 600 else 1500
  let b := if ch.gov.sensorHold || ch.powerFault then 1000 else 1500
  min a (min b ch.thermalLimit)

/-- ceil_hw of R407. -/
def State.ceilHw (s : State) (c : Chan) : Nat := min 1500 (min (s.fProt c) (s.chan c).gov.fP)

/-- f_wear while wear saving is on (R419). -/
def Channel.fWear (ch : Channel) : Nat := if ch.on 0x700 9 then ch.gov.wear.fWear else 1500

/-- The ceiling of R407. -/
def State.ceilingNow (s : State) (c : Chan) : Nat :=
  let ch := s.chan c
  let hw := s.ceilHw c
  let floor := ch.nat 0x700 5
  if floor ≠ 0 ∧ floor ≤ hw then min hw (max ch.fWear floor) else min hw ch.fWear

/-- The target of R407. -/
def State.targetNow (s : State) (c : Chan) : Nat :=
  min (s.ceilingNow c) (max (s.cnat c 0x700 4) (s.cnat c 0x700 5))

/-- Rung 2 when the share sets f_P, or gives the same f_P as the cap; else rung 3 (R408). -/
def State.capRung (s : State) (c : Chan) : Nat :=
  match s.shareNow c with
  | some w =>
    let ch := s.chan c
    let cap := ch.nat 0x700 6
    let mw := ch.gov.milliwatts
    if w ≤ cap ∨ ch.highestStep mw (1000 * w) = ch.highestStep mw (1000 * cap) then 2 else 3
  | none => 3

/-- The strongest active rung (R408). -/
def State.rungNow (s : State) (c : Chan) : Nat :=
  let ch := s.chan c
  let hw := s.ceilHw c
  let floor := ch.nat 0x700 5
  let req := ch.nat 0x700 4
  let ceil := s.ceilingNow c
  let target := s.targetNow c
  if s.fProt c < 1500 ∧ hw = s.fProt c then 1
  else if ch.gov.fP < 1500 ∧ hw = ch.gov.fP then s.capRung c
  else if floor ≠ 0 ∧ ((floor ≤ hw ∧ ch.fWear < ceil) ∨ (req < floor ∧ req < target)) then 4
  else if ch.fWear < 1500 ∧ ceil = ch.fWear then 5
  else if target < ceil then 6
  else 0

/-! ## Floor breaches (R409, R426) -/

/-- The floor is compared with ceil_hw; a change from held to breached is reported. -/
def State.judgeFloor (s : State) (c : Chan) (rung : Nat) : State :=
  let floor := s.cnat c 0x700 5
  let breached := decide (floor ≠ 0 ∧ s.ceilHw c < floor)
  let was := (s.chan c).gov.breached
  let s := s.modChan c fun ch => { ch with gov := { ch.gov with breached := breached } }
  if breached && !was then
    let s := s.ccount c 0x701 4 1
    s.event c {
      unit := 0x41, num := 0x0E03, pay := payAt 8 (s.ceilingNow c) ||| payAt 10 floor ||| payAt 12 rung }
  else s

/-! ## Frequency and voltage (R410 to R414) -/

/-- Both lie in band L (600 to 1000 MHz), or both in band H. -/
def sameBand (a b : Nat) : Bool := decide (a ≤ 1000) == decide (b ≤ 1000)

/-- |a − b|. -/
def apart (a b : Nat) : Nat := (a - b) + (b - a)

/-- TCLK of a regulator move: 10 mV per µs and 2 µs of settling (R413). -/
def settleTime (mv mv' : Nat) : Nat := 50 * apart mv mv' + tclkOfUs 2

/-- The change itself begins: a glide or a relock (R410, R412). -/
def Channel.beginChange (ch : Channel) (tclk f : Nat) : Channel :=
  let old := ch.freq
  let change : Change :=
    if apart old f ≤ 100 ∧ sameBand old f = true then .glide old f tclk else .relock old f tclk none 0
  { ch with gov := { ch.gov with change := some change } }

/-- A change to f is started: a rise waits for its voltage, a fall begins at once (R413).  A regulator still on its way down
is taken to stand at the voltage it is going to. -/
def Channel.startChange (ch : Channel) (tclk f : Nat) : Channel :=
  let g := ch.guardBand
  let now := if ch.gov.fallAt.isSome then voltage ch.freq g else ch.nat 0x700 8
  let need := voltage f g
  if ch.freq < f ∧ now < need then
    { ch.put 0x700 8 (w now) with
      gov := { ch.gov with fallAt := none, change := some (.voltage f (tclk + settleTime now need)) } }
  else ch.beginChange tclk f

/-- The decision of a Governor period about the CORE clock (R407, R410, R413, R425). -/
def Channel.steer (ch : Channel) (tclk target : Nat) : Channel :=
  match ch.gov.change with
  | none => if target = ch.freq then ch else ch.startChange tclk target
  | some (.voltage f _) =>
    if target ≤ ch.freq then
      let ch := { ch with gov := { ch.gov with
        change := none
        fallAt := some (tclk + settleTime (voltage ch.freq ch.guardBand) (voltage f ch.guardBand)) } }
      if target = ch.freq then ch else ch.startChange tclk target
    else ch
  | some _ => ch

/-- The voltage after a change: a fall follows the frequency (R413); a guard band that grew meanwhile is made up (R402). -/
def Channel.afterChange (ch : Channel) (tclk : Nat) : Channel :=
  let need := voltage ch.freq ch.guardBand
  let now := ch.nat 0x700 8
  let fall := if need < now then some (tclk + settleTime now need) else none
  let ch := if now < need then ch.put 0x700 8 (w need) else ch
  { ch with gov := { ch.gov with change := none, fallAt := fall } }

/-- VOLTAGE_SETTLED (R413). -/
def execVoltageSettled (c : Chan) (s : State) : Host.Outcome State Fault Refusal :=
  s.whenChan c fun s =>
    let ch := s.chan c
    match ch.gov.change, ch.gov.fallAt with
    | some (.voltage f t), _ =>
      if t ≤ s.tclk then .next (s.setChan c ((ch.put 0x700 8 (w (voltage f ch.guardBand))).beginChange s.tclk f))
      else .next s
    | _, some t =>
      if t ≤ s.tclk then
        .next (s.setChan c { ch.put 0x700 8 (w (voltage ch.freq ch.guardBand)) with gov := { ch.gov with fallAt := none } })
      else .next s
    | _, none => .next s

/-- GLIDE_END (R411): 25 MHz per µs. -/
def execGlideEnd (c : Chan) (s : State) : Host.Outcome State Fault Refusal :=
  s.whenChan c fun s =>
    match (s.chan c).gov.change with
    | some (.glide fOld fNew start) =>
      if start + 20 * apart fOld fNew ≤ s.tclk then
        let s := s.modChan c fun ch => ((ch.setFreq fNew).count 0x701 1 1).afterChange s.tclk
        .next (s.event c { unit := 0x41, num := 0x0E00, pay := payAt 8 fOld ||| payAt 10 fNew })
      else .next s
    | _ => .next s

/-- RELOCK_LOCKED (R412). -/
def execRelockLocked (c : Chan) (s : State) : Host.Outcome State Fault Refusal :=
  s.whenChan c fun s =>
    match (s.chan c).gov.change with
    | some (.relock fOld fNew start none retries) =>
      .next (s.modChan c fun ch => { ch with gov := { ch.gov with
        change := some (.relock fOld fNew start (some s.tclk) retries) } })
    | _ => .next s

/-- Queued jobs whose launch time fell inside the pause come due late (R70). -/
def Channel.dueLate (ch : Channel) (now : T64) : Channel :=
  { ch with jobs := ch.jobs.map fun (j : Job) =>
      if !j.running && !j.desc.arrival && decide (j.launchAt.toNat ≤ now.toNat) then { j with late := true } else j }

/-- CORE is back on its PLL: the pause is counted and traced (R412, R414); RELOCK_STALL_NS has grown with every edge of it. -/
def State.endRelock (s : State) (c : Chan) (fOld fNew start : Nat) : State :=
  let pause := 2 * (s.tclk - start)
  let s := s.modChan c fun ch =>
    ((((ch.setFreq fNew).count 0x701 2 1).count 0x701 3 pause 64).afterChange s.tclk).dueLate s.now
  s.event c { unit := 0x41, num := 0x0E01, pay := payAt 8 fOld ||| payAt 10 fNew ||| payAt 12 pause }

/-- RELOCK_END (R412): after 2 µs of settling. -/
def execRelockEnd (c : Chan) (s : State) : Host.Outcome State Fault Refusal :=
  s.whenChan c fun s =>
    match (s.chan c).gov.change with
    | some (.relock fOld fNew start (some t) _) =>
      if t + tclkOfUs 2 ≤ s.tclk then .next (s.endRelock c fOld fNew start) else .next s
    | _ => .next s

/-- PLL_LOCK_TIMEOUT (R431): no lock within 4 µs; up to three retries, compute held on the safe clock. -/
def execPllLockTimeout (c : Chan) (s : State) : Host.Outcome State Fault Refusal :=
  s.whenChan c fun s =>
    match (s.chan c).gov.change with
    | some (.relock fOld fNew start none retries) =>
      if retries < 3 ∧ start + tclkOfUs (4 * (retries + 1)) ≤ s.tclk then
        .next (s.modChan c fun ch => { ch with gov := { ch.gov with
          change := some (.relock fOld fNew start none (retries + 1)) } })
      else .next s
    | _ => .next s

/-! ## The Governor period (R403, R404, R407, R424) -/

/-- The highest step under 97 % of a limit given in W (R403): predictions against 970 mW per W. -/
def Channel.riseStep (ch : Channel) (mw limit : Nat) : Nat :=
  ((steps25.filter fun f => ch.meetsLimit mw (970 * limit) f).getLast?).getD 600

/-- f_P after a measurement, with the run of periods below the limit (R403). -/
def Channel.powerCeiling (ch : Channel) (mw limit : Nat) : Nat × Nat :=
  if 1000 * limit < mw then (ch.highestStep mw (1000 * limit), 0)
  else if mw < 1000 * limit then
    let n := ch.gov.below + 1
    if 10 ≤ n then (max ch.gov.fP (min (ch.gov.fP + 100) (ch.riseStep mw limit)), n) else (ch.gov.fP, n)
  else (ch.gov.fP, 0)

/-- The smallest m of R404 that meets the limit, 12 at most: issue in 16 − m of every 16 cycles scales the power (log
entry 64). -/
def dutyFor (full limit : Nat) : Nat :=
  ((List.range 13).find? fun m => decide (1 ≤ m ∧ full * (16 - m) ≤ 16 * limit)).getD 12

/-- The duty throttle after a measurement (R404). -/
def Channel.dutyThrottle (ch : Channel) (mw limit : Nat) : Gov :=
  let g := ch.gov
  let full := mw * 16 / (16 - g.duty)
  let meets := ch.meetsLimit full (1000 * limit) 600
  let pred := full * load 600 ch.guardBand / max 1 (load ch.freq ch.guardBand)
  if g.fP = 600 ∧ meets = false then { g with duty := dutyFor pred (1000 * limit), dutyOk := 0 }
  else if g.duty = 0 then { g with dutyOk := 0 }
  else if 10 ≤ g.dutyOk + 1 then { g with duty := 0, dutyOk := 0 }
  else { g with dutyOk := g.dutyOk + 1 }

/-- Measured power enters the Governor's limits; a failed measurement leaves them (R403, R404, R417). -/
def State.measurePower (s : State) (c : Chan) (mw : Nat) : State :=
  let ch := s.chan c
  if ch.powerFault then s
  else
    let limit := s.powerLimit c
    let full := mw * 16 / (16 - ch.gov.duty)
    let fb := ch.powerCeiling full limit
    let ch := { ch with gov := { ch.gov with fP := fb.1, below := fb.2, milliwatts := mw } }
    let ch := { ch with gov := ch.dutyThrottle mw limit }
    s.setChan c (ch.put 0x700 7 (w (wattsOf mw)))

/-- Cycles that the duty throttle held in the period that ends, m of every 16 CORE cycles of 10 µs, count as HELD_CYCLES of both
Looms (R404). -/
def Channel.countDuty (ch : Channel) (now : T64) : Channel :=
  let n := ch.freq * 10 * ch.gov.duty / 16
  (ch.pushCount 0x10 0x0082 now n).pushCount 0x11 0x0082 now n

/-- TRACE_THROTTLE: the trace throttle of R160 came on or went off (R160, R180). -/
def State.tellThrottle (s : State) (c : Chan) (was : Bool) : State :=
  let ch := s.chan c
  if ch.throttled = was then s
  else s.event c { unit := 0x3D, num := 0x0B03, pay := payAt 8 ch.throttled.toNat ||| payAt 9 ch.effectiveCap }

/-- Commit of 0x8300:03, the trace cap requested (R155, R160). -/
def traceCapCommit (c : Chan) (v : Nat) : Commit := commitOk fun s =>
  (s.modChan c fun ch => (ch.refill s.tclk).put 0x300 3 (w v)).tellThrottle c (s.chan c).throttled

/-- The ladder is evaluated: ceiling, rung, events, floor, and the CORE clock (R407 to R410, R424). -/
def State.ladder (s : State) (c : Chan) : State :=
  let oldCeil := s.cnat c 0x700 2
  let oldRung := s.cnat c 0x700 3
  let ceil := s.ceilingNow c
  let rung := s.rungNow c
  let limit := s.powerLimit c
  let target := s.targetNow c
  let was := (s.chan c).throttled
  let s := s.modChan c fun ch => ((ch.refill s.tclk).put 0x700 2 (w ceil)).put 0x700 3 (w rung)
  let s := s.tellThrottle c was
  let s := if ceil = oldCeil then s
    else s.event c { unit := 0x41, num := 0x0E02, pay := payAt 8 ceil ||| payAt 10 rung }
  let s := if (rung = 2 ∨ rung = 3) ∧ rung ≠ oldRung then
      s.event c { unit := 0x41, num := 0x0E05, pay := payAt 8 (if rung = 2 then 1 else 0) ||| payAt 10 limit }
    else s
  let s := s.judgeFloor c rung
  s.modChan c fun ch => ch.steer s.tclk target

/-- GOVERNOR_PERIOD (R403): every 10 µs while CORE has its clock. -/
def execGovernorPeriod (c : Chan) (milliwatts : Nat) (s : State) : Host.Outcome State Fault Refusal :=
  s.whenChan c fun s =>
    if (s.chan c).freq = 0 then .next s
    else .next (((s.modChan c (·.countDuty s.now)).measurePower c milliwatts).ladder c)

/-! ## Requests (R29, R357, R426) -/

/-- Commit of 0x8700:05: a floor above ceil_hw is breached at once. -/
def floorCommit (c : Chan) (v : Nat) : Commit := fun s =>
  let s := s.cput c 0x700 5 (w v)
  (0, s.judgeFloor c (s.rungNow c))

/-- FLOOR_REQUEST_WRITE. -/
def execFloorRequestWrite (p : Path) (c : Chan) (v : BitVec 16) (s : State) : Host.Outcome State Fault Refusal :=
  s.writeRow p (chanIndex c 0x700) 5 (leBytes 2 v.toNat) (floorCommit c v.toNat)

/-- FREQUENCY_REQUEST_WRITE. -/
def execFrequencyRequestWrite (p : Path) (c : Chan) (v : BitVec 16) (s : State) : Host.Outcome State Fault Refusal :=
  s.writeRow p (chanIndex c 0x700) 4 (leBytes 2 v.toNat) (commitOk (·.cput c 0x700 4 (w v.toNat)))

/-! ## The module cap (R405, R406, R427, R428) -/

/-- P_pred(f) in W of a channel drawing the power given in mW, rounded up to 1 W. -/
def Channel.predW (ch : Channel) (mw f : Nat) : Nat :=
  let d := 1000 * max 1 (load ch.freq ch.guardBand)
  (mw * load f ch.guardBand + d - 1) / d

/-- What the division knows of a channel: computing, base, need, floor, limit. -/
structure Claim where
  active : Bool
  power : Nat
  base : Nat
  need : Nat
  floor : Nat
  lim : Nat
deriving Repr

/-- The claim of channel c at the power measured, in mW; that power is rounded up to 1 W. -/
def State.claim (s : State) (c : Chan) (mw : Nat) : Claim :=
  let ch := s.chan c
  let base := ch.predW mw 600
  let floor := ch.nat 0x700 5
  { active := ch.st == .ready || ch.st == .computeDisabled, power := (mw + 999) / 1000, base := base
    need := if floor = 0 then base else ch.predW mw floor, floor := floor, lim := min 170 (ch.nat 0x700 6) }

/-- The largest n up to 170 for which the shares stay within the amount. -/
def largest (p : Nat → Bool) : Nat := (((List.range 171).filter p).getLast?).getD 0

/-- The division of R405 of an amount in mW among the claims: a share in W for each. -/
def divide (amount : Nat) (cs : List Claim) : List Nat :=
  let live := cs.filter (·.active)
  let idle := ((cs.filter fun x => !x.active).map (·.power)).sum
  let a := amount - 1000 * idle
  let equal := fun (l : Nat) (x : Claim) => max x.need (min l x.lim)
  let extra := fun (m : Nat) (x : Claim) => x.base + (if x.floor = 0 then 0 else min (x.need - x.base) m)
  let total := fun (f : Claim → Nat) => 1000 * (live.map f).sum
  let share : Claim → Nat :=
    if total (·.need) ≤ a then equal (largest fun l => total (equal l) ≤ a)
    else if total (·.base) ≤ a then extra (largest fun m => total (extra m) ≤ a)
    else fun x => x.base * a / max 1 (total (·.base))
  cs.map fun x => if x.active then min (share x) x.lim else x.power

/-- A channel's new share leaves the Reeve; its event goes to every channel, as all of class 0x10 do (R173, R405, R406). -/
def State.sendShare (s : State) (c : Chan) (share : Nat) : State :=
  let g := (s.chan c).gov
  let last := match g.newShare with | some n => some n | none => g.share
  if last = some share then s
  else
    let s := s.modChan c fun ch => { ch with gov := { ch.gov with newShare := some share } }
    let s := s.moduleEvent { unit := 0xF0, num := 0x1001, pay := payAt 8 share }
    s.mput 0x2000 4 (w share)

/-- ALLOCATION_TICK (R405, R406): input power and channel powers of the last 1 ms, in mW. -/
def execAllocationTick (inputMw : Nat) (chanMw : List Nat) (s : State) : Host.Outcome State Fault Refusal :=
  s.whenReeve fun s =>
    let power := fun c : Chan => chanMw.getD c.val 0
    let other := inputMw - (allChans.map power).sum
    let cs := allChans.map fun c => s.claim c (power c)
    let shares := divide (1000 * s.mnat 0x2000 3 - other) cs
    let s := (s.mput 0x2000 2 (w (wattsOf inputMw))).mcount 0x2000 5 inputMw 64
    let s := s.eachChan fun s c => s.sendShare c (shares.getD c.val 0)
    let limiting := (cs.zip shares).any fun x => x.1.active && decide (x.2 < x.1.lim)
    .next (if limiting then s.morBits 0x2000 6 capLimitingBit else s)

/-- SHARE_ARRIVAL (R406). -/
def execShareArrival (c : Chan) (s : State) : Host.Outcome State Fault Refusal :=
  s.whenLive fun s =>
    .next (s.modChan c fun ch =>
      match ch.gov.newShare with
      | some n => { ch with gov := { ch.gov with share := some n, newShare := none } }
      | none => ch)

/-! ## Temperature (R185, R415 to R417) -/

/-- The seven readings are stored. -/
def Channel.storeTemps (ch : Channel) (die : List (BitVec 16)) (hbm : BitVec 16) : Channel :=
  let ch := (List.range 6).foldl (fun ch i => ch.put 0x203 (2 + i) (wInt (die.getD i 0x8000).toInt)) ch
  let ch := ch.put 0x203 8 (wInt hbm.toInt)
  let dead := (List.range 7).foldl (fun n i => if (tempOf (ch.get 0x203 (2 + i))).isNone then n + 2 ^ i else n) 0
  let hold := decide (2 ≤ ch.deadDie) || ch.hbmTemp.isNone
  { ch with gov := { ch.gov with
    failed := BitVec.ofNat 7 dead, sensorHold := ch.gov.sensorHold || hold
    hottest := match ch.hottestDie with | some x => max ch.gov.hottest x.1 | none => ch.gov.hottest } }

/-- THERMAL_LIMIT of a sensor (R408, R431). -/
def State.thermalEvent (s : State) (c : Chan) (sensor : Nat) (t : Int) : State :=
  s.event c { unit := 0x41, num := 0x0E04, pay := payAt 8 sensor ||| payAt 9 (BitVec.ofInt 16 t).toNat }

/-- The die throttle begins at its action point and ends 3 °C below the point where it began (R416). -/
def State.dieThrottle (s : State) (c : Chan) : State :=
  let ch := s.chan c
  match ch.hottestDie with
  | none => s
  | some (t, i) =>
    let set := fun b => s.modChan c fun ch => { ch with gov := { ch.gov with dieHot := b } }
    match ch.gov.dieHot with
    | none => if 10 * ((100 - ch.dieDrop : Nat) : Int) ≤ t then (set (some (100 - ch.dieDrop))).thermalEvent c i t else s
    | some began => if t ≤ 10 * ((began : Int) - 3) then set none else s

/-- The HBM throttle, in the same way. -/
def State.hbmThrottle (s : State) (c : Chan) : State :=
  let ch := s.chan c
  match ch.hbmTemp with
  | none => s
  | some t =>
    let set := fun b => s.modChan c fun ch => { ch with gov := { ch.gov with hbmHot := b } }
    if ch.gov.hbmHot = false ∧ 950 ≤ t then (set true).thermalEvent c 6 t
    else if ch.gov.hbmHot = true ∧ t ≤ 920 then set false
    else s

/-- Hot refresh of the HBM from 85 °C (R416). -/
def State.hotRefresh (s : State) (c : Chan) : State :=
  let ch := s.chan c
  match ch.hbmTemp with
  | none => s
  | some t =>
    let set := fun b => s.modChan c fun ch => { ch with gov := { ch.gov with hotRefresh := b } }
    if ch.gov.hotRefresh = false ∧ 850 ≤ t then
      (set true).event c { unit := 0x21, num := 0x0702, pay := payAt 8 ((t / 10).toNat % 256) }
    else if ch.gov.hotRefresh = true ∧ t ≤ 820 then set false
    else s

/-- A trip: reported, counted, and the channel powered down (R416, R431). -/
def State.trip (s : State) (c : Chan) (sensor : Nat) (t : Int) (reason : Byte) : State :=
  let s := s.thermalEvent c sensor t
  let s := s.modChan c fun ch => { ch with gov := { ch.gov with trips := s.tclk :: ch.gov.trips, coolSince := none } }
  s.powerDown c reason

/-- The temperature that trips the dies, in tenths of a degree; 5 °C lower with one die sensor excluded (R416, R417). -/
def Channel.tripPoint (ch : Channel) : Int := 10 * (115 - (ch.dieDrop : Int))

/-- The sensor that trips the channel, its temperature and the reason: a die at its trip point, else the HBM at 105 °C
(R416). -/
def Channel.tripCause (ch : Channel) : Option (Nat × Int × Byte) :=
  let hbm := match ch.hbmTemp with
    | some u => if 1050 ≤ u then some (6, u, 0x21) else none
    | none => none
  match ch.hottestDie with
  | some (t, i) => if ch.tripPoint ≤ t then some (i, t, 0x20) else hbm
  | none => hbm

/-- The channel trips where a sensor stands at its trip point. -/
def State.tripIfHot (s : State) (c : Chan) : State :=
  match (s.chan c).tripCause with
  | some (i, t, reason) => s.trip c i t reason
  | none => s

/-- Throttles, hot refresh and trips after a sample (R416). -/
def State.judgeTemps (s : State) (c : Chan) : State :=
  (((s.dieThrottle c).hbmThrottle c).hotRefresh c).tripIfHot c

/-- A channel without power cools: since when every sensor that reads has read below 85 °C (R416, R417). -/
def Channel.cooling (ch : Channel) (tclk : Nat) (die : List (BitVec 16)) (hbm : BitVec 16) : Channel :=
  let cool := (hbm :: die).all fun v => decide (v = 0x8000 ∨ v.toInt < 850)
  { ch with gov := { ch.gov with coolSince := if cool then some (ch.gov.coolSince.getD tclk) else none } }

/-- TEMPERATURE_SAMPLE (R185, R415, R416). -/
def execTemperatureSample (c : Chan) (die : List (BitVec 16)) (hbm : BitVec 16) (s : State) :
    Host.Outcome State Fault Refusal :=
  s.whenLive fun s =>
    if (s.chan c).st = .poweredDown then .next (s.modChan c (·.cooling s.tclk die hbm))
    else .next ((s.modChan c fun ch => (ch.storeTemps die hbm).put 0x203 0x0A s.now).judgeTemps c)

/-- SENSOR_FAULT (R207, R417): die sensors 0 to 5, HBM 6. -/
def execSensorFault (c : Chan) (sensor : Fin 7) (s : State) : Host.Outcome State Fault Refusal :=
  s.whenChan c fun s =>
    let ch := s.chan c
    let die := (List.range 6).map fun i =>
      if i = sensor.val then 0x8000 else BitVec.ofNat 16 (ch.nat 0x203 (2 + i))
    let hbm := if sensor.val = 6 then 0x8000 else BitVec.ofNat 16 (ch.nat 0x203 8)
    .next (s.setChan c (ch.storeTemps die hbm))

/-- THERMAL_RECOVERY (R416): the Reeve powers the channel up after 10 s below 85 °C, unless it has tripped for the third time
within one hour. -/
def execThermalRecovery (c : Chan) (s : State) : Host.Outcome State Fault Refusal :=
  let r := (s.chan c).reason
  if r = 0x20 ∨ r = 0x21 then execChannelPowerUp c s else .next s

/-- POWER_MEASUREMENT_FAULT (R207, R417). -/
def execPowerMeasurementFault (c : Chan) (s : State) : Host.Outcome State Fault Refusal :=
  s.whenChan c fun s => .next (s.corBits c 0x203 0x0B 1)

/-- POWER_MEASUREMENT_RECOVERED (R207, R417). -/
def execPowerMeasurementRecovered (c : Chan) (s : State) : Host.Outcome State Fault Refusal :=
  s.whenChan c fun s => .next (s.cclearBits c 0x203 0x0B 1)

/-- REGULATOR_FAULT (R431): VR_FAULT. -/
def execRegulatorFault (c : Chan) (s : State) : Host.Outcome State Fault Refusal :=
  s.whenChan c fun s => .next (s.powerDown c 0x23)

end Sys2Proof.Machine
end

