-- ==== Sys2Proof/Machine/Wear.lean ====
section
/-! DEFINITION. Wear: guard band, wear saving, mission profile, equivalent hours and end-of-life dates (R418 to R421, R365,
R367).  The manual's formulas are over the reals; every root is taken by the whole-number search below and rounded down at the
precision each definition names (log entry 65). -/

namespace Sys2Proof.Machine

open Sys2Proof

/-! ## Roots -/

/-- The largest r below 2^bits, built from its highest bit down, with r^n ≤ x, when r is 0 at the start. -/
def rootFrom (n x : Nat) (bits r : Nat) : Nat :=
  match bits with
  | 0 => r
  | b + 1 => rootFrom n x b (if (r + 2 ^ b) ^ n ≤ x then r + 2 ^ b else r)

/-- The n-th root of x, rounded down, below 2^bits. -/
def natRoot (n bits x : Nat) : Nat := rootFrom n x bits 0

/-- 2^(k/100) in units of 2^-64, rounded down; k is 100 times the exponent. -/
def pow2Hundredths (k : Int) : Nat :=
  let e := k + 6400
  if e < 0 then 0 else natRoot 100 96 (2 ^ e.toNat)

/-- AF of R421 in units of 2^-64: voltage in mV, temperature in 0.1 °C. -/
def ageFactor (mv : Nat) (temp : Int) : Nat := pow2Hundredths (4 * ((mv : Int) - 825) + (temp - 850))

/-- Units of h_eff, 2^-64 s, in one hour. -/
def hourUnits : Nat := 3600 * 2 ^ 64

/-- h_eff^0.2 in units of 2^-20, rounded down. -/
def fifthRoot (hEff : Nat) : Nat := natRoot 5 40 (hEff * 2 ^ 100 / hourUnits)

/-- Square root of a rational in units of 2^-20, rounded down; 0 of a negative one. -/
def sqrtRat (q : Rat) : Rat :=
  if q ≤ 0 then 0 else (natRoot 2 80 (q * (2 ^ 40 : Nat)).floor.toNat : Rat) / ((2 ^ 20 : Nat) : Rat)

/-! ## Measurement (R418) -/

/-- g of a shift in ppm: −shift / 20, within 0 and 1000. -/
def guardOf (shift : Int) : Nat := min 1000 ((-shift) / 20).toNat

/-- 0x2060:07 is the highest g of the eight channels. -/
def State.worstGuard (s : State) : State :=
  s.mputSaved 0x2060 7 (w ((allChans.map fun c => (s.chan c).guardBand).foldl max 0))

/-- Ring oscillators of a channel. -/
abbrev ringCount : Nat := 16

/-- The oscillators that read outside their calibration join the excluded ones, for good (R431). -/
def excludeRings (old : BitVec 16) (rings : List (Option Int)) : BitVec 16 :=
  (List.range ringCount).foldl (fun m i => if (rings[i]?).join.isNone then m ||| BitVec.ofNat 16 (2 ^ i) else m) old

/-- The shift of the slowest oscillator that is not excluded. -/
def slowestRing (excluded : BitVec 16) (rings : List (Option Int)) : Option Int :=
  ((List.range ringCount).filterMap fun i => if excluded.getLsbD i then none else (rings[i]?).join).min?

/-- A channel's measurement: its excluded oscillators, the guard band of the slowest of the others, which never decreases, and its
shift; with every one excluded both stay (R418, R431). -/
def Channel.measureWear (ch : Channel) (rings : List (Option Int)) : Channel :=
  let out := excludeRings ch.gov.wear.excluded rings
  let ch := { ch with gov := { ch.gov with wear := { ch.gov.wear with excluded := out } } }
  match slowestRing out rings with
  | some x => (ch.put 0x702 1 (w (max ch.guardBand (guardOf x)))).put 0x702 2 (BitVec.ofInt 64 (BitVec.ofInt 32 x).toInt)
  | none => ch

/-- WEAR_MEASUREMENT: the 16 ring oscillators' shifts in ppm, none for one outside its calibration, and the HBM wear indicator in per
cent; the voltage takes the new guard band. -/
def execWearMeasurement (c : Chan) (rings : List (Option Int)) (hbmWear : Nat) (s : State) : Host.Outcome State Fault Refusal :=
  s.whenChan c fun s =>
    let s := s.modChan c fun ch =>
      let ch := (ch.measureWear rings).put 0x702 3 (w (hbmWear % 256))
      if ch.gov.change.isNone && ch.gov.fallAt.isNone && ch.freq != 0 then
        ch.put 0x700 8 (w (voltage ch.freq ch.guardBand))
      else ch
    .next s.markSaved.worstGuard

/-! ## Accrual (R419, R421) -/

/-- WEAR_ACCRUAL: one second at the applied voltage and the hottest die temperature of that second. -/
def execWearAccrual (c : Chan) (s : State) : Host.Outcome State Fault Refusal :=
  s.whenChan c fun s =>
    if s.reeveUp then
      let ch := s.chan c
      let t := match ch.hottestDie with | some x => max ch.gov.hottest x.1 | none => ch.gov.hottest
      let wear := { ch.gov.wear with
        hEff := ch.gov.wear.hEff + ageFactor (ch.nat 0x700 8) t, opSeconds := ch.gov.wear.opSeconds + 1 }
      let rest := match ch.hottestDie with | some x => x.1 | none => ch.gov.hottest
      .next (s.setChan c { ch with gov := { ch.gov with wear := wear, hottest := rest } })
    else .next s

/-! ## The mission profile (R420) -/

/-- One entry of a profile: share in per mille, MHz, °C. -/
structure ProfileEntry where
  share : Nat
  mhz : Nat
  temp : Int
deriving Repr

/-- Entry k. -/
def profileEntry (b : Bytes) (k : Nat) : ProfileEntry :=
  { share := leField b (8 + 16 * k) 2, mhz := leField b (10 + 16 * k) 2
    temp := (BitVec.ofNat 16 (leField b (12 + 16 * k) 2)).toInt }

/-- Every entry of a profile. -/
def profileEntries (b : Bytes) : List ProfileEntry := (List.range (leField b 1 1)).map (profileEntry b)

/-- Operating hours per year. -/
def profileHours (b : Bytes) : Nat := leField b 4 4

/-- The rules of R420. -/
def profileOk (b : Bytes) : Bool :=
  let n := leField b 1 1
  let es := profileEntries b
  leField b 0 1 == 1 && decide (1 ≤ n) && b.length == 8 + 16 * n && leField b 2 2 == 0 &&
  decide (1 ≤ profileHours b ∧ profileHours b ≤ 8784) && (es.map (·.share)).sum == 1000 &&
  es.all (fun e => decide (600 ≤ e.mhz ∧ e.mhz ≤ 1500 ∧ e.mhz % 25 = 0 ∧ 0 ≤ e.temp ∧ e.temp ≤ 115)) &&
  (List.range n).all fun k => (slice b (14 + 16 * k) 10).all (· == 0)

/-- Commit of 0x2060:05: NO_PROFILE clears. -/
def profileCommit (b : Bytes) : Commit := fun s =>
  if profileOk b then (0, { s.mclearBits 0x2060 6 2 with reeve := { s.reeve with profile := b } })
  else (abortInvalid, s)

/-- MISSION_PROFILE_WRITE. -/
def execMissionProfileWrite (p : Path) (data : Bytes) (s : State) : Host.Outcome State Fault Refusal :=
  s.writeRow p 0x2060 5 data (profileCommit data)

/-! ## The daily step (R419, R421) -/

/-- g exceeds g_plan by more than 20; g is within g_plan: both sides raised to the fifth power, in hours × 3600. -/
def overPlan (g opSeconds : Nat) : Bool := decide (20 < g ∧ 1000 ^ 5 * opSeconds < (g - 20) ^ 5 * 87660 * 3600)
def withinPlan (g opSeconds : Nat) : Bool := decide (g ^ 5 * 87660 * 3600 ≤ 1000 ^ 5 * opSeconds)

/-- Wear saving lowers or raises f_wear by 25 MHz (R419). -/
def State.saveWear (s : State) (c : Chan) : State :=
  let ch := s.chan c
  let x := ch.gov.wear
  let set := fun f => s.modChan c fun ch => { ch with gov := { ch.gov with wear := { ch.gov.wear with fWear := f } } }
  if !ch.on 0x700 9 then s
  else if overPlan ch.guardBand x.opSeconds && decide (1000 < x.fWear) then
    (set (x.fWear - 25)).event c { unit := 0x41, num := 0x0E06, pay := payAt 8 (x.fWear - 25) }
  else if withinPlan ch.guardBand x.opSeconds then set (min 1500 (x.fWear + 25))
  else s

/-- The day's (x, g) joins the sums (R421). -/
def WearSums.addDay (x : WearSums) (g : Nat) : WearSums :=
  let v : Rat := (fifthRoot x.hEff : Rat) / ((2 ^ 20 : Nat) : Rat)
  { x with
    sxg := x.sxg + v * (g : Rat), sxx := x.sxx + v * v, sgg := x.sgg + (g : Rat) * (g : Rat), days := x.days + 1 }

/-- z in thousandths for a confidence level of 50 to 99 %: the two-sided normal quantile. -/
def zTable : List Nat :=
  [674, 690, 706, 722, 739, 755, 772, 789, 806, 824, 842, 860, 878, 896, 915, 935, 954, 974, 994, 1015, 1036, 1058, 1080,
   1103, 1126] ++
  [1150, 1175, 1200, 1227, 1254, 1282, 1311, 1341, 1372, 1405, 1440, 1476, 1514, 1555, 1598, 1645, 1695, 1751, 1812, 1881,
   1960, 2054, 2170, 2326, 2576]

/-- Equivalent hours per year under the profile (R421), with a channel's guard band. -/
def profileRate (b : Bytes) (g : Nat) : Rat :=
  let per := (profileEntries b).map fun e =>
    ((e.share * ageFactor (voltage e.mhz g) (10 * e.temp) : Nat) : Rat) / ((1000 * 2 ^ 64 : Nat) : Rat)
  (profileHours b : Rat) * per.sum

/-- Days in a number of years of 365.2425 days, rounded down. -/
def daysOfYears (y : Rat) : Int := (y * (3652425 : Rat) / 10000).floor

/-- The last day that a date may name: 2399-12-31 as days since 1970. -/
def lastDay : Int := 157053

/-- A day saturated at the last one, and whether it was. -/
def satDay (d : Int) : Int × Bool := if lastDay < d then (lastDay, true) else (d, false)

/-- The day on which a channel's guard band is used up, for a coefficient a (R421). -/
def endDay (today : Int) (a : Rat) (x : WearSums) (rate : Rat) : Int × Bool :=
  if a ≤ 0 ∨ rate ≤ 0 then (lastDay, false)
  else
    let h : Rat := (x.hEff : Rat) / (hourUnits : Rat)
    let r : Rat := 1000 / a
    let left : Rat := r * r * r * r * r - h
    satDay (today + daysOfYears ((if left < 0 then 0 else left) / rate))

/-- Predicted, lower and upper days of a channel. -/
def channelDays (today : Int) (z : Rat) (x : WearSums) (rate : Rat) : (Int × Bool) × (Int × Bool) × (Int × Bool) :=
  let a := x.sxg / x.sxx
  let se := sqrtRat ((x.sgg - a * x.sxg) / ((x.days : Rat) - 1) / x.sxx)
  (endDay today a x rate, endDay today (a + z * se) x rate, endDay today (a - z * se) x rate)

/-- The day on which the HBM indicator reaches 100 %, by linear extrapolation over operating hours (R421). -/
def hbmDay (today : Int) (wear opSeconds hours : Nat) : Int × Bool :=
  if wear = 0 then (lastDay, true)
  else
    let left : Rat := (opSeconds : Rat) * ((100 - wear : Nat) : Rat) / (wear : Rat) / 3600
    satDay (today + daysOfYears (left / (hours : Rat)))

/-- The earlier of two days. -/
def earlier (a b : Int × Bool) : Int × Bool := if b.1 < a.1 then b else a

/-- The earliest of some days; none of no days. -/
def earliestDay (l : List (Int × Bool)) : Option (Int × Bool) :=
  match l with
  | [] => none
  | x :: r => some (r.foldl earlier x)

/-- Days of every channel and HBM stack whose conditions are met: 7 days and a profile (R421). -/
def State.endDays (s : State) (today : Int) : List ((Int × Bool) × (Int × Bool) × (Int × Bool)) :=
  let z : Rat := ((zTable.getD (s.mnat 0x2060 4 - 50) 1645 : Nat) : Rat) / 1000
  let b := s.reeve.profile
  if b.isEmpty then []
  else
    allChans.flatMap fun c =>
      let ch := s.chan c
      let x := ch.gov.wear
      if x.days < 7 then []
      else
        let h := hbmDay today (ch.nat 0x702 3) x.opSeconds (profileHours b)
        [channelDays today z x (profileRate b ch.guardBand), (h, h, h)]

/-- The module dates 0x2060:01 to :03 and SATURATED (R421). -/
def State.predict (s : State) (today : Int) : State :=
  let ds := s.endDays today
  let p := earliestDay (ds.map (·.1))
  let l := earliestDay (ds.map (·.2.1))
  let u := earliestDay (ds.map (·.2.2))
  let date := fun (d : Option (Int × Bool)) => match d with | some x => dateOfDay x.1 | none => 0
  let sat := [p, l, u].any fun d => match d with | some x => x.2 | none => false
  let s := ((s.mput 0x2060 1 (date p)).mput 0x2060 2 (date l)).mput 0x2060 3 (date u)
  let s := s.mput 0x2060 6 (wBool sat ||| (if s.reeve.profile.isEmpty then 2 else 0))
  s.markSaved

/-- WEAR_DAILY: at 00:00 UTC, once a day. -/
def execWearDaily (s : State) : Host.Outcome State Fault Refusal :=
  s.whenReeve fun s =>
    let (date, second) := s.utcNow
    if second = 0 ∧ s.reeve.wearDay ≠ date then
      let s := s.eachChan State.saveWear
      let s := s.eachChan fun s c => s.modChan c fun ch =>
        { ch with gov := { ch.gov with wear := ch.gov.wear.addDay ch.guardBand } }
      let s := { s with reeve := { s.reeve with wearDay := date } }
      .next (s.predict (utcSeconds s.now s.taiOffset / 86400))
    else .next s

end Sys2Proof.Machine
end

