-- ==== Sys2Proof/Machine/Journal.lean ====
section
/-! DEFINITION. The journal of saved values (R359, R360, R378), the access key (R328) and the TLX Ethertype (R325). -/

namespace Sys2Proof.Machine

open Sys2Proof

/-! ## Persistence status, 0x1020:02 -/

def savePendingBit : Word := 1
def saveFailedBit : Word := 2
def savedLostBit : Word := 4
def restorePendingBit : Word := 8

/-- The journal holds every committed saved value (R359). -/
def State.journalStored (s : State) : State :=
  let s := { s with reeve := { s.reeve with journal := s.savedNow, saveDue := none } }
  (s.mcount 0x1020 3 1).mclearBits 0x1020 2 savePendingBit

/-- The journal cannot be written: live values stand, saved members are refused (R378). -/
def State.journalFailed (s : State) : State :=
  let s := { s with reeve := { s.reeve with saveDue := none } }
  s.morBits 0x1020 2 saveFailedBit

/-- JOURNAL_STORE: one journal write of every value committed and not yet stored; `ok` is false where the store has failed
twice. -/
def execJournalStore (ok : Bool) (s : State) : Host.Outcome State Fault Refusal :=
  s.whenReeve fun s =>
    if bitOf (s.mget 0x1020 2) 0 && s.reeve.saveDue.isSome then .next (if ok then s.journalStored else s.journalFailed)
    else .next s

/-- R360: 0xD0F1 requests a restore, 0 cancels the request. -/
def restoreCommit (v : Nat) : Commit := commitOk fun s =>
  let s := { s with reeve := { s.reeve with journal := { s.reeve.journal with restore := v == 0xD0F1 } } }
  if v = 0xD0F1 then s.morBits 0x1020 2 restorePendingBit else s.mclearBits 0x1020 2 restorePendingBit

/-- RESTORE_REQUEST. -/
def execRestoreRequest (p : Path) (v : BitVec 16) (s : State) : Host.Outcome State Fault Refusal :=
  s.writeRow p 0x1020 1 (leBytes 2 v.toNat) (restoreCommit v.toNat)

/-- A write of 0x1020:02 (R360): 1 clears SAVE_FAILED and retries the store, and clears SAVED_LOST; writes to the other two
bits are ignored. -/
def persistCommit (v : Nat) : Commit := commitOk fun s =>
  let retry := v.testBit 1 && bitOf (s.mget 0x1020 2) 1
  let s := s.mclearBits 0x1020 2 (w (v &&& 6))
  if retry then { s with reeve := { s.reeve with saveDue := some (s.tclk + tclkOfMs 500) } } else s

/-- SAVE_RETRY. -/
def execSaveRetry (p : Path) (v : Byte) (s : State) : Host.Outcome State Fault Refusal :=
  s.writeRow p 0x1020 2 [v] (persistCommit v.toNat)

/-! ## The access key (R328) -/

/-- Every session ends as on CLOSE: its held write is discarded and its subscriptions are removed. -/
def State.closeSessions (s : State) : State := { s with sessions := Vector.replicate 32 Session.reset }

/-- The installation access key takes a new value, and its presence is shown in 0x1200:04. -/
def accessKeyCommit (key : Bytes) : Commit := commitOk fun s =>
  ({ s with reeve := { s.reeve with accessKey := some key } }).mputSaved 0x1200 4 1

/-- After the commit of 0x1200:03 every session closes, once the writer's answer is queued. -/
def State.afterAccessKey (s : State) (code : AbortCode) : State := if code = 0 then s.closeSessions else s

/-- ACCESS_KEY_WRITE. -/
def execAccessKeyWrite (p : Path) (key : Bytes) (s : State) : Host.Outcome State Fault Refusal :=
  if !s.pathUp p then .next s
  else
    match s.write p 0x1200 3 key (accessKeyCommit key) with
    | (code, s') => .next ((s'.answer code).afterAccessKey code)

/-- ETHERTYPE_WRITE (R325). -/
def execEthertypeWrite (p : Path) (v : BitVec 16) (s : State) : Host.Outcome State Fault Refusal :=
  s.writeRow p 0x1010 2 (leBytes 2 v.toNat) (commitOk (·.mput 0x1010 2 (w v.toNat)))

end Sys2Proof.Machine
end

