-- ==== Sys2Proof/Machine/HostPort.lean ====
section
/-! DEFINITION. Resets and links of the host port (R274, R299, R301 to R303, R308, R449, R460), the interrupt enables (R291)
and the job ring's ENABLE (R285). -/

namespace Sys2Proof.Machine

open Sys2Proof

/-! ## Function reset (R299) -/

/-- The mailbox after a function reset: reset values, but for MBX_COMMITTED_SEQ; a pending segmented write, and an operation
not yet committed, are gone. -/
def Mailbox.functionReset (m : Mailbox) : Mailbox := { Mailbox.reset with committed := m.committed, valid := m.valid }

/-- The registers of the endpoint after a function reset; RESET_CANCEL_COUNT rises by n and saturates. -/
def HostPort.functionReset (h : HostPort) (n : Nat) : HostPort :=
  { HostPort.reset with
    mbx := h.mbx.functionReset, linkDown := h.linkDown, warmWaits := h.warmWaits
    resetCancel := BitVec.ofNat 16 (min (h.resetCancel.toNat + n) 0xFFFF) }

/-- An owner's rings and staged data after a function reset; key, slot state and sequences stay. -/
def Owner.functionReset (o : Owner) : Owner :=
  { Owner.reset with st := o.st, key := o.key, pendKey := o.pendKey, compSeq := o.compSeq, decSeq := o.decSeq }

/-- A decant point disarmed without records. -/
def DecantPt.quiet (d : DecantPt) : DecantPt := { d.idle with armed := false }

/-- The jobs that a function reset ends without a completion: queued ones at once, the running one at its end. -/
def Channel.cancelled (ch : Channel) : Nat := (ch.jobs.filter fun j => !(j.running && j.discard)).length

/-- The host side of a powered channel after a function reset. -/
def Channel.functionReset (ch : Channel) (now : T64) : Channel :=
  let n := ch.cancelled
  let ch := allSlots.foldl (fun ch i => ch.discardTrace now i) ch
  { ch with
    host := ch.host.functionReset n
    jobs := (ch.jobs.filter (·.running)).map fun (j : Job) => { j with discard := true }
    completions := [], fetching := none
    owners := ch.owners.map Owner.functionReset
    chute := { ch.chute with fullSince := none }, stop := { ch.stop with flight := [] }
    dbg := { ch.dbg with pts := ch.dbg.pts.map DecantPt.quiet, caps := [none, none] } }

/-- Function reset of channel c: code 1 for a function-level reset or a return from D3hot, 2 for every reset that comes from
the upstream side.  A channel without power loses the registers of its endpoint alone. -/
def State.functionReset (s : State) (c : Chan) (code : Nat) : State :=
  if (s.chan c).st = .poweredDown then
    s.modChan c fun ch => { ch with host := ch.host.functionReset 0 }
  else
    let s := { s with reeveQ := s.reeveQ.filter (·.1 != c) }
    let s := s.modChan c fun ch => (ch.functionReset s.now).count 0x402 4 1
    s.event c { unit := 0x3C, num := 0x0A05, pay := payAt 8 code }

/-- FUNCTION_RESET's payload byte for each cause of the row. -/
def resetCode (cause : ResetCause) : Nat :=
  match cause with
  | .flr | .d3hotReturn => 1
  | .hotReset | .secondaryBus => 2

/-- FUNCTION_RESET. -/
def execFunctionReset (c : Chan) (cause : ResetCause) (s : State) : Host.Outcome State Fault Refusal :=
  if s.live && !s.perst && s.upLink && !(s.chan c).host.linkDown then .next (s.functionReset c (resetCode cause))
  else .next s

/-- FUNCTION_READY (R274, R449, R460): the endpoint is ready; a warm reset that waited for it happens now. -/
def execFunctionReady (c : Chan) (s : State) : Host.Outcome State Fault Refusal :=
  if s.live && !s.perst && !(s.chan c).host.ready then
    let waits := (s.chan c).host.warmWaits
    let s := s.modChan c fun ch => { ch with host := { ch.host with ready := true, warmWaits := false } }
    .next (if waits then s.warmIf c else s)
  else .next s

/-! ## PERST_N and the links (R299, R308, R449) -/

/-- Every channel is function-reset from the upstream side. -/
def State.resetAll (s : State) : State := s.eachChan fun s c => s.functionReset c 2

/-- PERST_N_ASSERT: the pin is held also while the module has no power. -/
def execPerstNAssert (s : State) : Host.Outcome State Fault Refusal :=
  if s.perst then .next s
  else
    let s := { s with perst := true, upLink := false }
    .next (if s.live then s.resetAll else s)

/-- PERST_N_DEASSERT: the Porter leaves reset and the upstream link trains; the functions are not ready yet. -/
def execPerstNDeassert (s : State) : Host.Outcome State Fault Refusal :=
  if s.perst then .next { s with perst := false, upLink := true } else .next s

/-- UPSTREAM_LINK_DOWN (R308): a hot reset of every channel. -/
def execUpstreamLinkDown (s : State) : Host.Outcome State Fault Refusal :=
  s.whenLive fun s =>
    if s.upLink then
      let s := { s with upLink := false }
      .next ((s.moduleEvent { unit := 0xF1, num := 0x1100 }).resetAll)
    else .next s

/-- UPSTREAM_LINK_UP (R308). -/
def execUpstreamLinkUp (width speed : Byte) (s : State) : Host.Outcome State Fault Refusal :=
  s.whenLive fun s =>
    if !s.upLink && !s.perst then
      let s := { s with upLink := true }
      .next (s.moduleEvent { unit := 0xF1, num := 0x1101, pay := payAt 8 width.toNat ||| payAt 9 speed.toNat })
    else .next s

/-- INTERNAL_LINK_DOWN (R308): the channel is out of reach until its link recovers; the others go on. -/
def execInternalLinkDown (c : Chan) (s : State) : Host.Outcome State Fault Refusal :=
  s.whenLive fun s => .next (s.modChan c fun ch => { ch with host := { ch.host with linkDown := true } })

/-- INTERNAL_LINK_UP (R308): the recovered link brings a function reset. -/
def execInternalLinkUp (c : Chan) (s : State) : Host.Outcome State Fault Refusal :=
  s.whenLive fun s =>
    if (s.chan c).host.linkDown then
      let s := s.modChan c fun ch => { ch with host := { ch.host with linkDown := false } }
      .next (s.functionReset c 2)
    else .next s

/-! ## Interrupt enables (R291) -/

/-- CHAN_IRQ_ENABLE is written: each enable bit written 1 whose status bit is 1 raises its vector. -/
def State.writeIrqEnable (s : State) (c : Chan) (v : Nat) : State :=
  let s := s.modChan c fun ch => { ch with host := { ch.host with irqEnable := BitVec.ofNat 7 v } }
  (List.range 7).foldl
    (fun s b => if v.testBit b && (s.chan c).host.irqStatus.getLsbD b then s.raiseVector c (49 + b) else s) s

/-- IRQ_ENABLE_WRITE. -/
def execIrqEnableWrite (c : Chan) (v : BitVec 32) (s : State) : Host.Outcome State Fault Refusal :=
  s.whenHost c fun s => .next ((s.access .bar0 c 0x44).writeIrqEnable c v.toNat)

/-! ## The job ring's ENABLE (R285) -/

/-- ENABLE written 1: HEAD and TAIL restart when it changes from 0. -/
def Ring.jobEnable (r : Ring) : Ring := if r.enable then r else { r with enable := true, head := 0, tail := 0 }

/-- JOB_RING_ENABLE. -/
def execJobRingEnable (view : View) (c : Chan) (i : Slot) (s : State) : Host.Outcome State Fault Refusal :=
  s.viewWrite view c i 0x114 fun s => .next (s.modChan c (·.modOwner i fun o => { o with job := o.job.jobEnable }))

/-- JOB_RING_DISABLE: a descriptor fetch in progress ends as usual. -/
def execJobRingDisable (view : View) (c : Chan) (i : Slot) (s : State) : Host.Outcome State Fault Refusal :=
  s.viewWrite view c i 0x114 fun s =>
    .next (s.modChan c (·.modOwner i fun o => { o with job := { o.job with enable := false } }))

end Sys2Proof.Machine
end

