-- ==== Sys2Proof/Machine/DictRead.lean ====
section
/-! DEFINITION. What a read of a dictionary member returns (R351 to R353, R356, R361, R363, R381 to R392, R398, R446): the members
that the device computes, the strings and DOMAINs, and the stored numbers. -/

namespace Sys2Proof.Machine

open Sys2Proof

/-! ## Module objects served by the Reeve -/

/-- Sessions held (R327). -/
def State.sessionsHeld (s : State) : Nat := (s.sessions.toList.filter fun (x : Session) => x.st != .closed).length

/-- Version in a bank of the update target, 0 for an invalid bank (R447). -/
def State.bankVersion (s : State) (b : Bool) : Word :=
  let k := if s.updSteward then s.reeve.flash.steward b else s.reeve.flash.reeve b
  if k.valid then w ((k.hdr.map (·.version.toNat)).getD 0) else 0

/-- Subindex of a session slot's record (R329). -/
def State.sessionWord (s : State) (x : Session) (sub : Nat) : Word :=
  if x.st = .closed then 0
  else if sub = 1 then (if x.st = .opened then 2 else 1)
  else if sub = 2 then w x.sid.toNat
  else if sub = 4 then (match x.src with | .network _ => 0 | _ => 1)
  else if sub = 5 then (if x.st = .opened then (match x.role with | .reader => 0 | .writer => 1 | .privileged => 2) else 0)
  else if sub = 6 then w ((x.leaseEnd - s.tclk) / tclkOfMs 1)
  else w x.subs.length

/-- The partner's MAC address of a session; zeros over USB. -/
def Session.mac (x : Session) : Bytes := match x.src with | .network m => beBytes 6 m.toNat | _ => zeros 6

/-- Number of the session slot that an index of 0x1300 + k stands for. -/
def sessionIndex (idx : Nat) : Fin 32 := Fin.ofNat 32 (idx - 0x1300)

/-- Version of the Reeve image that runs; in recovery none runs, and the manual gives no value (R463). -/
def State.reeveVersion (s : State) : Word :=
  w ((s.reeve.image.map (·.version.toNat)).getD (Config.freeNat s.free % 2 ^ 32))

/-- Its interface version. -/
def State.reeveIface (s : State) : Word := w ((s.reeve.image.map ImageHdr.iface).getD (Config.freeNat s.free % 2 ^ 32))

/-- A number of a module object. -/
def State.moduleWord (s : State) (idx sub : Nat) : Word :=
  if idx = 0x1000 then
    if sub = 2 then w s.reeve.factory.hwRevision
    else if sub = 4 then w s.reeve.factory.made.toNat
    else if sub = 5 then s.reeveVersion
    else if sub = 6 then s.reeveIface
    else if sub = 7 then wBool s.reeve.bank else s.mget idx sub
  else if idx = 0x1030 ∧ (sub = 5 ∨ sub = 6) then s.bankVersion (sub == 6)
  else if idx = 0x1040 ∧ sub = 4 then w s.tlEntries
  else if idx = 0x1200 ∧ sub = 1 then w s.sessionsHeld
  else if idx = 0x1200 ∧ sub = 2 then w (32 - s.sessionsHeld)
  else if 0x1300 ≤ idx ∧ idx < 0x1320 then s.sessionWord s.sessions[sessionIndex idx] sub
  else if idx = 0x2000 ∧ sub = 1 then w (Config.freeNat s.free % 65536)
  else if idx = 0x2040 ∧ sub = 1 then s.utcNow.1
  else if idx = 0x2040 ∧ sub = 2 then w s.utcNow.2
  else if idx = 0x3000 ∧ sub = 1 then w s.time.ts.code
  else if idx = 0x3020 ∧ sub = 1 then w s.ptp.tsq.length
  else if idx = 0x4010 ∧ sub = 2 then
    w ((allChans.filter fun c => (s.chan c).st0.t64Armed).map fun c => 2 ^ c.val).sum
  else if idx = 0x4040 ∧ sub = 1 then w s.reeve.factory.kekId.toNat
  else s.mget idx sub

/-- A string or DOMAIN of a module object. -/
def State.moduleText (s : State) (idx sub : Nat) : Bytes :=
  if idx = 0x1000 ∧ sub = 1 then [0x52, 0x46, 0x2D, 0x38]
  else if idx = 0x1000 then s.reeve.factory.serial
  else if idx = 0x1010 then s.macBytes
  else if idx = 0x1040 then s.reeve.tlHeld
  else if 0x1300 ≤ idx ∧ idx < 0x1320 then s.sessions[sessionIndex idx].mac
  else if idx = 0x2040 then leBytes 8 s.now.toNat ++ leBytes 4 s.utcNow.1.toNat ++ leBytes 4 s.utcNow.2
  else if idx = 0x2060 then s.reeve.profile
  else []

/-! ## Channel objects -/

/-- 0x8000:01 and CHAN_STATUS.STATE (R438). -/
def ChanSt.code : ChanSt → Nat
  | .booting => 0 | .ready => 1 | .quarantine => 2 | .computeDisabled => 3 | .poweredDown => 4

/-- Subindices 1 to 6 of 0x8000. -/
def State.statusWord (s : State) (c : Chan) (sub : Nat) : Word :=
  let ch := s.chan c
  if sub = 1 then w ch.st.code
  else if sub = 2 then w ch.reason.toNat
  else if sub = 3 then w (s.stepping c)
  else if sub = 4 then w ((ch.image.map (·.version.toNat)).getD 0)
  else if sub = 5 then w ((ch.image.map ImageHdr.iface).getD 0)
  else wBool ch.bank

/-- A member as the last freeze holds it (R189); 0 before the first freeze. -/
def Stocktake.held (st : Stocktake) (off sub : Nat) : Word :=
  if st.at_ = 0 ∧ st.gen = 0 then 0 else (st.shadow.find (dkey off sub)).getD (dfltOf (DictMap.lookupChannel off sub))

/-- A 48-bit counter value with its wrap bit at [63] (R387). -/
def wrapped63 (v : Word) (wrap : Bool) : Word := w (v.toNat % 2 ^ 48 + (if wrap then 2 ^ 63 else 0))

/-- Shadow of programmable counter i of block u. -/
def Stocktake.progShadow (st : Stocktake) (u i : Nat) : Word :=
  wrapped63 (st.held (0x240 + u) (0x11 + i)) (bitOf (st.held (0x240 + u) 0x0A) i)

/-- Shadow of fixed counter j. -/
def Stocktake.fixedShadow (st : Stocktake) (j : Nat) : Word :=
  wrapped63 (st.held 0x2A0 j) (bitOf (st.held 0x2A2 (1 + j / 32)) (j % 32))

/-- Subindices of a plan slot's record (R91). -/
def Plan.word (p : Plan) (sub : Nat) : Word :=
  if sub = 1 then w p.st
  else if sub = 2 then p.id
  else if sub = 3 then w p.owner.val
  else if sub = 4 then w p.cycles
  else if sub = 5 then w p.floor
  else if sub = 6 then w p.larder
  else if sub = 7 then w p.splitCount
  else w p.splitIndex

/-- An owner slot's state (R248). -/
def SlotSt.code : SlotSt → Nat
  | .empty => 0 | .keyed => 1 | .retiring => 2

/-- Slots KEYED, bit s (R248). -/
def Channel.keyedMask (ch : Channel) : Nat :=
  ((allSlots.filter fun i => (ch.owner i).st == .keyed).map fun i => 2 ^ i.val).sum

/-- A number of a channel object that its Steward serves. -/
def State.channelWord (s : State) (c : Chan) (off sub : Nat) : Word :=
  let ch := s.chan c
  if off = 0 then (if 1 ≤ sub ∧ sub ≤ 6 then s.statusWord c sub else ch.get off sub)
  else if off = 0x100 ∧ sub = 2 then s.now
  else if off = 0x202 ∧ sub = 7 then w ch.st0.st
  else if off = 0x204 then ch.st0.held 0x203 sub
  else if 0x240 ≤ off ∧ off < 0x2A0 ∧ 0x19 ≤ sub then ch.st0.progShadow (off - 0x240) (sub - 0x19)
  else if off = 0x2A1 then ch.st0.fixedShadow sub
  else if off = 0x300 ∧ sub = 5 then w ch.effectiveCap
  else if off = 0x300 ∧ sub = 6 then ch.get off sub ||| wBool ch.throttled
  else if off = 0x400 ∧ sub = 2 then w ch.stop.st
  else if off = 0x400 ∧ sub = 3 then w ch.stop.source
  else if off = 0x401 ∧ sub = 1 then w ch.tap.fuse
  else if off = 0x401 ∧ sub = 4 then wBool ch.tap.scanActive
  else if off = 0x500 ∧ sub = 3 then w ch.larderFree
  else if off = 0x500 ∧ sub = 4 then w ch.cellarFree
  else if 0x520 ≤ off ∧ off < 0x530 then (ch.plan (Fin.ofNat 16 (off - 0x520))).word sub
  else if (off = 0x550 ∨ off = 0x551) ∧ sub = 5 then w (Config.tableVersion (off - 0x550)).toNat
  else if off = 0x600 ∧ sub = 1 then w ch.keyedMask
  else if 0x610 ≤ off ∧ off < 0x620 ∧ sub = 1 then w (ch.owner (Fin.ofNat 16 (off - 0x610))).st.code
  else if 0x610 ≤ off ∧ off < 0x620 ∧ sub = 6 then
    let i : Slot := Fin.ofNat 16 (off - 0x610)
    if (ch.owner i).st = .retiring then w (ch.openConditions i) else 0
  else if off = 0x700 ∧ sub = 1 then w (if ch.onSafeClock then 400 else ch.freq)
  else ch.get off sub

/-- The 64 entries of the selected Daybook, oldest first; slots never written read as zeros (R224). -/
def Channel.daybookText (ch : Channel) : Bytes :=
  padTo ((ch.daybook (BitVec.ofNat 8 (ch.nat 0x402 2))).entries.flatMap entryBytes) 1536

/-- The dump of the selected slot, the channel key removed (R227, R256). -/
def Channel.dumpText (ch : Channel) (c : Chan) : Bytes :=
  let n := ch.nat 0x404 8
  match ch.dbg.area, (ch.dbg.dumps[n]?).join with
  | some page, some len => (List.range len).map fun i => ch.dumpByte c (page * pageSize + 262144 * n + i)
  | _, _ => []

/-- A string or DOMAIN of a channel object. -/
def Channel.text (ch : Channel) (c : Chan) (off : Nat) : Bytes :=
  if off = 0x402 then ch.daybookText else if off = 0x404 then ch.dumpText c else []

/-- What the Reeve reads of a channel block in Quarantine (R446): saved members as stored, 0x8000:01 to :06, slot states;
everything else its default. -/
def State.quarantineWord (s : State) (c : Chan) (off sub : Nat) (m : Member) : Word :=
  if m.pers = .s then s.cget c off sub
  else if off = 0 ∧ 1 ≤ sub ∧ sub ≤ 6 then s.statusWord c sub
  else if 0x610 ≤ off ∧ off < 0x620 ∧ sub = 1 then s.channelWord c off sub
  else wInt m.dflt

/-! ## Values on the wire (R352, R353, R381) -/

/-- The number at a place. -/
def State.word (s : State) (pl : Place) (sub : Nat) (m : Member) : Word :=
  match pl with
  | .module idx => s.moduleWord idx sub
  | .channel c off => if (s.chan c).st = .quarantine then s.quarantineWord c off sub m else s.channelWord c off sub

/-- The string or DOMAIN at a place. -/
def State.text (s : State) (pl : Place) (sub : Nat) : Bytes :=
  match pl with
  | .module idx => s.moduleText idx sub
  | .channel c off => if (s.chan c).st = .quarantine then [] else (s.chan c).text c off

/-- A read's value, fixed-length types least significant byte first. -/
def State.value (s : State) (pl : Place) (sub : Nat) (m : Member) : Bytes :=
  match m.ty.size with
  | none => if m.blank then [] else s.text pl sub
  | some n =>
    if pl = .module 0x2040 ∧ sub = 4 then zeros 4 ++ leBytes 6 s.calendar
    else if m.blank then zeros n else leBytes n (s.word pl sub m).toNat

/-- TLX sends every type but STR and DOMAIN most significant byte first (R353). -/
def tlxBytes (m : Member) (b : Bytes) : Bytes := if m.ty.size.isSome then b.reverse else b

/-- A read: the value of the member, or the abort. -/
def State.readMember (s : State) (p : Path) (idx sub : Nat) : Except AbortCode (Member × Bytes) :=
  match s.checkRead p idx sub with
  | .error e => .error e
  | .ok (pl, m) => .ok (m, s.value pl sub m)

end Sys2Proof.Machine
end

