-- ==== Sys2Proof/Machine/DictWrite.lean ====
section
/-! DEFINITION. A write of any dictionary member (R354, R361, R362, R364, R379 to R392): the commit that belongs to each member, and
what follows its answer.  The rows of single members share these commits. -/

namespace Sys2Proof.Machine

open Sys2Proof

/-! ## Commits without a chapter of their own -/

/-- A module member takes the value. -/
def plainModule (idx sub : Nat) (v : Word) : Commit := commitOk (·.mput idx sub v)

/-- A channel member takes the value. -/
def plainChannel (c : Chan) (off sub : Nat) (v : Word) : Commit := commitOk (·.cput c off sub v)

/-- Sticky bits are cleared by writing 1 (R354, R381). -/
def stickyModule (idx sub : Nat) (v : Word) : Commit := commitOk (·.mclearBits idx sub v)

/-- TABLE_FAULT of 0x8550 + n:03 is cleared by no write (R137). -/
def stickyChannel (c : Chan) (off sub : Nat) (v : Word) : Commit :=
  commitOk (·.cclearBits c off sub (if off = 0x550 ∨ off = 0x551 then v &&& 0xF else v))

/-- Commit of 0x1040:02 (R323): a frame has at least 14 bytes. -/
def tlFrameCommit (b : Bytes) : Commit := fun s =>
  if b.length < 14 then (abortInvalid, s) else (0, { s with reeve := { s.reeve with tlHeld := b } })

/-- Commit of 0x3010:05 (R58): a slave-only port is no master. -/
def slaveOnlyCommit (v : Word) : Commit := commitOk fun s =>
  let s := s.mput 0x3010 5 v
  if v != 0 && s.ptp.role == .master then
    { s with ptp := { s.ptp with role := .listening, lastAnnounce := some s.tclk } }
  else s

/-- Commit of 0x8110 + n:05 (R47): the output level follows its polarity. -/
def polarityCommit (c : Chan) (n : Nat) (v : Word) : Commit := commitOk fun s =>
  if s.cget c (0x110 + n) 5 = v then s
  else
    let s := s.cput c (0x110 + n) 5 v
    s.trigPin c n (match (s.chan c).cmp[n]? with | some m => m.pulseEnd.isSome | none => false)

/-- Commit of 0x8300:08 (R158, R159): what is held for the old faithful owner is released, and the time of a FULL ring counts anew
for the new one. -/
def faithfulOwnerCommit (c : Chan) (v : Word) : Commit := commitOk fun s =>
  if s.cget c 0x300 8 = v then s
  else s.modChan c fun ch =>
    let ch := (if ch.traceMode = 2 then ch.releaseSources s.now lossSourceQueue else ch).put 0x300 8 v
    ({ ch with chute := { ch.chute with fullSince := none } }).watchFull s.tclk

/-- Commit of 0x8400:08 (R209). -/
def stopEventCommit (c : Chan) (v : Word) : Commit := fun s =>
  if stoppable v.toNat then (0, s.cput c 0x400 8 v) else (abortInvalid, s)

/-- Commit of 0x8402:02 (R224). -/
def daybookSelectCommit (c : Chan) (v : Word) : Commit := fun s =>
  if isChannelUnit v.toNat then (0, s.cput c 0x402 2 v) else (abortNotFound, s)

/-- Commit of 0x8404:01 (R227): dump slots are reserved, or freed. -/
def dumpEnableCommit (c : Chan) (v : Word) : Commit := commitOk fun s => (s.cput c 0x404 1 v).reserveDump c

/-! ## The commit of each member -/

/-- Sticky members of the module. -/
def stickyOfModule (idx sub : Nat) : Bool :=
  [(0x1101, 8), (0x2000, 6), (0x2040, 5), (0x3000, 4), (0x4020, 4)].contains (idx, sub)

/-- Sticky members of a channel block. -/
def stickyOfChannel (off sub : Nat) : Bool :=
  (decide (0x110 ≤ off ∧ off < 0x114) && sub == 6) || (decide (0x240 ≤ off ∧ off < 0x2A0) && sub == 0x0A) || off == 0x2A2 ||
  [(0x120, 5), (0x300, 6), (0x400, 0x0B), (0x401, 6), (0x550, 3), (0x551, 3)].contains (off, sub)

/-- The commit of a module member. -/
def moduleCommit (idx sub : Nat) (v : Word) (data : Bytes) : Commit :=
  if stickyOfModule idx sub then stickyModule idx sub v
  else if idx = 0x1020 then (if sub = 1 then restoreCommit v.toNat else persistCommit v.toNat)
  else if idx = 0x1030 then
    if sub = 1 then imageTargetCommit v.toNat
    else if sub = 2 then imageCommit data
    else if v = 1 then bankWriteCommit
    else if v = 2 then restartCommit activateOk
    else restartCommit fallBackOk
  else if idx = 0x1040 then
    if sub = 2 then tlFrameCommit data
    else if sub = 3 then (if v = 1 then tlQueueCommit else tlDiscardCommit)
    else plainModule idx sub v
  else if idx = 0x1100 ∧ sub = 1 then nodeIdCommit v.toNat
  else if idx = 0x1200 then accessKeyCommit data
  else if idx = 0x2040 then calendarCommit (BitVec.ofNat 80 (leNat data))
  else if idx = 0x2060 ∧ sub = 5 then profileCommit data
  else if idx = 0x3000 then ref10mCommit v.toNat
  else if idx = 0x3001 ∧ sub ≤ 2 then correctionCommit sub v.toNat
  else if idx = 0x3002 then incrementCommit v
  else if idx = 0x3003 then timeStepCommit v
  else if idx = 0x3004 then reacquireCommit
  else if idx = 0x3005 then ppsLoadCommit (BitVec.ofNat 80 (leNat data))
  else if idx = 0x3007 then commitOk (·.setTaiOffset v.toInt)
  else if idx = 0x3009 then commitOk (·.setLeap v.toInt)
  else if idx = 0x3010 ∧ sub = 1 then ptpEnableCommit v.toNat
  else if idx = 0x3010 ∧ sub = 5 then slaveOnlyCommit v
  else if idx = 0x4010 then (if sub = 1 then freezeTimeCommit v else freezeNowCommit)
  else if idx = 0x4020 ∧ sub = 2 then moduleStopCommit v.toNat
  else if idx = 0x4030 ∧ sub = 2 then measureCommit
  else if idx = 0x4040 then serviceKeyCommit data
  else plainModule idx sub v

/-- The commit of a member of 0x8110 + n or 0x8120. -/
def trigCommit (c : Chan) (off sub : Nat) (v : Word) : Commit :=
  let n : Fin 4 := Fin.ofNat 4 (off - 0x110)
  if off = 0x120 then
    if sub = 1 then cycleEnableCommit c v.toNat
    else if sub = 2 then firstTickCommit c v.toNat
    else plainChannel c off sub v
  else if sub = 1 then trigModeCommit c n v.toNat
  else if sub = 2 then trigTargetCommit c n (BitVec.ofNat 32 v.toNat)
  else if sub = 3 then trigShapeCommit c n false v.toNat
  else if sub = 4 then trigShapeCommit c n true v.toNat
  else polarityCommit c n.val v

/-- The commit of a member of 0x8200 to 0x82A2 or 0x8300. -/
def observeCommit (c : Chan) (off sub : Nat) (v : Word) : Commit :=
  if off = 0x202 then
    if sub = 1 then triggerMaskCommit c v.toNat
    else if sub = 3 then t64TriggerCommit c v
    else if sub = 4 then commitOk (·.registerTrigger c)
    else if sub = 5 then commitOk (·.modChan c (·.releaseStocktake))
    else plainChannel c off sub v
  else if 0x240 ≤ off ∧ off < 0x2A0 ∧ 1 ≤ sub ∧ sub ≤ 8 then counterSelectCommit c (off - 0x240) (sub - 1) v
  else if off = 0x300 ∧ sub = 1 then commitOk (·.powerObservatory c (v != 0))
  else if off = 0x300 ∧ sub = 2 then traceModeCommit c v.toNat
  else if off = 0x300 ∧ sub = 3 then traceCapCommit c v.toNat
  else if off = 0x300 ∧ sub = 8 then faithfulOwnerCommit c v
  else plainChannel c off sub v

/-- The commit of a member of 0x8400 to 0x8404. -/
def debugCommit (c : Chan) (off sub : Nat) (v : Word) : Commit :=
  if off = 0x400 ∧ sub = 1 then channelStopCommit c v.toNat
  else if off = 0x400 ∧ sub = 8 then stopEventCommit c v
  else if off = 0x400 ∧ sub = 9 then stopTimeCommit c v
  else if off = 0x401 ∧ sub = 2 then sealGuardCommit c
  else if off = 0x401 ∧ sub = 3 then sealBlowCommit c
  else if off = 0x402 ∧ sub = 2 then daybookSelectCommit c v
  else if off = 0x402 ∧ sub = 5 then commitOk (·.modChan c (·.clearDaybooks))
  else if off = 0x404 ∧ sub = 1 then dumpEnableCommit c v
  else plainChannel c off sub v

/-- The commit of a channel member. -/
def channelCommit (c : Chan) (off sub : Nat) (v : Word) (data : Bytes) : Commit :=
  if stickyOfChannel off sub then stickyChannel c off sub v
  else if off = 0 then bankRequestCommit c v.toNat
  else if off < 0x200 then trigCommit c off sub v
  else if off < 0x400 then observeCommit c off sub v
  else if off < 0x500 then debugCommit c off sub v
  else if off = 0x510 ∧ sub = 5 then (if v = 1 then planLoadCommit c else planUnloadCommit c)
  else if 0x540 ≤ off ∧ off < 0x544 then portModeCommit c (Fin.ofNat 4 (off - 0x540)) v.toNat
  else if 0x610 ≤ off ∧ off < 0x620 then
    let i : Slot := Fin.ofNat 16 (off - 0x610)
    if sub = 2 then keyBlobCommit c i data else keyDestroyCommit c i
  else if off = 0x700 ∧ sub = 5 then floorCommit c v.toNat
  else plainChannel c off sub v

/-- The commit of the member at a place. -/
def memberCommit (pl : Place) (m : Member) (sub : Nat) (data : Bytes) : Commit :=
  match pl with
  | .module idx => moduleCommit idx sub (m.ty.decode data) data
  | .channel c off => channelCommit c off sub (m.ty.decode data) data

/-- A key blob, whose own order of checks holds (R251, R252). -/
def isBlob (pl : Place) (sub : Nat) : Bool :=
  match pl with
  | .module idx => idx == 0x4040 && sub == 4
  | .channel _ off => decide (0x610 ≤ off ∧ off < 0x620) && sub == 2

/-- A dictionary write through a path: the abort code, 0 for none, and the state. -/
def State.dictWrite (s : State) (p : Path) (idx sub : Nat) (data : Bytes) : AbortCode × State :=
  match placeOf idx with
  | none => (abortNotFound, s)
  | some pl =>
    match pl.member sub with
    | none => s.write p idx sub data (fun s => (abortNotFound, s))
    | some m =>
      if isBlob pl sub then s.writeBlob p idx sub (memberCommit pl m sub data)
      else s.write p idx sub data (memberCommit pl m sub data)

/-- What follows the answer of a write that committed: a warm reset (R445), a restart (R448), the close of every session
(R328). -/
def State.afterWrite (s : State) (idx sub : Nat) (data : Bytes) (code : AbortCode) : State :=
  match placeOf idx with
  | some (.module i) =>
    if i = 0x1030 ∧ sub = 3 ∧ data ≠ [1] then s.afterActivate code (if data = [2] then 3 else 4)
    else if i = 0x1200 ∧ sub = 3 then s.afterAccessKey code
    else s
  | some (.channel c off) => if off = 0 ∧ sub = 7 then s.afterBankRequest c code else s
  | none => s

end Sys2Proof.Machine
end

