-- ==== Sys2Proof/Machine/Mailbox.lean ====
section
/-! DEFINITION. The dictionary mailbox of a channel and the mirrors of its owner windows (R291 to R296, R308, R361, R363, R374,
R377, R446, R450). -/

namespace Sys2Proof.Machine

open Sys2Proof

/-! ## Fields -/

def Mailbox.sub (m : Mailbox) : Nat := m.index.toNat / 65536 % 256
/-- OP: 1 read, 2 write. -/
def Mailbox.opCode (m : Mailbox) : Nat := m.index.toNat / 16777216

def State.mbx (s : State) (c : Chan) : Mailbox := (s.chan c).host.mbx

def State.mirror (s : State) (c : Chan) (i : Slot) : Mirror := (s.chan c).host.mir[i.val]

/-- ACCESS_ERR.MBX_BUSY: a write to a busy mailbox or mirror is ignored. -/
def State.busyError (s : State) (c : Chan) : State :=
  s.modChan c fun ch => { ch with host := { ch.host with accessErr := ch.host.accessErr ||| 2 } }

/-! ## Reads (R292, R363) -/

/-- The server answers nothing now: the Reeve is restarting (R35, R377). -/
def State.silent (s : State) (c : Chan) (idx : Nat) : Bool := !s.reeve.running && s.forwards c idx

/-- A read's bytes and the copy it leaves (R363): a string or domain that one transfer of `n` bytes from offset 0 does not
return whole, or that is read at an offset above 0, is copied. -/
def State.readCopy (s : State) (p : Path) (idx sub off n : Nat) (copy : Option (Nat × Nat × Bytes)) :
    Except AbortCode (Bytes × Option (Nat × Nat × Bytes)) :=
  match s.readMember p idx sub with
  | .error e => .error e
  | .ok (m, fresh) =>
    let held := match copy with
      | some (i, j, b) => if 0 < off ∧ i = idx ∧ j = sub then some b else none
      | none => none
    let b := held.getD fresh
    let copy' := if m.ty.size.isNone && decide (0 < off ∨ n < b.length) then some (idx, sub, b) else none
    if 0 < off ∧ b.length ≤ off then .error abortRange else .ok (b, copy')

/-- The input voltage is a measurement: each read of it draws a free value. -/
def State.measured (s : State) (idx sub : Nat) : State := if idx = 0x2000 ∧ sub = 1 then s.drawn else s

/-- The operation has its answer, which MBX_OPERATION_END publishes. -/
def State.answerMbx (s : State) (c : Chan) (write : Bool) (code : AbortCode) : State :=
  s.modMbx c fun m => { m with op := some (write, some code) }

/-- The server serves a mailbox read. -/
def State.serveMbxRead (s : State) (c : Chan) : State :=
  let m := s.mbx c
  let off := m.offset.toNat
  match s.readCopy (.mailbox c) m.idx m.sub off m.len.toNat m.copy with
  | .error e => s.answerMbx c false e
  | .ok (b, copy) =>
    let part := slice b off m.len.toNat
    ((s.modMbx c fun m => { m with
      data := part ++ m.data.drop part.length, len := BitVec.ofNat 13 part.length
      total := BitVec.ofNat 32 b.length, copy := copy }).measured m.idx m.sub).answerMbx c false 0

/-! ## Writes (R293) -/

/-- Longest segmented value (R300, R339). -/
def segmentMax : Nat := 16777216

/-- A mailbox write that ends with an abort applies nothing and discards a pending segmented write. -/
def State.failMbxWrite (s : State) (c : Chan) (code : AbortCode) : State :=
  (s.modMbx c fun m => { m with pend := none }).answerMbx c true code

/-- The server takes a segment: it is held, or at LAST the whole is checked and committed with MBX_COMMITTED_SEQ. -/
def State.serveMbxWrite (s : State) (c : Chan) : State :=
  let m := s.mbx c
  let seg := padTo (m.data.take m.len.toNat) m.len.toNat
  let old := match m.pend with | some x => x.data | none => []
  let other := match m.pend with | some x => x.idx != m.idx || x.sub != m.sub | none => false
  let all := old ++ seg
  if m.offset.toNat ≠ old.length ∨ other = true then s.failMbxWrite c abortSegment
  else if segmentMax < all.length then s.failMbxWrite c abortLength
  else if m.last = false then
    let held : Pend := { idx := m.idx, sub := m.sub, data := all, deadline := s.tclk + tclkOfS 1 }
    (s.modMbx c fun m => { m with pend := some held }).answerMbx c true 0
  else
    match s.dictWrite (.mailbox c) m.idx m.sub all with
    | (code, s') =>
      if code = 0 then
        let s' := s'.modMbx c fun x => { x with pend := none, committed := m.seq, valid := true }
        (s'.answerMbx c true 0).afterWrite m.idx m.sub all code
      else s'.failMbxWrite c code

/-- The mailbox operation is served by a server that answers now. -/
def State.serveMbxNow (s : State) (c : Chan) (write : Bool) : State :=
  let m := s.mbx c
  let up := match placeOf m.idx with
    | some pl => s.carries (.mailbox c) pl m.sub write
    | none => (s.chan c).steward || (s.chan c).st == .quarantine
  if !up then (if write then s.failMbxWrite c abortNotReady else s.answerMbx c false abortNotReady)
  else if write then s.serveMbxWrite c
  else s.serveMbxRead c

/-! ## The mirrors (R296) -/

/-- The mirror read is served by a server that answers now. -/
def State.serveMirrorNow (s : State) (c : Chan) (i : Slot) : State :=
  let m := s.mirror c i
  let off := m.offset.toNat
  if (s.chan c).mirrors c i m.idx m.sub = false then s.modMirror c i fun m => { m with answer := some abortNotFound }
  else
    match s.readCopy (.mailbox c) m.idx m.sub off 256 m.copy with
    | .error e => s.modMirror c i fun m => { m with answer := some e }
    | .ok (b, copy) =>
      let part := slice b off 256
      s.modMirror c i fun m => { m with
        data := part ++ m.data.drop part.length, len := BitVec.ofNat 9 part.length
        total := BitVec.ofNat 32 b.length, copy := copy, answer := some 0 }

/-! ## The Reeve's queue (R34) -/

/-- An access joins the Reeve's queue, the last to arrive: a mailbox operation, or one of the mirror of a window. -/
def State.queueReeve (s : State) (c : Chan) (i : Option Slot) : State :=
  { s with reeveQ := s.reeveQ.filter (· != (c, i)) ++ [(c, i)] }

/-- One access of the queue is served, unless it has ended meanwhile. -/
def State.serveWaiting (s : State) (x : Chan × Option Slot) : State :=
  match x.2 with
  | none => match (s.mbx x.1).op with | some (write, none) => s.serveMbxNow x.1 write | _ => s
  | some i => if (s.mirror x.1 i).busy && (s.mirror x.1 i).answer.isNone then s.serveMirrorNow x.1 i else s

/-- While the Reeve answers, every access that has waited for it is served, in arrival order over all channels (R34). -/
def State.serveReeve (s : State) : State :=
  if s.reeve.running then { s.reeveQ.foldl State.serveWaiting s with reeveQ := [] } else s

/-- The operation is served now, behind all that arrived before it, unless its server is silent: then it waits. -/
def State.serveMbx (s : State) (c : Chan) (write : Bool) : State :=
  let s := s.serveReeve
  if s.silent c (s.mbx c).idx then
    (s.modMbx c fun m => { m with op := some (write, none) }).queueReeve c none
  else s.serveMbxNow c write

/-! ## GO -/

/-- MAILBOX_ACCESS (R148, R180). -/
def State.mailboxAccess (s : State) (c : Chan) (m : Mailbox) : State :=
  s.event c {
    unit := 0x3C, num := 0x0A03
    pay := payAt 8 m.idx ||| payAt 10 m.sub ||| payAt 11 (if m.opCode = 2 then 1 else 0) }

/-- GO: the operation starts, or ends at once with the abort of R293. -/
def State.startMbx (s : State) (c : Chan) : State :=
  let s := s.modMbx c fun m => { m with busy := true, done := false, err := false, abort := 0, since := s.tclk }
  let m := s.mbx c
  let s := s.mailboxAccess c m
  if m.opCode ≠ 1 ∧ m.opCode ≠ 2 then s.finishMbx c abortInvalid
  else if 4096 < m.len.toNat then
    (if m.opCode = 2 then s.modMbx c fun m => { m with pend := none } else s).finishMbx c abortLength
  else s.serveMbx c (m.opCode == 2)

/-- A write of MBX_CTRL: CANCEL first, then LAST is stored, then GO (R293). -/
def State.writeMbxCtrl (s : State) (c : Chan) (v : Nat) : State :=
  if (s.mbx c).busy then s.busyError c
  else
    let s := s.modMbx c fun m => { m with last := v.testBit 1, pend := if v.testBit 2 then none else m.pend }
    if v.testBit 0 then s.startMbx c else s

/-- A write of MBX_CTRL with GO, where the operation in MBX_INDEX is the row's. -/
def State.mbxGo (s : State) (c : Chan) (ctrl : BitVec 32) (here : Mailbox → Bool) : Host.Outcome State Fault Refusal :=
  s.whenHost c fun s =>
    if ctrl.getLsbD 0 && here (s.mbx c) then .next ((s.access .bar0 c 0x1004).writeMbxCtrl c ctrl.toNat) else .next s

/-- LEN names at most 4096 bytes. -/
def Mailbox.fits (m : Mailbox) : Bool := m.len.toNat ≤ 4096

/-- MBX_READ. -/
def execMbxRead (c : Chan) (ctrl : BitVec 32) (s : State) : Host.Outcome State Fault Refusal :=
  s.mbxGo c ctrl fun m => m.opCode == 1 && m.fits

/-- MBX_WRITE. -/
def execMbxWrite (c : Chan) (ctrl : BitVec 32) (s : State) : Host.Outcome State Fault Refusal :=
  s.mbxGo c ctrl fun m => m.opCode == 2 && m.fits

/-- MBX_INVALID_OP. -/
def execMbxInvalidOp (c : Chan) (ctrl : BitVec 32) (s : State) : Host.Outcome State Fault Refusal :=
  s.mbxGo c ctrl fun m => (m.opCode != 1 && m.opCode != 2) || !m.fits

/-- MBX_CANCEL: CANCEL written without GO; LAST as it stands. -/
def execMbxCancel (c : Chan) (s : State) : Host.Outcome State Fault Refusal :=
  s.whenHost c fun s =>
    .next ((s.access .bar0 c 0x1004).writeMbxCtrl c (if (s.mbx c).last then 6 else 4))

/-- MBX_OPERATION_END (R295): the answer is published; an operation whose server was silent is served first, in the
Reeve's arrival order (R34). -/
def execMbxOperationEnd (c : Chan) (s : State) : Host.Outcome State Fault Refusal :=
  s.whenHost c fun s =>
    match (s.mbx c).op with
    | none => .next s
    | some (_, some code) => .next (s.finishMbx c code)
    | some (_, none) =>
      let s := s.serveReeve
      match (s.mbx c).op with
      | some (_, some code) => .next (s.finishMbx c code)
      | _ => .next s

/-- MBX_SEGMENT_TIMEOUT (R293): 1 s without a further segment. -/
def execMbxSegmentTimeout (c : Chan) (s : State) : Host.Outcome State Fault Refusal :=
  s.whenChan c fun s =>
    match (s.mbx c).pend with
    | some x => if x.deadline ≤ s.tclk then .next (s.modMbx c fun m => { m with pend := none }) else .next s
    | none => .next s

/-- MBX_TIMEOUT (R308): a server silent for 1 s. -/
def execMbxTimeout (c : Chan) (s : State) : Host.Outcome State Fault Refusal :=
  s.whenChan c fun s =>
    match (s.mbx c).op with
    | some (_, none) =>
      if (s.mbx c).since + tclkOfS 1 ≤ s.tclk then
        .next ((s.modMbx c fun m => { m with pend := none }).finishMbx c abortNotReady)
      else .next s
    | _ => .next s

/-! ## Mirror operations (R296) -/

/-- The mirror read is served now, behind all that arrived before it, unless its server is silent: then it waits. -/
def State.serveMirror (s : State) (c : Chan) (i : Slot) : State :=
  let s := s.serveReeve
  let idx := (s.mirror c i).idx
  if (s.chan c).mirrors c i idx (s.mirror c i).sub && s.silent c idx then s.queueReeve c (some i)
  else s.serveMirrorNow c i

/-- GO of a mirror. -/
def State.startMirror (s : State) (c : Chan) (i : Slot) : State :=
  if (s.mirror c i).busy then s.busyError c
  else
    (s.modMirror c i fun m => { m with
      busy := true, done := false, err := false, abort := 0, answer := none, since := s.tclk }).serveMirror c i

/-- MIR_READ. -/
def execMirRead (c : Chan) (i : Slot) (s : State) : Host.Outcome State Fault Refusal :=
  s.whenHost c fun s => .next (s.startMirror c i)

/-- MIR_OPERATION_END. -/
def execMirOperationEnd (c : Chan) (i : Slot) (s : State) : Host.Outcome State Fault Refusal :=
  s.whenHost c fun s =>
    if (s.mirror c i).busy then
      let s := if (s.mirror c i).answer.isNone then s.serveReeve else s
      match (s.mirror c i).answer with
      | some code => .next (s.finishMirror c i code)
      | none => if (s.mirror c i).since + tclkOfS 1 ≤ s.tclk then .next (s.finishMirror c i abortNotReady) else .next s
    else .next s

end Sys2Proof.Machine
end

