-- ==== Sys2Proof/Machine/Tlx.lean ====
section
/-! DEFINITION. TLX: PDUs, sessions and leases, reads and writes, subscriptions, discovery (R326 to R338, R343 to R347). -/

namespace Sys2Proof.Machine

open Sys2Proof

/-! ## PDUs (R326) -/

abbrev kindResponse : Nat := 1
abbrev kindEvent : Nat := 2
abbrev kindAck : Nat := 3

abbrev svcIdentify : Nat := 0x01
abbrev svcOpen : Nat := 0x02
abbrev svcAuth : Nat := 0x03
abbrev svcRenew : Nat := 0x04
abbrev svcClose : Nat := 0x05
abbrev svcRead : Nat := 0x10
abbrev svcReadSegment : Nat := 0x11
abbrev svcWrite : Nat := 0x12
abbrev svcWriteCancel : Nat := 0x13
abbrev svcSubscribe : Nat := 0x20
abbrev svcUnsubscribe : Nat := 0x21
abbrev svcEvent : Nat := 0x30

/-- The services a request may name. -/
def knownServices : List Nat :=
  [svcIdentify, svcOpen, svcAuth, svcRenew, svcClose, svcRead, svcReadSegment, svcWrite, svcWriteCancel, svcSubscribe,
   svcUnsubscribe]

/-- A PDU: the 12-byte header and the body, every field big-endian. -/
def tlxPdu (kind service : Nat) (sid tid : BitVec 16) (status : AbortCode) (body : Bytes) : Bytes :=
  [1, BitVec.ofNat 8 (kind * 64 + service)] ++ beBytes 2 sid.toNat ++ beBytes 2 tid.toNat ++ beBytes 2 body.length ++
    beBytes 4 status.toNat ++ body

/-- PDUs that wait in a USB pipe's queue, at most (R453). -/
def usbQueueMax : Nat := 16

/-- A PDU goes to its partner: queued for the segment, or in the queue of the USB pipe (R321, R453). -/
def State.sendTlx (s : State) (src : TlxSrc) (cls : TxClass) (k : Option (Fin 32)) (pdu : Bytes) : State :=
  match src with
  | .network mac =>
    s.enqueueTx { cls := cls, bytes := beBytes 6 mac.toNat ++ beBytes 2 (s.mnat 0x1010 2) ++ pdu, event := none, session := k }
  | .usbControl =>
    if s.usb.ctlQ.length < usbQueueMax then { s with usb := { s.usb with ctlQ := s.usb.ctlQ ++ [pdu] } } else s
  | .usbBulk =>
    if s.usb.bulkQ.length < usbQueueMax then { s with usb := { s.usb with bulkQ := s.usb.bulkQ ++ [pdu] } } else s

/-! ## Sessions (R327 to R332) -/

def State.session (s : State) (k : Fin 32) : Session := s.sessions[k.val]

def State.setSession (s : State) (k : Fin 32) (x : Session) : State := { s with sessions := s.sessions.set k.val x }

def State.modSession (s : State) (k : Fin 32) (f : Session → Session) : State := s.setSession k (f (s.session k))

/-- Session slots 0 to 31. -/
def allSessions : List (Fin 32) := List.finRange 32

/-- The USB service port carries PDUs: the Reeve runs, and a host is attached (R35, R451). -/
def State.usbServes (s : State) : Bool :=
  s.reeve.powered && s.reeve.running && s.usb.attached && !s.usb.testMode

/-- PDUs of the source reach TLX: the segment is silent in recovery and while a TCXO failure holds the module (R35, R463). -/
def State.tlxFrom (s : State) (src : TlxSrc) : Bool :=
  match src with
  | .network _ => s.reeveUp
  | .usbControl => s.usbServes
  | .usbBulk => s.usbServes && s.usb.configured && !s.usb.haltOut

/-- A session with the ID, bound to the source, whose lease has not reached 0 (R327, R343). -/
def Session.bound (x : Session) (now : Nat) (src : TlxSrc) (sid : BitVec 16) : Bool :=
  x.st != .closed && x.sid == sid && x.src == src && decide (now < x.leaseEnd)

/-- The slot of the session that a request runs in. -/
def State.findSession (s : State) (src : TlxSrc) (sid : BitVec 16) (ok : SessSt → Bool) : Option (Fin 32) :=
  allSessions.find? fun k => (s.session k).bound s.tclk src sid && ok (s.session k).st

/-- The lease: 10 s, fixed (R329). -/
def leaseTicks : Nat := tclkOfS 10

/-- Any request or event acknowledge in an OPEN session renews its lease. -/
def State.renew (s : State) (k : Fin 32) : State :=
  s.modSession k fun x => if x.st = .opened then { x with leaseEnd := s.tclk + leaseTicks } else x

/-- The response to a session's request is sent, and kept (R332). -/
def State.respond (s : State) (k : Fin 32) (service : Nat) (tid : BitVec 16) (status : AbortCode) (body : Bytes) :
    State :=
  let x := s.session k
  let pdu := tlxPdu kindResponse service x.sid tid status body
  (s.modSession k fun x => { x with last := some (tid, pdu) }).sendTlx x.src .tlxResponse (some k) pdu

/-- A response outside a session. -/
def State.respondFree (s : State) (src : TlxSrc) (service : Nat) (sid tid : BitVec 16) (status : AbortCode)
    (body : Bytes) : State :=
  s.sendTlx src .tlxResponse none (tlxPdu kindResponse service sid tid status body)

/-- A request that runs in a session: NO_SESSION without one; a repeated transaction ID gets the kept response again; else
the service is served (R327, R332). -/
def State.inSession (s : State) (src : TlxSrc) (service : Nat) (sid tid : BitVec 16) (ok : SessSt → Bool)
    (serve : State → Fin 32 → State) : State :=
  if !s.tlxFrom src then s
  else match s.findSession src sid ok with
    | none => s.respondFree src service sid tid abortNoSession []
    | some k =>
      let s := s.renew k
      match (s.session k).last with
      | some (t, pdu) => if t = tid then s.sendTlx src .tlxResponse (some k) pdu else serve s k
      | none => serve s k

/-- Every service but AUTH needs an OPEN session. -/
def isOpened (t : SessSt) : Bool := t == .opened

/-- A session ends: its held write is discarded and its subscriptions are removed (R328). -/
def State.closeSession (s : State) (k : Fin 32) : State := s.setSession k Session.reset

/-! ## IDENTIFY (R337, R338, R347) -/

/-- The 40-byte body. -/
def State.identifyBody (s : State) : Bytes :=
  s.macBytes ++ [BitVec.ofNat 8 (s.mnat 0x1100 1), BitVec.ofNat 8 s.plcaState] ++
    (padTo s.reeve.factory.serial 16).take 16 ++ beBytes 4 s.reeveVersion.toNat ++
    beBytes 4 (s.statusWord 0 4).toNat ++
    [BitVec.ofNat 8 (32 - s.sessionsHeld), if s.reeve.accessKey.isSome then 1 else 0] ++ zeros 6

/-- The answer of the module. -/
def State.serveIdentify (s : State) (src : TlxSrc) (tid : BitVec 16) : State :=
  if s.tlxFrom src then s.sendTlx src .identify none (tlxPdu kindResponse svcIdentify 0 tid 0 s.identifyBody) else s

/-- TLX_IDENTIFY. -/
def execTlxIdentify (src : TlxSrc) (tid : BitVec 16) (s : State) : Host.Outcome State Fault Refusal :=
  .next (s.serveIdentify src tid)

/-! ## OPEN and AUTH (R328, R330) -/

/-- The role that a code asks for. -/
def roleOf (b : Byte) : Option Role :=
  if b = 0 then some .reader else if b = 1 then some .writer else if b = 2 then some .privileged else none

def roleCode : Role → Byte
  | .reader => 0 | .writer => 1 | .privileged => 2

/-- The first ID from v on that is not in use; 0 is never allocated. -/
def sidFrom (used : List (BitVec 16)) (v : BitVec 16) (fuel : Nat) : BitVec 16 :=
  let v := if v = 0 then 1 else v
  match fuel with
  | 0 => v
  | n + 1 => if used.contains v then sidFrom used (v + 1) n else v

/-- The IDs in use. -/
def State.usedSids (s : State) : List (BitVec 16) :=
  (s.sessions.toList.filter fun (x : Session) => x.st != .closed).map (·.sid)

/-- A partner on USB. -/
def onUsb (src : TlxSrc) : Bool := match src with | .network _ => false | _ => true

/-- The partner's MAC address in a proof: zero on USB. -/
def proofMac (src : TlxSrc) : Bytes := match src with | .network m => beBytes 6 m.toNat | _ => zeros 6

/-- OPEN in slot k: the session opens at once, or waits for its proof with a fresh challenge. -/
def State.openIn (s : State) (k : Fin 32) (src : TlxSrc) (tid : BitVec 16) (r : Role) (proof : Bool) : State :=
  let sid := sidFrom s.usedSids s.nextSid 64
  let ch := if proof then Config.challenge s.free else 0
  let lease := if proof then 1000 else 10000
  let x : Session := { Session.reset with
    st := if proof then .authWait else .opened, sid := sid, src := src, role := r
    leaseEnd := s.tclk + tclkOfMs lease, challenge := ch }
  let s := if proof then s.drawn else s
  (({ s with nextSid := sid + 1 }).setSession k x).respondFree src svcOpen sid tid 0
    (beBytes 4 lease ++ beBytes 16 ch.toNat)

/-- OPEN: a bad role, a role refused without an access key, 32 sessions held, else a session. -/
def State.serveOpen (s : State) (src : TlxSrc) (tid : BitVec 16) (role : Byte) : State :=
  if !s.tlxFrom src then s
  else
    let keyed := s.reeve.accessKey.isSome
    match roleOf role with
    | none => s.respondFree src svcOpen 0 tid abortInvalid []
    | some r =>
      if r ≠ .reader ∧ keyed = false ∧ onUsb src = false then s.respondFree src svcOpen 0 tid abortDenied []
      else match allSessions.find? fun k => (s.session k).st == .closed with
        | none => s.respondFree src svcOpen 0 tid abortSessionLimit []
        | some k => s.openIn k src tid r (r != .reader && keyed)

/-- TLX_OPEN. -/
def execTlxOpen (src : TlxSrc) (tid : BitVec 16) (role : Byte) (s : State) : Host.Outcome State Fault Refusal :=
  .next (s.serveOpen src tid role)

/-- The proof that AUTH must carry. -/
def State.proofOf (s : State) (x : Session) : BitVec 128 :=
  BitVec.ofNat 128 (beNat (cmac (s.reeve.accessKey.getD [])
    (beBytes 16 x.challenge.toNat ++ beBytes 2 x.sid.toNat ++ [roleCode x.role] ++ proofMac x.src)))

/-- AUTH in a session that waits for it; an open session has no proof to give. -/
def State.serveAuth (s : State) (src : TlxSrc) (sid tid : BitVec 16) (proof : BitVec 128) : State :=
  s.inSession src svcAuth sid tid (· != .closed) fun s k =>
    let x := s.session k
    if x.st = .opened then s.respond k svcAuth tid abortConflict []
    else if proof = s.proofOf x then
      (s.modSession k fun x => { x with st := .opened, leaseEnd := s.tclk + leaseTicks }).respond k svcAuth tid 0
        (beBytes 4 10000 ++ [roleCode x.role])
    else (s.respond k svcAuth tid abortAuth []).closeSession k

/-- TLX_AUTH. -/
def execTlxAuth (src : TlxSrc) (sid tid : BitVec 16) (proof : BitVec 128) (s : State) :
    Host.Outcome State Fault Refusal :=
  .next (s.serveAuth src sid tid proof)

/-! ## RENEW, CLOSE and unknown services -/

def State.serveRenew (s : State) (src : TlxSrc) (sid tid : BitVec 16) : State :=
  s.inSession src svcRenew sid tid isOpened fun s k => s.respond k svcRenew tid 0 (beBytes 4 10000)

/-- TLX_RENEW. -/
def execTlxRenew (src : TlxSrc) (sid tid : BitVec 16) (s : State) : Host.Outcome State Fault Refusal :=
  .next (s.serveRenew src sid tid)

def State.serveClose (s : State) (src : TlxSrc) (sid tid : BitVec 16) : State :=
  s.inSession src svcClose sid tid isOpened fun s k => (s.respond k svcClose tid 0 []).closeSession k

/-- TLX_CLOSE. -/
def execTlxClose (src : TlxSrc) (sid tid : BitVec 16) (s : State) : Host.Outcome State Fault Refusal :=
  .next (s.serveClose src sid tid)

/-- A service the table does not define: SERVICE_UNKNOWN, with or without a session. -/
def State.serveUnknown (s : State) (src : TlxSrc) (sid tid : BitVec 16) (service : Nat) : State :=
  if !s.tlxFrom src || knownServices.contains service then s
  else match s.findSession src sid isOpened with
    | none => s.respondFree src service sid tid abortServiceUnknown []
    | some _ =>
      s.inSession src service sid tid isOpened fun s k => s.respond k service tid abortServiceUnknown []

/-- TLX_UNKNOWN_SERVICE. -/
def execTlxUnknownService (src : TlxSrc) (sid tid : BitVec 16) (service : Byte) (s : State) :
    Host.Outcome State Fault Refusal :=
  .next (s.serveUnknown src sid tid (service.toNat % 64))

/-! ## Reads (R333) -/

/-- Longest value of one READ or WRITE (R339). -/
def tlxMax : Nat := 1024

/-- READ: whole up to 1,024 bytes; a longer value is copied for the session. -/
def State.serveRead (s : State) (src : TlxSrc) (sid tid : BitVec 16) (idx sub : Nat) : State :=
  s.inSession src svcRead sid tid isOpened fun s k =>
    let x := s.session k
    match s.readMember (.tlx x.role) idx sub with
    | .error e => (s.modSession k fun x => { x with copy := none }).respond k svcRead tid e []
    | .ok (m, v) =>
      let b := tlxBytes m v
      ((s.measured idx sub).modSession k fun x => { x with copy := if tlxMax < b.length then some b else none }).respond k
        svcRead tid 0 (beBytes 4 b.length ++ b.take tlxMax)

/-- TLX_READ. -/
def execTlxRead (src : TlxSrc) (sid tid : BitVec 16) (idx sub : Nat) (s : State) : Host.Outcome State Fault Refusal :=
  .next (s.serveRead src sid tid idx sub)

/-- READ_SEGMENT: up to 1,024 bytes of the copy. -/
def State.serveReadSegment (s : State) (src : TlxSrc) (sid tid : BitVec 16) (off : Nat) : State :=
  s.inSession src svcReadSegment sid tid isOpened fun s k =>
    match (s.session k).copy with
    | none => s.respond k svcReadSegment tid abortSegment []
    | some b =>
      if b.length ≤ off then s.respond k svcReadSegment tid abortRange []
      else s.respond k svcReadSegment tid 0 (beBytes 4 b.length ++ slice b off tlxMax)

/-- TLX_READ_SEGMENT. -/
def execTlxReadSegment (src : TlxSrc) (sid tid : BitVec 16) (off : Nat) (s : State) :
    Host.Outcome State Fault Refusal :=
  .next (s.serveReadSegment src sid tid off)

/-! ## Writes (R334, R344, R346) -/

/-- A value as TLX sends it, least significant byte first for the fixed-length types (R353). -/
def unwire (idx sub : Nat) (b : Bytes) : Bytes :=
  match (placeOf idx).bind (·.member sub) with
  | some m => tlxBytes m b
  | none => b

/-- A held segmented write of a session is discarded. -/
def State.dropPend (s : State) (k : Fin 32) : State := s.modSession k fun x => { x with pend := none }

/-- The commit rule of R334 for one WRITE. -/
def State.serveSegment (s : State) (k : Fin 32) (tid : BitVec 16) (idx sub : Nat) (last : Bool) (off : Nat)
    (data : Bytes) : State :=
  let x := s.session k
  let old := match x.pend with | some p => p.data | none => []
  let other := match x.pend with | some p => p.data.length != 0 && (p.idx != idx || p.sub != sub) | none => false
  let all := old ++ data
  if off ≠ old.length ∨ other = true then (s.dropPend k).respond k svcWrite tid abortSegment []
  else if segmentMax < all.length then (s.dropPend k).respond k svcWrite tid abortLength []
  else if last = false then
    let held : Pend := { idx := idx, sub := sub, data := all, deadline := s.tclk + tclkOfS 1 }
    (s.modSession k fun x => { x with pend := some held }).respond k svcWrite tid 0 []
  else
    let v := unwire idx sub all
    match s.dictWrite (.tlx x.role) idx sub v with
    | (code, s') => ((s'.dropPend k).respond k svcWrite tid code []).afterWrite idx sub v code

/-- WRITE. -/
def State.serveWrite (s : State) (src : TlxSrc) (sid tid : BitVec 16) (idx sub : Nat) (last : Bool) (off : Nat)
    (data : Bytes) : State :=
  s.inSession src svcWrite sid tid isOpened fun s k => s.serveSegment k tid idx sub last off data

/-- TLX_WRITE. -/
def execTlxWrite (src : TlxSrc) (sid tid : BitVec 16) (idx sub : Nat) (last : Bool) (off : Nat) (data : Bytes)
    (s : State) : Host.Outcome State Fault Refusal :=
  .next (s.serveWrite src sid tid idx sub last off data)

def State.serveWriteCancel (s : State) (src : TlxSrc) (sid tid : BitVec 16) : State :=
  s.inSession src svcWriteCancel sid tid isOpened fun s k => (s.dropPend k).respond k svcWriteCancel tid 0 []

/-- TLX_WRITE_CANCEL. -/
def execTlxWriteCancel (src : TlxSrc) (sid tid : BitVec 16) (s : State) : Host.Outcome State Fault Refusal :=
  .next (s.serveWriteCancel src sid tid)

/-- TLX_WRITE_IDLE_TIMEOUT: 1 s without a further segment. -/
def execTlxWriteIdleTimeout (k : Fin 32) (s : State) : Host.Outcome State Fault Refusal :=
  match (s.session k).pend with
  | some p => .next (if p.deadline ≤ s.tclk then s.dropPend k else s)
  | none => .next s

/-! ## Subscriptions (R335, R344) -/

/-- Longest value that a member can take. -/
def maxLength (m : Member) : Nat :=
  match m.ty.size, m.ty with
  | some n, _ => n
  | none, .str n => n
  | none, .domain n => n
  | none, _ => 0

/-- Subscriptions the module holds. -/
def State.subsHeld (s : State) : Nat := (s.sessions.toList.map fun (x : Session) => x.subs.length).sum

/-- The lowest handle that a session does not use. -/
def Session.freeHandle (x : Session) : Option (Fin 8) :=
  (List.finRange 8).find? fun h => !(x.subs.any fun (u : Sub) => u.handle == h)

/-- The checks of a SUBSCRIBE on the value, the mode and the intervals. -/
def subscribeCheck (m : Member) (mode : Byte) (minMs periodMs : Nat) : AbortCode :=
  if 64 < maxLength m then abortInvalid
  else if mode ≠ 0 ∧ mode ≠ 1 then abortInvalid
  else if mode = 0 ∧ ¬(1 ≤ minMs ∧ minMs ≤ 60000) then abortRange
  else if mode = 1 ∧ ¬(10 ≤ periodMs ∧ periodMs ≤ 60000) then abortRange
  else 0

/-- SUBSCRIBE. -/
def State.serveSubscribe (s : State) (src : TlxSrc) (sid tid : BitVec 16) (idx sub : Nat) (mode : Byte)
    (minMs periodMs : Nat) : State :=
  s.inSession src svcSubscribe sid tid isOpened fun s k =>
    let x := s.session k
    match s.readMember (.tlx x.role) idx sub with
    | .error e => s.respond k svcSubscribe tid e []
    | .ok (m, v) =>
      let code := subscribeCheck m mode minMs periodMs
      if code ≠ 0 then s.respond k svcSubscribe tid code []
      else match x.freeHandle with
        | none => s.respond k svcSubscribe tid abortSubscriptionLimit []
        | some h =>
          if 64 ≤ s.subsHeld then s.respond k svcSubscribe tid abortSubscriptionLimit []
          else
            let u : Sub := {
              handle := h, idx := idx, sub := sub, periodic := mode == 1, minMs := minMs, periodMs := periodMs
              lastSent := if mode = 1 then some s.tclk else none, lastValue := tlxBytes m v, dirty := false }
            (s.modSession k fun x => { x with subs := x.subs ++ [u] }).respond k svcSubscribe tid 0
              [BitVec.ofNat 8 h.val]

/-- TLX_SUBSCRIBE. -/
def execTlxSubscribe (src : TlxSrc) (sid tid : BitVec 16) (idx sub : Nat) (mode : Byte) (minMs periodMs : Nat)
    (s : State) : Host.Outcome State Fault Refusal :=
  .next (s.serveSubscribe src sid tid idx sub mode minMs periodMs)

/-- UNSUBSCRIBE: a handle above 7 is out of range, one not held is refused in the present state. -/
def State.serveUnsubscribe (s : State) (src : TlxSrc) (sid tid : BitVec 16) (handle : Byte) : State :=
  s.inSession src svcUnsubscribe sid tid isOpened fun s k =>
    let mine := fun (u : Sub) => u.handle.val == handle.toNat
    if 8 ≤ handle.toNat then s.respond k svcUnsubscribe tid abortRange []
    else if (s.session k).subs.any mine then
      (s.modSession k fun x => { x with subs := x.subs.filter fun u => !mine u }).respond k svcUnsubscribe tid 0 []
    else s.respond k svcUnsubscribe tid abortConflict []

/-- TLX_UNSUBSCRIBE. -/
def execTlxUnsubscribe (src : TlxSrc) (sid tid : BitVec 16) (handle : Byte) (s : State) :
    Host.Outcome State Fault Refusal :=
  .next (s.serveUnsubscribe src sid tid handle)

/-! ## Notifications (R335, R336, R344) -/

/-- Unacknowledged notifications a session holds, at most. -/
def unackedMax : Nat := 16

/-- A subscription falls due with a value: on change and past the minimum interval, or a period on. -/
def Sub.due (u : Sub) (now : Nat) (value : Bytes) : Bool :=
  if u.periodic then decide (u.lastSent.getD 0 + tclkOfMs u.periodMs ≤ now)
  else (u.dirty || u.lastValue != value) &&
    (match u.lastSent with | some t => decide (t + tclkOfMs u.minMs ≤ now) | none => true)

/-- The notification of a value. -/
def State.notify (s : State) (k : Fin 32) (u : Sub) (value : Bytes) : State :=
  let x := s.session k
  let seq := x.evSeq + 1
  let pdu := tlxPdu kindEvent svcEvent x.sid seq 0
    ([BitVec.ofNat 8 u.handle.val, 0, 0, 0] ++ beBytes 8 s.now.toNat ++ beBytes 2 value.length ++ value)
  let n : Unacked := { seq := seq, bytes := pdu, retryAt := s.tclk + tclkOfMs 100, tries := 0 }
  let u' : Sub := { u with lastSent := some s.tclk, lastValue := value, dirty := false }
  (s.modSession k fun x => { x with
    evSeq := seq, unacked := x.unacked ++ [n]
    subs := x.subs.map fun (v : Sub) => if v.handle = u.handle then u' else v }).sendTlx x.src .tlxEvent (some k) pdu

/-- TLX_EVENT_NOTIFY: nothing is sent while 16 notifications are unacknowledged, nor while the member cannot be read. -/
def execTlxEventNotify (k : Fin 32) (handle : Fin 8) (s : State) : Host.Outcome State Fault Refusal :=
  let x := s.session k
  if !(s.reeve.powered && s.reeve.running) || !isOpened x.st then .next s
  else match x.subs.find? fun (u : Sub) => u.handle == handle with
    | none => .next s
    | some u =>
      match s.readMember (.tlx x.role) u.idx u.sub with
      | .error _ => .next s
      | .ok (m, v) =>
        let value := tlxBytes m v
        if u.due s.tclk value && decide (x.unacked.length < unackedMax) then
          .next ((s.measured u.idx u.sub).notify k u value)
        else .next s

/-- TLX_EVENT_RETRY: the oldest notification that is due is sent again, at most 3 times, or dropped; in LISTEN_ONLY
notifications of the segment wait (R319). -/
def execTlxEventRetry (k : Fin 32) (s : State) : Host.Outcome State Fault Refusal :=
  let x := s.session k
  let waits := !onUsb x.src && s.plcaState == plcaListen
  if !(s.reeve.powered && s.reeve.running) || !isOpened x.st || waits then .next s
  else match x.unacked.find? fun (n : Unacked) => decide (n.retryAt ≤ s.tclk) with
    | none => .next s
    | some n =>
      if 3 ≤ n.tries then .next (s.modSession k fun x => { x with unacked := x.unacked.erase n })
      else
        let n' : Unacked := { n with retryAt := s.tclk + tclkOfMs 100, tries := n.tries + 1 }
        .next ((s.modSession k fun x => { x with
          unacked := x.unacked.map fun (v : Unacked) => if v = n then n' else v }).sendTlx x.src .tlxEvent (some k)
            n.bytes)

/-- An acknowledge frees its notification and renews the lease; it has no answer. -/
def State.serveAck (s : State) (src : TlxSrc) (sid seq : BitVec 16) : State :=
  if !s.tlxFrom src then s
  else match s.findSession src sid isOpened with
    | none => s
    | some k => (s.renew k).modSession k fun x => { x with
        unacked := x.unacked.filter fun (n : Unacked) => n.seq != seq }

/-- TLX_EVENT_ACK. -/
def execTlxEventAck (src : TlxSrc) (sid seq : BitVec 16) (s : State) : Host.Outcome State Fault Refusal :=
  .next (s.serveAck src sid seq)

/-! ## The end of a lease (R328, R329) -/

/-- A session whose lease has reached 0 closes, with TLX_SESSION_LAPSED. -/
def State.lapse (s : State) (k : Fin 32) : State :=
  (s.closeSession k).moduleEvent { unit := 0xF0, num := 0x1004, pay := payAt 8 k.val }

/-- AUTH_TIMEOUT: 1 s in AUTH_WAIT; no response. -/
def execAuthTimeout (k : Fin 32) (s : State) : Host.Outcome State Fault Refusal :=
  let x := s.session k
  .next (if x.st = .authWait ∧ x.leaseEnd ≤ s.tclk then s.lapse k else s)

/-- SESSION_LAPSE. -/
def execSessionLapse (k : Fin 32) (s : State) : Host.Outcome State Fault Refusal :=
  let x := s.session k
  .next (if x.st ≠ .closed ∧ x.leaseEnd ≤ s.tclk then s.lapse k else s)

/-! ## A PDU as it arrives (R326, R452) -/

/-- The header and body of a PDU whose version is 1 and whose kind the module receives; `padded` allows the zeros of a
minimum frame. -/
def parsePdu (b : Bytes) (padded : Bool) : Option (Nat × Nat × BitVec 16 × BitVec 16 × Bytes) :=
  let n := beField b 6 2
  let ty := beField b 1 1
  let fits := b.length == 12 + n || (padded && b.length ≤ 46 && 12 + n ≤ b.length)
  if b.length < 12 ∨ beField b 0 1 ≠ 1 ∨ fits = false ∨ (ty / 64 ≠ 0 ∧ ty / 64 ≠ 3) then none
  else some (ty / 64, ty % 64, BitVec.ofNat 16 (beField b 2 2), BitVec.ofNat 16 (beField b 4 2), slice b 12 n)

/-- The body has the length its service gives it. -/
def bodyFits (service n : Nat) : Bool :=
  if service = svcOpen ∨ service = svcRead ∨ service = svcReadSegment then n == 4
  else if service = svcAuth then n == 16
  else if service = svcWrite then decide (8 ≤ n ∧ n ≤ 8 + tlxMax)
  else if service = svcSubscribe then n == 8
  else if service = svcUnsubscribe then n == 1
  else if knownServices.contains service then n == 0
  else decide (n ≤ 1040)

/-- A request goes to its service. -/
def State.runRequest (s : State) (src : TlxSrc) (service : Nat) (sid tid : BitVec 16) (b : Bytes) : State :=
  let byte := fun i => BitVec.ofNat 8 (beField b i 1)
  let idx := beField b 0 2
  let sub := beField b 2 1
  if service = svcIdentify then s.serveIdentify src tid
  else if service = svcOpen then s.serveOpen src tid (byte 0)
  else if service = svcAuth then s.serveAuth src sid tid (BitVec.ofNat 128 (beNat b))
  else if service = svcRenew then s.serveRenew src sid tid
  else if service = svcClose then s.serveClose src sid tid
  else if service = svcRead then s.serveRead src sid tid idx sub
  else if service = svcReadSegment then s.serveReadSegment src sid tid (beField b 0 4)
  else if service = svcWrite then
    s.serveWrite src sid tid idx sub ((byte 3).getLsbD 0) (beField b 4 4) (b.drop 8)
  else if service = svcWriteCancel then s.serveWriteCancel src sid tid
  else if service = svcSubscribe then s.serveSubscribe src sid tid idx sub (byte 3) (beField b 4 2) (beField b 6 2)
  else if service = svcUnsubscribe then s.serveUnsubscribe src sid tid (byte 0)
  else s.serveUnknown src sid tid service

/-- A PDU is acted on; none where it is malformed. -/
def State.runPdu (s : State) (src : TlxSrc) (b : Bytes) (padded : Bool) : Option State :=
  match parsePdu b padded with
  | none => none
  | some (kind, service, sid, tid, body) =>
    if kind = kindAck then
      (if service = svcEvent ∧ body = [] then some (s.serveAck src sid tid) else none)
    else if bodyFits service body.length then some (s.runRequest src service sid tid body)
    else none

end Sys2Proof.Machine
end

