-- ==== Sys2Proof/Machine/Usb.lean ====
section
/-! DEFINITION. The USB service port (R451 to R454). -/

namespace Sys2Proof.Machine

open Sys2Proof

/-- The port answers on endpoint 0: the Reeve or its boot ROM runs, and a host is attached (R451). -/
def State.usbAnswers (s : State) : Bool := s.reeve.powered && s.usb.attached && !s.usb.testMode

/-- A request that the port does not serve is stalled (R452). -/
def State.usbStall (s : State) : State := s.emit .usbStall

/-- A committed PDU is acted on; a malformed one is discarded (R326, R452, R454). -/
def State.usbPdu (s : State) (src : TlxSrc) (b : Bytes) : State := (s.runPdu src b false).getD s

/-- USB_TLX_SEND: the status stage of a TLX_SEND completes, its commit point; a wLength outside 12 to 1,052 is stalled. -/
def execUsbTlxSend (wLength : Nat) (pdu : Bytes) (s : State) : Host.Outcome State Fault Refusal :=
  if !s.usbServes then .next s
  else if wLength < 12 ∨ 1052 < wLength then .next s.usbStall
  else if pdu.length ≠ wLength then .next s
  else .next (s.usbPdu .usbControl pdu)

/-- USB_TLX_RECEIVE: the oldest PDU of the control pipe, or zero bytes; a shorter wLength is stalled and the PDU stays. -/
def execUsbTlxReceive (wLength : Nat) (s : State) : Host.Outcome State Fault Refusal :=
  if !s.usbServes then .next s
  else if wLength < 1052 then .next s.usbStall
  else match s.usb.ctlQ with
    | [] => .next (s.emit (.usb []))
    | b :: rest => .next ({ s with usb := { s.usb with ctlQ := rest } }.emit (.usb b))

/-- The 8 bytes of PORT_INFO. -/
def State.portInfo (s : State) : Bytes :=
  leBytes 4 s.reeveIface.toNat ++ [BitVec.ofNat 8 (32 - s.sessionsHeld), BitVec.ofNat 8 s.usb.ctlQ.length,
    BitVec.ofNat 8 s.usb.bulkQ.length, 0]

/-- USB_PORT_INFO. -/
def execUsbPortInfo (s : State) : Host.Outcome State Fault Refusal :=
  .next (if s.usbServes then s.emit (.usb s.portInfo) else s)

/-- USB_BULK_PDU: a short packet or a ZLP on endpoint 0x01 commits the PDU. -/
def execUsbBulkPdu (pdu : Bytes) (s : State) : Host.Outcome State Fault Refusal :=
  .next (if s.tlxFrom .usbBulk then s.usbPdu .usbBulk pdu else s)

/-- USB_BULK_IN: the host takes the oldest PDU of the bulk pipe on endpoint 0x81. -/
def execUsbBulkIn (s : State) : Host.Outcome State Fault Refusal :=
  if s.usbServes && s.usb.configured && !s.usb.haltIn then
    match s.usb.bulkQ with
    | [] => .next s
    | b :: rest => .next ({ s with usb := { s.usb with bulkQ := rest } }.emit (.usb b))
  else .next s

/-- Every session of a USB pipe closes (R328, R454). -/
def Session.afterBusReset (x : Session) : Session := if onUsb x.src then Session.reset else x

/-- USB_BUS_RESET: a bus reset, or a detach. -/
def execUsbBusReset (detach : Bool) (s : State) : Host.Outcome State Fault Refusal :=
  if !(s.reeve.powered && s.usb.attached) then .next s
  else .next { s with
    sessions := s.sessions.map fun (x : Session) => x.afterBusReset
    usb := { Usb.reset with attached := !detach, testMode := s.usb.testMode } }

/-- USB_ATTACH: VBUS is sensed. -/
def execUsbAttach (s : State) : Host.Outcome State Fault Refusal :=
  .next (if s.reeve.powered then { s with usb := { s.usb with attached := true } } else s)

/-! ## Standard requests (R451) -/

/-- The device descriptor: self-powered USB 2.0, 64-byte endpoint 0, product 0x8F1F, one configuration. -/
def deviceDescriptor : Bytes :=
  [18, 1, 0x00, 0x02, 0, 0, 0, 64, Config.usbByte 0, Config.usbByte 1, 0x1F, 0x8F, Config.usbByte 2, Config.usbByte 3,
   Config.usbByte 4, Config.usbByte 5, Config.usbByte 6, 1]

/-- Bulk packet size at high speed. -/
def bulkMax : Nat := 512

/-- The configuration: one interface of class 0xFF with bulk OUT 0x01 and bulk IN 0x81; nothing drawn from VBUS. -/
def configDescriptor (ty : Byte) (packet : Nat) : Bytes :=
  [9, ty, 32, 0, 1, 1, Config.usbByte 7, 0xC0, 0] ++
  [9, 4, 0, 0, 2, 0xFF, 0x00, 0x00, Config.usbByte 8] ++
  [7, 5, 0x01, 2] ++ leBytes 2 packet ++ [0] ++
  [7, 5, 0x81, 2] ++ leBytes 2 packet ++ [0]

/-- The serial-number string: 0x1000:03 in UTF-16. -/
def State.serialDescriptor (s : State) : Bytes :=
  let b := s.reeve.factory.serial.flatMap fun c => [c, 0]
  [BitVec.ofNat 8 (2 + b.length), 3] ++ b

/-- GET_DESCRIPTOR: type in the high byte of wValue, index in the low byte; none for a descriptor that does not exist. A
string other than the serial number has contents that the manual leaves open. -/
def State.usbDescriptor (s : State) (value : Nat) : Option Bytes :=
  let ty := value / 256
  if ty = 1 then some deviceDescriptor
  else if ty = 2 then some (configDescriptor 2 bulkMax)
  else if ty = 3 then
    (if BitVec.ofNat 8 value = Config.usbByte 6 then some s.serialDescriptor
     else some [4, 3, Config.usbByte (256 + value % 256), Config.usbByte (512 + value % 256)])
  else if ty = 6 then some [10, 6, 0x00, 0x02, 0, 0, 0, 64, 1, 0]
  else if ty = 7 then some (configDescriptor 7 64)
  else none

/-- A request with a reply, or one that stalls. -/
def State.usbReply (s : State) (r : Option Bytes) : State :=
  match r with
  | some b => s.emit (.usb b)
  | none => s.usbStall

/-- A request with no data stage that passes. -/
def State.usbDone (s : State) (u : Usb) : State := ({ s with usb := u }).emit (.usb [])

/-- The standard requests of the subset; bmRequestType gives the direction and the recipient (0 device, 1 interface, 2
endpoint). -/
def State.usbStandard (s : State) (requestType request value index : Nat) : State :=
  let u := s.usb
  if request = 0 ∧ requestType = 0x80 then s.usbReply (some [1, 0])
  else if request = 0 ∧ requestType = 0x81 then s.usbReply (some [0, 0])
  else if request = 0 ∧ requestType = 0x82 then
    s.usbReply (if index = 0x01 then some [if u.haltOut then 1 else 0, 0]
      else if index = 0x81 then some [if u.haltIn then 1 else 0, 0]
      else if index = 0 ∨ index = 0x80 then some [0, 0] else none)
  else if request = 1 ∧ requestType = 0x02 ∧ value = 0 then
    (if index = 0x01 then s.usbDone { u with haltOut := false }
     else if index = 0x81 then s.usbDone { u with haltIn := false }
     else if index = 0 ∨ index = 0x80 then s.usbDone u else s.usbStall)
  else if request = 3 ∧ requestType = 0x00 ∧ value = 2 then s.usbDone { u with testMode := true }
  else if request = 5 ∧ requestType = 0x00 ∧ value < 128 then s.usbDone { u with address := value }
  else if request = 6 ∧ requestType = 0x80 then s.usbReply (s.usbDescriptor value)
  else if request = 8 ∧ requestType = 0x80 then s.usbReply (some [if u.configured then 1 else 0])
  else if request = 9 ∧ requestType = 0x00 ∧ value < 2 then s.usbDone { u with configured := value == 1 }
  else s.usbStall

/-- USB_STANDARD_REQUEST. -/
def execUsbStandardRequest (requestType request value index : Nat) (s : State) : Host.Outcome State Fault Refusal :=
  .next (if s.usbAnswers then s.usbStandard requestType request value index else s)

end Sys2Proof.Machine
end

