-- ==== Sys2Proof/Machine/FieldRx.lean ====
section
/-! DEFINITION. A frame received from the segment (R309, R325, R326, R337, R348). -/

namespace Sys2Proof.Machine

open Sys2Proof

/-! ## The frame -/

/-- A received frame without its FCS and an 802.1Q tag: destination, source, Ethertype, payload. -/
structure MacFrame where
  dst : Bytes
  src : BitVec 48
  ethertype : Nat
  payload : Bytes
deriving DecidableEq, Repr

/-- Frame sizes 64 to 1,518 bytes with the FCS, four more with a tag; the FCS must be right. -/
def parseFrame (b : Bytes) : Option MacFrame :=
  let tagged := beField b 12 2 == 0x8100
  let tag := if tagged then 4 else 0
  let body := b.dropLast.dropLast.dropLast.dropLast
  if b.length < 64 ∨ 1518 + tag < b.length ∨ b.drop body.length ≠ leBytes 4 (crc32 body).toNat then none
  else some {
    dst := body.take 6, src := BitVec.ofNat 48 (beField body 6 6), ethertype := beField body (12 + tag) 2
    payload := body.drop (14 + tag) }

/-- The TLX discovery address. -/
def discoveryMac : Bytes := [0x03, 0x52, 0x46, 0x38, 0x00, 0x01]

/-- The PTP address. -/
def ptpMac : Bytes := [0x01, 0x1B, 0x19, 0x00, 0x00, 0x00]

/-- The accepted destinations. -/
def State.forModule (s : State) (dst : Bytes) : Bool :=
  dst == s.macBytes || dst == List.replicate 6 0xFF || dst == ptpMac || dst == discoveryMac

/-- A frame is discarded and counted. -/
def State.discardFrame (s : State) : State := s.mcount 0x1010 5 1

/-! ## PTP messages (R58) -/

/-- A signed number of n bytes, most significant first. -/
def beInt (b : Bytes) (off n : Nat) : Int := (signExtend n (beField b off n)).toInt

/-- A PTP timestamp of 10 bytes. -/
def beStamp (b : Bytes) (off : Nat) : T64 := BitVec.ofNat 64 (beField b off 6 * 1000000000 + beField b (off + 6) 4)

/-- The header and timestamp of a PTP message. -/
def parsePtp (b : Bytes) : PtpMsg :=
  { domain := beField b 4 1, sender := BitVec.ofNat 64 (beField b 20 8), seqId := BitVec.ofNat 16 (beField b 30 2)
    logInterval := beInt b 33 1, twoStep := beField b 6 1 / 2 % 2 == 1, stamp := beStamp b 34
    correction := beInt b 8 8 / 65536
    requester := BitVec.ofNat 64 (beField b (if beField b 0 1 % 16 = 9 then 44 else 20) 8) }

/-- The fields of an Announce. -/
def parseAnnounce (b : Bytes) : Announce :=
  let f := beField b 7 1
  { domain := beField b 4 1, gm := BitVec.ofNat 64 (beField b 53 8), priority1 := beField b 47 1
    clockClass := beField b 48 1, clockAccuracy := beField b 49 1, variance := beField b 50 2
    priority2 := beField b 52 1, stepsRemoved := beField b 61 2, sender := BitVec.ofNat 64 (beField b 20 8)
    utcOffset := beInt b 44 2, utcValid := f / 4 % 2 == 1, leap61 := f % 2 == 1, leap59 := f / 2 % 2 == 1 }

/-- Length of a PTP message by its type; none for a type the module does not use. -/
def ptpLength (ty : Nat) : Option Nat :=
  if ty = 0 ∨ ty = 1 ∨ ty = 8 then some 44 else if ty = 9 then some 54 else if ty = 0x0B then some 64 else none

/-- A PTP message goes to its meaning. -/
def State.runPtp (s : State) (b : Bytes) : Host.Outcome State Fault Refusal :=
  let ty := beField b 0 1 % 16
  match ptpLength ty with
  | none => .next s.discardFrame
  | some n =>
    if b.length < n ∨ beField b 1 1 % 16 ≠ 2 then .next s.discardFrame
    else if ty = 0 then execSyncReceived (parsePtp b) s
    else if ty = 1 then execDelayReqReceived (parsePtp b) s
    else if ty = 8 then execFollowUpReceived (parsePtp b) s
    else if ty = 9 then execDelayRespReceived (parsePtp b) s
    else execAnnounceReceived (parseAnnounce b) s

/-! ## FIELD_FRAME_RECEIVED -/

/-- An accepted frame goes to PTP or TLX by its Ethertype. -/
def State.acceptFrame (s : State) (f : MacFrame) : Host.Outcome State Fault Refusal :=
  let s := s.mcount 0x1010 3 1
  if f.ethertype = 0x88F7 then s.runPtp f.payload
  else if f.ethertype = s.mnat 0x1010 2 then
    .next ((s.runPdu (.network f.src) f.payload true).getD s.discardFrame)
  else .next s.discardFrame

/-- FIELD_FRAME_RECEIVED. -/
def execFieldFrameReceived (frame : Frame) (s : State) : Host.Outcome State Fault Refusal :=
  s.whenReeve fun s =>
    match parseFrame frame with
    | none => .next s.discardFrame
    | some f => if s.forModule f.dst then s.acceptFrame f else .next s

end Sys2Proof.Machine
end

