-- ==== Sys2Proof/Machine/Regs.lean ====
section
/-! DEFINITION. The registers of BAR0 and BAR2: what each offset reads, what a write to it does, the pair rule, access sizes and
masked copies (R6, R40, R152 to R154, R193 to R195, R229, R257, R277 to R291, R296, R304, R305). -/

namespace Sys2Proof.Machine

open Sys2Proof

/-! ## Words -/

/-- Low and high halves of a 64-bit value. -/
def lo32 (v : Word) : BitVec 32 := v.setWidth 32
def hi32 (v : Word) : BitVec 32 := (v >>> 32).setWidth 32

/-- One half of a value, by the address of the half. -/
def halfOf (v : Word) (off : Nat) : BitVec 32 := if off % 8 = 0 then lo32 v else hi32 v

/-- A 32-bit register value. -/
def r32 (n : Nat) : BitVec 32 := BitVec.ofNat 32 n

/-- The 4 bytes at an offset of a byte buffer whose missing bytes are 0. -/
def bufWord (b : Bytes) (off : Nat) : BitVec 32 := r32 (leField b off 4)

/-- A byte buffer with 4 bytes written. -/
def bufWrite (b : Bytes) (off : Nat) (v : BitVec 32) : Bytes :=
  let b := padTo b (off + 4)
  b.take off ++ leBytes 4 v.toNat ++ b.drop (off + 4)

/-! ## Ring registers (R152, R233, R280, R282, R285, R287) -/

/-- The ring that a slot offset of 0x100 to 0x4FF belongs to. -/
def ringAt (off : Nat) : Option RingKind :=
  if off / 256 = 1 then some .job else if off / 256 = 2 then some .result
  else if off / 256 = 3 then some .trace else if off / 256 = 4 then some .decant else none

def Owner.ring (o : Owner) (k : RingKind) : Ring :=
  match k with | .job => o.job | .result => o.result | .trace => o.trace | .decant => o.decant

def Owner.putRing (o : Owner) (k : RingKind) (r : Ring) : Owner :=
  match k with
  | .job => { o with job := r } | .result => { o with result := r }
  | .trace => { o with trace := r } | .decant => { o with decant := r }

/-- JOB_RING_STATUS. -/
def Owner.jobStatus (o : Owner) : Nat :=
  o.jobActive.toNat + 2 * o.job.fault.toNat + 4 * o.job.jobSizeErr.toNat + 8 * (!o.keyed).toNat +
  16 * (o.st == .retiring).toNat + 32 * o.job.tailErr.toNat + 64 * o.noResultRing.toNat

/-- STATUS of a block ring; bit 6 is THROTTLED in the trace ring. -/
def Owner.blockStatus (o : Owner) (r : Ring) (throttled : Bool) : Nat :=
  r.active.toNat + 2 * r.full.toNat + 4 * r.fault.toNat + 8 * r.sizeErr.toNat + 16 * r.bit4.toNat + 32 * (!o.keyed).toNat +
  64 * throttled.toNat

/-- Reserved bits for which no register table states a value (R5, R233, R287; log entry 104): bit 1 of
RESULT_RING_CTRL, bit 6 of RESULT_RING_STATUS and of DECANT_RING_STATUS. -/
def reservedRingBits (k : RingKind) (off : Nat) : BitVec 32 :=
  match k with
  | .result => if off = 0x14 then 2 else if off = 0x18 then 64 else 0
  | .decant => if off = 0x18 then 64 else 0
  | _ => 0

/-- A ring register, at its offset from the ring's first; `any` gives the bits that read undefined (R5). -/
def Channel.ringWord (ch : Channel) (i : Slot) (k : RingKind) (off : Nat) (any : BitVec 32) : BitVec 32 :=
  (any &&& reservedRingBits k off) |||
  (let o := ch.owner i
   let r := o.ring k
   if off < 8 then halfOf r.base off
   else if off = 0x08 then r32 r.size.toNat
   else if off = 0x0C then r.head
   else if off = 0x10 then r.tail
   else if off = 0x14 then
    r32 (r.enable.toNat + 2 * (match k with | .trace | .decant => r.irqOnBlock.toNat | _ => 0))
   else if off = 0x18 then
    r32 (match k with
      | .job => o.jobStatus
      | .trace => o.blockStatus r ch.throttled
      | _ => o.blockStatus r false)
   else 0)

/-- A slot register: offsets 0x0100 to 0x07FF of a slot. -/
def Channel.slotWord (ch : Channel) (i : Slot) (off : Nat) (any : BitVec 32) : BitVec 32 :=
  if off = 0x31C then (ch.owner i).lost
  else if off = 0x320 ∨ off = 0x324 then halfOf (ch.get 0x300 4) off
  else match ringAt off with
    | some k => ch.ringWord i k (off % 256) any
    | none => 0

/-! ## Counter pairs and Stocktake registers (R193) -/

/-- What a window offset of the counter layout stands for: fixed counter j or counter i of block u, live or shadow. -/
inductive CounterReg where
  | fixed (j : Nat) (shadow : Bool)
  | prog (u i : Nat) (shadow : Bool)

/-- The counter pair at a window offset of 0x2000 to 0x3FFF (R282). -/
def counterReg (off : Nat) : Option CounterReg :=
  let prog := fun (d : Nat) (shadow : Bool) =>
    if d % 64 < 64 ∧ d / 64 < 35 then some (CounterReg.prog (channelUnits.getD (d / 64) 0) (d % 64 / 8) shadow) else none
  if 0x2000 ≤ off ∧ off < 0x2300 then some (.fixed ((off - 0x2000) / 8) false)
  else if 0x2400 ≤ off ∧ off < 0x2700 then some (.fixed ((off - 0x2400) / 8) true)
  else if 0x2800 ≤ off ∧ off < 0x3400 then prog (off - 0x2800) false
  else if 0x3400 ≤ off ∧ off < 0x4000 then prog (off - 0x3400) true
  else none

/-- The 64-bit value of a counter pair, WRAPPED at [63]. -/
def Channel.counterPair (ch : Channel) (r : CounterReg) : Word :=
  match r with
  | .fixed j false => wrapped63 (ch.get 0x2A0 j) (bitOf (ch.get 0x2A2 (1 + j / 32)) (j % 32))
  | .fixed j true => ch.st0.fixedShadow j
  | .prog u i false => wrapped63 (ch.get (0x240 + u) (0x11 + i)) (bitOf (ch.get (0x240 + u) 0x0A) i)
  | .prog u i true => ch.st0.progShadow u i

/-- WRAPPED of a live pair is cleared. -/
def Channel.clearWrapped (ch : Channel) (r : CounterReg) : Channel :=
  match r with
  | .fixed j false => ch.clearBits 0x2A2 (1 + j / 32) (w (2 ^ (j % 32)))
  | .prog u i false => ch.clearBits (0x240 + u) 0x0A (w (2 ^ i))
  | _ => ch

/-- STOCKTAKE_STATUS. -/
def Stocktake.status (x : Stocktake) : BitVec 32 :=
  r32 (x.st + 4 * x.t64Armed.toNat + 8 * x.late.toNat + 16 * x.missed.toNat + 32 * (x.last % 8) + 65536 * x.gen.toNat)

/-- A temperature of the shadows, 16 bits; sensor 7 does not exist. -/
def Stocktake.temp (x : Stocktake) (k : Nat) : Nat := if k < 7 then (x.held 0x203 (2 + k)).toNat % 65536 else 0

/-- The run STOCKTAKE_T64_LO, _HI, ENERGY_SHD_LO, _HI, TEMP_SHD[0] to [3]. -/
def Stocktake.shadowWord (x : Stocktake) (off : Nat) : BitVec 32 :=
  if off < 8 then halfOf x.freezeT64 off
  else if off < 0x10 then halfOf (x.held 0x203 1) off
  else
    let k := (off - 0x10) / 4 * 2
    r32 (x.temp k + 65536 * x.temp (k + 1))

/-! ## Decant points (R229) -/

/-- DECANT_ARM_STATUS: STATE, ERR, REMAINING. -/
def DecantPt.status (d : DecantPt) : Nat :=
  (if d.capturing then 2 else if d.armed then 1 else 0) + 16 * d.err.toNat + 65536 * d.remaining.toNat

/-- A decant point's register. -/
def DecantPt.word (d : DecantPt) (off : Nat) : BitVec 32 :=
  if off = 0 then
    r32 (d.armed.toNat + 2 * d.matchTag.toNat + 4 * d.plan.val + 64 * d.owner.val + 65536 * d.count.toNat)
  else if off = 4 then r32 d.tensor.toNat
  else if off = 8 then d.step
  else if off = 0x0C then d.tag
  else if off = 0x10 then d.off
  else if off = 0x14 then r32 d.len.toNat
  else if off = 0x18 then r32 d.status
  else 0

/-- Through a window, a point armed by another owner reads BUSY with every other field 0. -/
def DecantPt.masked (d : DecantPt) (i : Slot) (off : Nat) : BitVec 32 :=
  if d.armed && d.owner != i then (if off = 0x18 then 3 else 0) else d.word off

/-- A field of an unarmed point other than ARM_CTRL; an armed one ignores it. -/
def DecantPt.store (d : DecantPt) (off : Nat) (v : BitVec 32) : DecantPt :=
  if d.armed then d
  else if off = 4 then { d with tensor := v.setWidth 16 }
  else if off = 8 then { d with step := v }
  else if off = 0x0C then { d with tag := v }
  else if off = 0x10 then { d with off := v }
  else if off = 0x14 then { d with len := v.setWidth 12 }
  else d

/-- The point of an offset of 0x0800 to 0x08FF. -/
def pointAt (off : Nat) : Fin 8 := Fin.ofNat 8 ((off - 0x800) / 0x20)

/-- A write to a decant point's register. -/
def Channel.writePoint (ch : Channel) (view : View) (i : Slot) (off : Nat) (v : BitVec 32) : Channel :=
  let p := pointAt off
  if off % 0x20 = 0 then (if v.getLsbD 0 then ch.armPoint view i p v else ch.disarmPoint view i p v)
  else ch.setPoint p ((ch.point p).store (off % 0x20) v)

/-! ## Mailbox, mirror and MSI-X registers (R290 to R296) -/

/-- A mailbox control register. -/
def Mailbox.word (m : Mailbox) (off : Nat) : BitVec 32 :=
  if off = 0x1000 then r32 m.index.toNat
  else if off = 0x1004 then r32 (2 * m.last.toNat)
  else if off = 0x1008 then r32 (m.busy.toNat + 2 * m.done.toNat + 4 * m.err.toNat + 8 * m.pend.isSome.toNat)
  else if off = 0x100C then m.abort
  else if off = 0x1010 then r32 m.len.toNat
  else if off = 0x1014 then m.offset
  else if off = 0x1018 then r32 m.seq.toNat
  else if off = 0x101C then r32 (m.committed.toNat + 65536 * m.valid.toNat)
  else if off = 0x1020 then m.total
  else 0

/-- A write to a mailbox register that starts nothing. -/
def Mailbox.store (m : Mailbox) (off : Nat) (v : BitVec 32) : Mailbox :=
  if off = 0x1000 then { m with index := v.setWidth 26 }
  else if off = 0x1010 then { m with len := v.setWidth 13 }
  else if off = 0x1014 then { m with offset := v }
  else if off = 0x1018 then { m with seq := v.setWidth 16 }
  else if 0x3000 ≤ off then { m with data := bufWrite m.data (off - 0x3000) v }
  else m

/-- MBX_STATUS written: DONE and ERR are cleared by 1. -/
def Mailbox.clearStatus (m : Mailbox) (v : BitVec 32) : Mailbox :=
  { m with done := m.done && !v.getLsbD 1, err := m.err && !v.getLsbD 2 }

/-- A write to a mailbox register; all but MBX_STATUS are refused while BUSY. -/
def State.writeMbxReg (s : State) (c : Chan) (off : Nat) (v : BitVec 32) : State :=
  if off = 0x1008 then s.modMbx c (·.clearStatus v)
  else if off = 0x1004 then s.writeMbxCtrl c v.toNat
  else if (s.mbx c).busy then s.busyError c
  else s.modMbx c (·.store off v)

/-- A mirror register. -/
def Mirror.word (m : Mirror) (off : Nat) : BitVec 32 :=
  if off = 0x8000 then r32 m.index.toNat
  else if off = 0x8008 then r32 (m.busy.toNat + 2 * m.done.toNat + 4 * m.err.toNat)
  else if off = 0x800C then m.abort
  else if off = 0x8010 then r32 m.len.toNat
  else if off = 0x8014 then m.offset
  else if off = 0x8018 then m.total
  else if 0x8100 ≤ off ∧ off < 0x8200 then bufWord m.data (off - 0x8100)
  else 0

/-- A write to a mirror register; all but MIR_STATUS are refused while BUSY. -/
def State.writeMirReg (s : State) (c : Chan) (i : Slot) (off : Nat) (v : BitVec 32) : State :=
  if off = 0x8008 then
    s.modMirror c i fun m => { m with done := m.done && !v.getLsbD 1, err := m.err && !v.getLsbD 2 }
  else if (s.mirror c i).busy then s.busyError c
  else if off = 0x8004 then (if v.getLsbD 0 then s.startMirror c i else s)
  else if off = 0x8000 then s.modMirror c i fun m => { m with index := v.setWidth 24 }
  else if off = 0x8014 then s.modMirror c i fun m => { m with offset := v }
  else s

/-- The vector whose table entry an offset of BAR0 lies in. -/
def msixEntry (off : Nat) : Nat := (off - 0x8000) / 16

/-- A word of the MSI-X table or pending bit array. -/
def HostPort.msixWord (h : HostPort) (off : Nat) : BitVec 32 :=
  if off = 0x9000 ∨ off = 0x9004 then halfOf h.pba off
  else match h.msix[msixEntry off]? with
    | none => 0
    | some e => if off % 16 < 8 then halfOf e.addr off else if off % 16 = 8 then e.data else r32 e.masked.toNat

/-- A table entry with one word written. -/
def Vec.store (e : Vec) (off : Nat) (v : BitVec 32) : Vec :=
  if off % 16 = 0 then { e with addr := w (e.addr.toNat / 2 ^ 32 * 2 ^ 32 + v.toNat) }
  else if off % 16 = 4 then { e with addr := w (e.addr.toNat % 2 ^ 32 + v.toNat * 2 ^ 32) }
  else if off % 16 = 8 then { e with data := v }
  else { e with masked := v.getLsbD 0 }

/-- Vector n takes an entry: unmasked with its pending bit set, it sends its one message (R291). -/
def State.storeVec (s : State) (c : Chan) (n : Nat) (e : Vec) : State :=
  let pba := (s.chan c).host.pba
  let s := s.modChan c fun ch => { ch with host := { ch.host with msix := ch.host.msix.setIfInBounds n e } }
  if pba.getLsbD n && !e.masked then
    (s.modChan c fun ch => { ch with host := { ch.host with pba := ch.host.pba &&& ~~~w (2 ^ n) } }).emit
      (.msix c n e.addr e.data)
  else s

/-- A write to the MSI-X table. -/
def State.writeMsix (s : State) (c : Chan) (off : Nat) (v : BitVec 32) : State :=
  match (s.chan c).host.msix[msixEntry off]? with
  | none => s
  | some e => s.storeVec c (msixEntry off) (e.store off v)

/-! ## Reads (R277 to R284) -/

/-- CHAN_STATUS; REASON stands for states 2 to 4. -/
def Channel.statusReg (ch : Channel) (masked : Bool) : BitVec 32 :=
  r32 (ch.st.code + (if masked then 0 else 256 * ch.reason.toNat))

/-- STOP_STATUS. -/
def Channel.stopReg (ch : Channel) (masked : Bool) : BitVec 32 :=
  r32 (ch.stop.st + 16 * ch.stop.drained.toNat +
    (if masked then 0 else 4 * ch.tap.scanActive.toNat + 8 * ch.tap.partialScan.toNat + 256 * (ch.stop.source % 16)))

/-- What TBU_NOW returns (R23, R40): T64 at the TCLK edge 2 or 3 TCLK after the read reaches the endpoint; which of the
two is free. -/
def State.tbuNow (s : State) : T64 := (s.time.ahead s.tclk (s.freeIn 2 3)).t64

/-- BAR0 up to 0x005B (R280). -/
def State.lowWord (s : State) (c : Chan) (off : Nat) : BitVec 32 :=
  let ch := s.chan c
  let h := ch.host
  if off = 0x00 then r32 (c.val + 16 * (s.stepping c % 16) + 256)
  else if off = 0x04 then ch.statusReg false
  else if off = 0x08 ∨ off = 0x0C then halfOf s.tbuNow off
  else if off = 0x14 then ch.stopReg false
  else if off = 0x18 then r32 (4 * (ch.on 0x202 6).toNat)
  else if off = 0x1C then ch.st0.status
  else if 0x20 ≤ off ∧ off < 0x40 then ch.st0.shadowWord (off - 0x20)
  else if off = 0x40 then r32 h.irqStatus.toNat
  else if off = 0x44 then r32 h.irqEnable.toNat
  else if off = 0x48 then r32 h.accessErr.toNat
  else if off = 0x4C then r32 h.resetCancel.toNat
  else if off = 0x50 then r32 h.tagFirst.toNat
  else if off = 0x54 then r32 h.tagCount.toNat
  else if off = 0x58 then r32 (h.tagTag.toNat + 512 * ch.tagging.isSome.toNat + 1024 * h.tagErr.toNat)
  else 0

/-- WIN_ID (R282). -/
def Channel.winId (ch : Channel) (i : Slot) : BitVec 32 :=
  let bit := fun (off n : Nat) => if bitOf (ch.get off 0) i.val then 2 ^ n else 0
  r32 (i.val + 256 * ((ch.owner i).st == .keyed).toNat + 512 * ((ch.owner i).st == .retiring).toNat +
    bit 0x602 16 + bit 0x201 17 + bit 0x403 18 + bit 0x301 19)

/-- A word at offset 0x0000 to 0x07FF of a slot: the unmasked copy in BAR0, and with `masked` the owner window's (R280,
R282, R284). -/
def State.slotView (s : State) (c : Chan) (i : Slot) (off : Nat) (masked : Bool) : BitVec 32 :=
  let ch := s.chan c
  if off = 0 then ch.winId i
  else if off = 0x08 ∨ off = 0x0C then halfOf s.tbuNow off
  else if off = 0x10 then ch.statusReg masked
  else if off = 0x14 then ch.stopReg masked
  else if 0x100 ≤ off then ch.slotWord i off (r32 (s.freeIn 0 0xFFFFFFFF))
  else 0

/-- The word at a BAR0 offset; a reserved offset reads 0. -/
def State.bar0Word (s : State) (c : Chan) (off : Nat) : BitVec 32 :=
  let ch := s.chan c
  if off < 0x100 then s.lowWord c off
  else if 0x800 ≤ off ∧ off < 0x900 then (ch.point (pointAt off)).word (off % 0x20)
  else if 0x1000 ≤ off ∧ off < 0x1024 then ch.host.mbx.word off
  else if 0x3000 ≤ off ∧ off < 0x4000 then bufWord ch.host.mbx.data (off - 0x3000)
  else if 0x4000 ≤ off ∧ off < 0x6000 then
    match counterReg (off - 0x2000) with | some r => halfOf (ch.counterPair r) off | none => 0
  else if (0x8000 ≤ off ∧ off < 0x8400) ∨ off = 0x9000 ∨ off = 0x9004 then ch.host.msixWord off
  else if 0x100000 ≤ off ∧ off < 0x200000 ∧ off % 0x10000 < 0x800 then
    s.slotView c (Fin.ofNat 16 ((off - 0x100000) / 0x10000)) (off % 0x10000) false
  else 0

/-- The window of slot i may read counters (R186). -/
def Channel.mayCount (ch : Channel) (i : Slot) : Bool := bitOf (ch.get 0x201 0) i.val

/-- The word at an offset of owner window i (R282, R284). -/
def State.windowWord (s : State) (c : Chan) (i : Slot) (off : Nat) : BitVec 32 :=
  let ch := s.chan c
  if off < 0x800 then s.slotView c i off true
  else if 0x800 ≤ off ∧ off < 0x900 then (ch.point (pointAt off)).masked i (off % 0x20)
  else if 0x1000 ≤ off ∧ off < 0x4000 then
    if ch.mayCount i then
      if off = 0x1000 then ch.st0.status
      else if 0x1008 ≤ off ∧ off < 0x1028 then ch.st0.shadowWord (off - 0x1008)
      else match counterReg off with | some r => halfOf (ch.counterPair r) off | none => 0
    else 0
  else if 0x8000 ≤ off ∧ off < 0x8200 then (s.mirror c i).word off
  else 0

/-- The word at an offset of a view; a channel without power answers with its identity, status and MSI-X alone (R281). -/
def State.regWord (s : State) (view : View) (c : Chan) (i : Slot) (off : Nat) : BitVec 32 :=
  if (s.chan c).st = .poweredDown ∧
      !(view = .bar0 ∧ (off < 8 ∨ (0x8000 ≤ off ∧ off < 0x8400) ∨ off = 0x9000 ∨ off = 0x9004)) then 0
  else match view with
    | .bar0 => s.bar0Word c off
    | .window => s.windowWord c i off

/-! ## The pair rule on reads (R6, R277, R278, R305) -/

/-- A slot offset at which the _LO of a pair stands. -/
def slotPair (off : Nat) : Bool := [0x08, 0x100, 0x200, 0x300, 0x320, 0x400].contains off

/-- An offset at which the _LO of a register pair stands. -/
def pairLo (view : View) (off : Nat) : Bool :=
  match view with
  | .bar0 =>
    [0x08, 0x20, 0x28].contains off || (decide (0x4000 ≤ off ∧ off < 0x6000) && off % 8 == 0) ||
    (decide (0x100000 ≤ off ∧ off < 0x200000) && slotPair (off % 0x10000))
  | .window => off == 0x1008 || off == 0x1010 || (decide (0x2000 ≤ off ∧ off < 0x4000) && off % 8 == 0) ||
    slotPair off

/-- The address under which a view's latch or held half is kept. -/
def pairKey (view : View) (i : Slot) (off : Nat) : Nat :=
  match view with
  | .bar0 => off
  | .window => 0x2000000 + 0x10000 * i.val + off

def HostPort.latch (h : HostPort) (key : Nat) (v : Option (BitVec 32)) : HostPort :=
  let rest := h.latches.filter (·.1 != key)
  { h with latches := match v with | some x => (key, x) :: rest | none => rest }

/-- An aligned 4-byte read: _LO latches _HI, _HI takes the latch or the live half. -/
def State.readReg (s : State) (view : View) (c : Chan) (i : Slot) (off : Nat) : State :=
  let off := off / 4 * 4
  let lo := s.regWord view c i off
  let up := (s.chan c).st != .poweredDown
  if up && pairLo view off then
    let hi := s.regWord view c i (off + 4)
    (s.modChan c fun ch => { ch with host := ch.host.latch (pairKey view i off) (some hi) }).drawn.emit (.readReg c lo)
  else if up && decide (4 ≤ off) && pairLo view (off - 4) then
    let key := pairKey view i (off - 4)
    let v := (((s.chan c).host.latches.find? (·.1 == key)).map (·.2)).getD lo
    (s.modChan c fun ch => { ch with host := ch.host.latch key none }).drawn.emit (.readReg c v)
  else s.drawn.emit (.readReg c lo)

/-- A read of any size (R277): an aligned 8-byte one takes both halves of a pair at once and leaves the latch untouched, and is
two reads in address order elsewhere; any other is a read of the 4-byte word that contains it. -/
def State.readSized (s : State) (view : View) (c : Chan) (i : Slot) (off size : Nat) : State :=
  if size == 8 && off % 8 == 0 then
    if (s.chan c).st != .poweredDown && pairLo view off then
      s.drawn.emit (.readPair c (s.regWord view c i (off + 4) ++ s.regWord view c i off))
    else (s.readReg view c i off).readReg view c i (off + 4)
  else s.readReg view c i off

/-- PAIR_LO_READ: a read at any offset of a view, above all of a _LO. -/
def execPairLoRead (view : View) (c : Chan) (i : Slot) (off size : Nat) (s : State) : Host.Outcome State Fault Refusal :=
  if s.endpointUp c then .next ((s.access view c off false).readSized view c i off size) else .next s

/-! ## Writes (R277, R283, R284, R304) -/

/-- A bit of ACCESS_ERR is set: 0 PARTIAL, 2 WIN_MASKED. -/
def State.accessError (s : State) (c : Chan) (bit : Nat) : State :=
  s.modChan c fun ch => { ch with host := { ch.host with accessErr := ch.host.accessErr ||| BitVec.ofNat 4 (2 ^ bit) } }

/-- BASE and SIZE are open to the view: BAR0 always, a window by bit s of 0x8602:00. -/
def Channel.ringSetup (ch : Channel) (view : View) (i : Slot) : Bool :=
  match view with
  | .bar0 => true
  | .window => bitOf (ch.get 0x602 0) i.val

def HostPort.holdAside (h : HostPort) (key : Nat) (v : Option (BitVec 32)) : HostPort :=
  let rest := h.aside.filter (·.1 != key)
  { h with aside := match v with | some x => (key, x) :: rest | none => rest }

/-- The ring's base, 4 KiB aligned. -/
def Channel.setBase (ch : Channel) (i : Slot) (k : RingKind) (v : Nat) : Channel :=
  ch.modOwner i fun o => o.putRing k { o.ring k with base := w (v / 4096 * 4096) }

/-- A 4-byte write of BASE_LO is held aside; one of BASE_HI makes the value take effect (R6). -/
def Channel.writeBase (ch : Channel) (view : View) (i : Slot) (k : RingKind) (key : Nat) (hi : Bool) (v : BitVec 32) :
    Channel :=
  if ((ch.owner i).ring k).enable || !ch.ringSetup view i then ch
  else if hi then
    let lo := ((ch.host.aside.find? (·.1 == key)).map fun x => x.2.toNat).getD (((ch.owner i).ring k).base.toNat % 2 ^ 32)
    ({ ch with host := ch.host.holdAside key none }).setBase i k (v.toNat * 2 ^ 32 + lo)
  else { ch with host := ch.host.holdAside key (some v) }

/-- STATUS written: its RW1C bits (R152, R285, R287). -/
def Owner.clearRing (o : Owner) (k : RingKind) (v : BitVec 32) : Owner :=
  match k with
  | .job => { o with job := { o.job with fault := o.job.fault && !v.getLsbD 1, tailErr := o.job.tailErr && !v.getLsbD 5 } }
  | _ =>
    let r := o.ring k
    let cleared := r.fault && v.getLsbD 2
    let r := { r with fault := r.fault && !v.getLsbD 2, bit4 := r.bit4 && !v.getLsbD 4 }
    o.putRing k (if cleared then r.settle o.keyed else r)

/-- CTRL written. -/
def ringCtrl (view : View) (c : Chan) (i : Slot) (k : RingKind) (v : BitVec 32) (s : State) :
    Host.Outcome State Fault Refusal :=
  let on := v.getLsbD 0
  let irq := v.getLsbD 1
  let flush := on && v.getLsbD 2
  match k with
  | .job => if on then execJobRingEnable view c i s else execJobRingDisable view c i s
  | .result => if on then execResultRingEnable view c i s else execResultRingDisable view c i s
  | .trace =>
    match (if on then execTraceRingEnable view c i irq s else execTraceRingDisable view c i irq s) with
    | .next s => .next (if flush then
        s.modChan c fun ch => if (ch.owner i).trace.routing then ch.sealTrace s.now i else ch else s)
    | x => x
  | .decant =>
    match (if on then execDecantRingEnable view c i irq s else execDecantRingDisable view c i irq s) with
    | .next s => .next (if flush then
        s.modChan c fun ch => if (ch.owner i).decant.routing then ch.sealStream .decant i else ch else s)
    | x => x

/-- TAIL written. -/
def ringTail (view : View) (c : Chan) (i : Slot) (k : RingKind) (v : BitVec 32) (s : State) :
    Host.Outcome State Fault Refusal :=
  match k with
  | .job => execJobRingDoorbell view c i v s
  | .result => execResultRingTailWrite view c i v s
  | .trace => execTraceRingTailWrite view c i v s
  | .decant => execDecantRingTailWrite view c i v s

/-- BASE, SIZE or STATUS of a ring written. -/
def State.writeRingReg (s : State) (view : View) (c : Chan) (i : Slot) (k : RingKind) (off key : Nat) (v : BitVec 32) :
    State :=
  let s := if off ≤ 8 ∧ (s.chan c).ringSetup view i = false then s.accessError c 2 else s
  s.modChan c fun ch =>
    if off < 8 then ch.writeBase view i k key (off == 4) v
    else if off = 8 then
      if ((ch.owner i).ring k).enable || !ch.ringSetup view i then ch
      else ch.modOwner i fun o => o.putRing k { o.ring k with size := v.setWidth 5 }
    else if off = 0x18 then ch.modOwner i (·.clearRing k v)
    else ch

/-- A word written at a slot offset of 0x0100 to 0x07FF through either view. -/
def writeSlot (view : View) (c : Chan) (i : Slot) (off : Nat) (v : BitVec 32) (s : State) :
    Host.Outcome State Fault Refusal :=
  let bar0 := slotCopy i off
  match ringAt off with
  | none => .next (s.access view c bar0)
  | some k =>
    if off % 256 = 0x10 then ringTail view c i k v s
    else if off % 256 = 0x14 then ringCtrl view c i k v s
    else
      let here := match view with | .bar0 => bar0 | .window => off
      .next ((s.access view c bar0).writeRingReg view c i k (off % 256) (pairKey view i (here / 8 * 8)) v)

/-- STOCKTAKE_STATUS written: LATE and MISSED are cleared by 1. -/
def Channel.clearStocktake (ch : Channel) (v : BitVec 32) : Channel :=
  { ch with st0 := { ch.st0 with late := ch.st0.late && !v.getLsbD 3, missed := ch.st0.missed && !v.getLsbD 4 } }

/-- STOCKTAKE_CTRL written: RELEASE before TRIGGER (R194); AUTO_REARM is 0x8202:06. -/
def State.writeStocktake (s : State) (c : Chan) (v : BitVec 32) : State :=
  let s := if (s.con c 0x202 6) = v.getLsbD 2 then s else s.cputSaved c 0x202 6 (wBool (v.getLsbD 2))
  let s := if v.getLsbD 1 then s.modChan c (·.releaseStocktake) else s
  if v.getLsbD 0 then s.registerTrigger c else s

/-- BAR0 offsets 0x0010 to 0x0058, after the access has been recorded. -/
def State.writeLow (s : State) (c : Chan) (off : Nat) (v : BitVec 32) : State :=
  if off = 0x10 then
    if v.getLsbD 0 then s.requestStop c 1
    else if v.getLsbD 1 && (s.chan c).mayRelease then s.releaseStop c
    else s
  else if off = 0x18 then s.writeStocktake c v
  else if off = 0x1C then s.modChan c (·.clearStocktake v)
  else if off = 0x40 then
    s.modChan c fun ch => { ch with host := { ch.host with irqStatus := ch.host.irqStatus &&& ~~~(v.setWidth 7) } }
  else if off = 0x44 then s.writeIrqEnable c v.toNat
  else if off = 0x48 then
    s.modChan c fun ch => { ch with host := { ch.host with accessErr := ch.host.accessErr &&& ~~~(v.setWidth 4) } }
  else if off = 0x50 then
    s.modChan c fun ch => if ch.tagging.isSome then ch else { ch with host := { ch.host with tagFirst := v.setWidth 19 } }
  else if off = 0x54 then
    s.modChan c fun ch => if ch.tagging.isSome then ch else { ch with host := { ch.host with tagCount := v.setWidth 19 } }
  else if off = 0x58 then s.modChan c (·.writeTagCmd v.toNat)
  else s

/-- An aligned word written in BAR0. -/
def writeBar0 (c : Chan) (off : Nat) (v : BitVec 32) (s : State) : Host.Outcome State Fault Refusal :=
  if 0x100000 ≤ off ∧ off < 0x200000 ∧ 0x100 ≤ off % 0x10000 ∧ off % 0x10000 < 0x800 then
    writeSlot .bar0 c (Fin.ofNat 16 ((off - 0x100000) / 0x10000)) (off % 0x10000) v s
  else
    let s := s.access .bar0 c off
    .next (
      if off < 0x100 then s.writeLow c off v
      else if 0x800 ≤ off ∧ off < 0x900 then s.modChan c (·.writePoint .bar0 0 off v)
      else if (0x1000 ≤ off ∧ off < 0x1024) ∨ (0x3000 ≤ off ∧ off < 0x4000) then s.writeMbxReg c off v
      else if 0x4000 ≤ off ∧ off < 0x6000 then
        match counterReg (off - 0x2000) with
        | some r => if off % 8 = 4 ∧ v.getLsbD 31 = true then s.modChan c (·.clearWrapped r) else s
        | none => s
      else if 0x8000 ≤ off ∧ off < 0x8400 then s.writeMsix c off v
      else s)

/-- An aligned word written in owner window i. -/
def writeWindow (c : Chan) (i : Slot) (off : Nat) (v : BitVec 32) (s : State) : Host.Outcome State Fault Refusal :=
  if 0x100 ≤ off ∧ off < 0x800 then writeSlot .window c i off v s
  else
    .next (
      if 0x800 ≤ off ∧ off < 0x900 then s.modChan c (·.writePoint .window i off v)
      else if off = 0x1000 then (if (s.chan c).mayCount i then s.modChan c (·.clearStocktake v) else s)
      else if 0x2000 ≤ off ∧ off < 0x4000 ∧ off % 8 = 4 then
        (if (counterReg off).isSome then s.accessError c 2 else s)
      else if 0x8000 ≤ off ∧ off < 0x8200 then s.writeMirReg c i off v
      else s)

/-- The word write of a view. -/
def writeWord (view : View) (c : Chan) (i : Slot) (off : Nat) (v : BitVec 32) (s : State) :
    Host.Outcome State Fault Refusal :=
  match view with
  | .bar0 => writeBar0 c off v s
  | .window => writeWindow c i off v s

/-- The ring whose BASE pair stands at an offset of a view, with its slot. -/
def basePair (view : View) (i : Slot) (off : Nat) : Option (Slot × RingKind) :=
  let at_ := fun (j : Slot) (o : Nat) => if o % 256 = 0 then (ringAt o).map fun k => (j, k) else none
  match view with
  | .bar0 =>
    if 0x100000 ≤ off ∧ off < 0x200000 then at_ (Fin.ofNat 16 ((off - 0x100000) / 0x10000)) (off % 0x10000) else none
  | .window => at_ i off

/-- An 8-byte write of a BASE pair: both halves in one step; a half held aside is discarded (R6, R277), also where the
write itself is ignored because ENABLE is 1 or the window has no ring setup (DEDUCED, log entry 52). -/
def State.writeBasePair (s : State) (view : View) (c : Chan) (i : Slot) (k : RingKind) (key : Nat) (v : Word) : State :=
  let s := if (s.chan c).ringSetup view i then s else s.accessError c 2
  s.modChan c fun ch =>
    let ch := { ch with host := ch.host.holdAside key none }
    if ((ch.owner i).ring k).enable || !ch.ringSetup view i then ch else ch.setBase i k v.toNat

/-- A write of any size and alignment (R277). -/
def writeAccess (view : View) (c : Chan) (i : Slot) (off size : Nat) (v : Word) (s : State) :
    Host.Outcome State Fault Refusal :=
  if size = 4 ∧ off % 4 = 0 then writeWord view c i off (lo32 v) s
  else if size = 8 ∧ off % 8 = 0 then
    match basePair view i off with
    | some (j, k) => .next ((s.access view c off).writeBasePair view c j k (pairKey view i off) v)
    | none =>
      match writeWord view c i off (lo32 v) s with
      | .next s => writeWord view c i (off + 4) (hi32 v) s
      | x => x
  else .next ((s.access view c off).accessError c 0)

/-- A register write through a view; without power only the MSI-X table takes one (R281). -/
def State.regWrite (s : State) (view : View) (c : Chan) (i : Slot) (off size : Nat) (v : Word) :
    Host.Outcome State Fault Refusal :=
  if s.hostUp c then writeAccess view c i off size v s
  else if s.endpointUp c ∧ view = .bar0 ∧ 0x8000 ≤ off ∧ off < 0x8400 then writeAccess view c i off size v s
  else .next s

/-- REGISTER_WRITE: a write to any register or dictionary member. -/
def execRegisterWrite (t : RegTarget) (s : State) : Host.Outcome State Fault Refusal :=
  match t with
  | .bar0 c off size v => s.regWrite .bar0 c 0 off size v
  | .window c i off size v => s.regWrite .window c i off size v
  | .dict p idx sub data =>
    if !s.pathUp p then .next s
    else
      match s.dictWrite p idx sub data with
      | (code, s') => .next ((s'.answer code).afterWrite idx sub data code)

end Sys2Proof.Machine
end

