-- ==== Sys2Proof/Machine/Dispatch.lean ====
section
/-! DEFINITION. One arm per command: a direct call of its meaning. -/

namespace Sys2Proof.Machine

open Sys2Proof

def exec (i : Instr) (s : State) : Host.Outcome State Fault Refusal :=
  match i with
  | .ref10mEnableWrite p v => Sys2Proof.Machine.execRef10mEnableWrite p v s
  | .ref10mQualified => Sys2Proof.Machine.execRef10mQualified s
  | .ref10mLost => Sys2Proof.Machine.execRef10mLost s
  | .incrementWrite p v => Sys2Proof.Machine.execIncrementWrite p v s
  | .correctionSlot => Sys2Proof.Machine.execCorrectionSlot s
  | .loadStrobe => Sys2Proof.Machine.execLoadStrobe s
  | .timeStepWrite p v => Sys2Proof.Machine.execTimeStepWrite p v s
  | .ppsLoadWrite p v => Sys2Proof.Machine.execPpsLoadWrite p v s
  | .ppsLoadTimeout => Sys2Proof.Machine.execPpsLoadTimeout s
  | .ppsCapture => Sys2Proof.Machine.execPpsCapture s
  | .trigTargetWrite p c n v => Sys2Proof.Machine.execTrigTargetWrite p c n v s
  | .armingComplete c k => Sys2Proof.Machine.execArmingComplete c k s
  | .comparatorFire c k => Sys2Proof.Machine.execComparatorFire c k s
  | .trigModeWrite p c n v => Sys2Proof.Machine.execTrigModeWrite p c n v s
  | .trigPeriodWidthWrite p c n width v => Sys2Proof.Machine.execTrigPeriodWidthWrite p c n width v s
  | .trigPulseEnd c n => Sys2Proof.Machine.execTrigPulseEnd c n s
  | .cycleEnableWrite p c v => Sys2Proof.Machine.execCycleEnableWrite p c v s
  | .cycleFirstTickWrite p c v => Sys2Proof.Machine.execCycleFirstTickWrite p c v s
  | .correctionModeCommit p source v => Sys2Proof.Machine.execCorrectionModeCommit p source v s
  | .announceReceived a => Sys2Proof.Machine.execAnnounceReceived a s
  | .masterLost => Sys2Proof.Machine.execMasterLost s
  | .ppsMissing => Sys2Proof.Machine.execPpsMissing s
  | .ptpEnableWrite p v => Sys2Proof.Machine.execPtpEnableWrite p v s
  | .reacquire p v => Sys2Proof.Machine.execReacquire p v s
  | .syncReceived m => Sys2Proof.Machine.execSyncReceived m s
  | .followUpReceived m => Sys2Proof.Machine.execFollowUpReceived m s
  | .delayRespReceived m => Sys2Proof.Machine.execDelayRespReceived m s
  | .delayReqReceived m => Sys2Proof.Machine.execDelayReqReceived m s
  | .delayReqSend => Sys2Proof.Machine.execDelayReqSend s
  | .ptpSyncSend => Sys2Proof.Machine.execPtpSyncSend s
  | .announceSend => Sys2Proof.Machine.execAnnounceSend s
  | .syncBurstEnd => Sys2Proof.Machine.execSyncBurstEnd s
  | .tsqDrain => Sys2Proof.Machine.execTsqDrain s
  | .timeLaunch c => Sys2Proof.Machine.execTimeLaunch c s
  | .leapSecond => Sys2Proof.Machine.execLeapSecond s
  | .calendarSet p v => Sys2Proof.Machine.execCalendarSet p v s
  | .calendarSync => Sys2Proof.Machine.execCalendarSync s
  | .portModeWrite p c port v => Sys2Proof.Machine.execPortModeWrite p c port v s
  | .linkTrainStart c port => Sys2Proof.Machine.execLinkTrainStart c port s
  | .trainingBlockReceived c port lanes skewNs => Sys2Proof.Machine.execTrainingBlockReceived c port lanes skewNs s
  | .flitReceived c port f => Sys2Proof.Machine.execFlitReceived c port f s
  | .dataFlitSend c port => Sys2Proof.Machine.execDataFlitSend c port s
  | .replayTimeout c port => Sys2Proof.Machine.execReplayTimeout c port s
  | .signalLoss c port => Sys2Proof.Machine.execSignalLoss c port s
  | .planLoad p c => Sys2Proof.Machine.execPlanLoad p c s
  | .planLoadComplete c facts => Sys2Proof.Machine.execPlanLoadComplete c facts s
  | .planUnload p c => Sys2Proof.Machine.execPlanUnload p c s
  | .jobRingDoorbell view c x_s v => Sys2Proof.Machine.execJobRingDoorbell view c x_s v s
  | .descriptorFetch c => Sys2Proof.Machine.execDescriptorFetch c s
  | .descriptorFetched c r => Sys2Proof.Machine.execDescriptorFetched c r s
  | .noInputExpiry c x_i => Sys2Proof.Machine.execNoInputExpiry c x_i s
  | .reservationExpiry c x_i => Sys2Proof.Machine.execReservationExpiry c x_i s
  | .tileRetire c k work => Sys2Proof.Machine.execTileRetire c k work s
  | .tileDeadlineMiss c k cellarFetch => Sys2Proof.Machine.execTileDeadlineMiss c k cellarFetch s
  | .jobDone c => Sys2Proof.Machine.execJobDone c s
  | .cellarUncorrectable c addr => Sys2Proof.Machine.execCellarUncorrectable c addr s
  | .completionWrite c x_s => Sys2Proof.Machine.execCompletionWrite c x_s s
  | .resultBlockWritten c x_s ok => Sys2Proof.Machine.execResultBlockWritten c x_s ok s
  | .stillroomTableFault c n => Sys2Proof.Machine.execStillroomTableFault c n s
  | .observatoryPowerWrite p c v => Sys2Proof.Machine.execObservatoryPowerWrite p c v s
  | .traceModeWrite p c v => Sys2Proof.Machine.execTraceModeWrite p c v s
  | .traceRecordMerge c => Sys2Proof.Machine.execTraceRecordMerge c s
  | .periodicTimestamp c => Sys2Proof.Machine.execPeriodicTimestamp c s
  | .flushInterval c x_s decant => Sys2Proof.Machine.execFlushInterval c x_s decant s
  | .traceRingFlush view c x_s => Sys2Proof.Machine.execTraceRingFlush view c x_s s
  | .traceRingEnable view c x_s irq => Sys2Proof.Machine.execTraceRingEnable view c x_s irq s
  | .traceRingDisable view c x_s irq => Sys2Proof.Machine.execTraceRingDisable view c x_s irq s
  | .traceRingTailWrite view c x_s v => Sys2Proof.Machine.execTraceRingTailWrite view c x_s v s
  | .traceBlockWritten c x_s ok => Sys2Proof.Machine.execTraceBlockWritten c x_s ok s
  | .faithfulTimeout c => Sys2Proof.Machine.execFaithfulTimeout c s
  | .traceDisturbed c cycles => Sys2Proof.Machine.execTraceDisturbed c cycles s
  | .stagingParityError c => Sys2Proof.Machine.execStagingParityError c s
  | .cipherFault c engine => Sys2Proof.Machine.execCipherFault c engine s
  | .counterSelectWrite p c unit x_i v => Sys2Proof.Machine.execCounterSelectWrite p c unit x_i v s
  | .counterPresetWrite p c unit x_i v => Sys2Proof.Machine.execCounterPresetWrite p c unit x_i v s
  | .counterEnableWrite p c unit v => Sys2Proof.Machine.execCounterEnableWrite p c unit v s
  | .countArrival c quantity => Sys2Proof.Machine.execCountArrival c quantity s
  | .gather c => Sys2Proof.Machine.execGather c s
  | .energyUpdate c microjoules => Sys2Proof.Machine.execEnergyUpdate c microjoules s
  | .temperatureSample c die hbm => Sys2Proof.Machine.execTemperatureSample c die hbm s
  | .triggerMaskWrite p c v => Sys2Proof.Machine.execTriggerMaskWrite p c v s
  | .stocktakeTrigger src c => Sys2Proof.Machine.execStocktakeTrigger src c s
  | .stocktakeRelease src c => Sys2Proof.Machine.execStocktakeRelease src c s
  | .stocktakeT64Arm p c v => Sys2Proof.Machine.execStocktakeT64Arm p c v s
  | .stocktakeT64Fire c => Sys2Proof.Machine.execStocktakeT64Fire c s
  | .syncInRise => Sys2Proof.Machine.execSyncInRise s
  | .syncInFall => Sys2Proof.Machine.execSyncInFall s
  | .syncStopRecognised => Sys2Proof.Machine.execSyncStopRecognised s
  | .moduleFreezeTimeWrite p v => Sys2Proof.Machine.execModuleFreezeTimeWrite p v s
  | .moduleFreezeNow p => Sys2Proof.Machine.execModuleFreezeNow p s
  | .syncHoldoffEnd => Sys2Proof.Machine.execSyncHoldoffEnd s
  | .stopCtrlStop c => Sys2Proof.Machine.execStopCtrlStop c s
  | .stopCtrlRelease c => Sys2Proof.Machine.execStopCtrlRelease c s
  | .channelStopCommand p c => Sys2Proof.Machine.execChannelStopCommand p c s
  | .channelReleaseCommand p c => Sys2Proof.Machine.execChannelReleaseCommand p c s
  | .moduleStopCommand p => Sys2Proof.Machine.execModuleStopCommand p s
  | .moduleReleaseCommand p => Sys2Proof.Machine.execModuleReleaseCommand p s
  | .stopNFall => Sys2Proof.Machine.execStopNFall s
  | .stopTimeArm p c v => Sys2Proof.Machine.execStopTimeArm p c v s
  | .stopTimeFire c => Sys2Proof.Machine.execStopTimeFire c s
  | .stopEventMatch c => Sys2Proof.Machine.execStopEventMatch c s
  | .coreHalted c => Sys2Proof.Machine.execCoreHalted c s
  | .dmaDrained c => Sys2Proof.Machine.execDmaDrained c s
  | .stopNPulseEnd => Sys2Proof.Machine.execStopNPulseEnd s
  | .stopNStuck => Sys2Proof.Machine.execStopNStuck s
  | .tapInstructionUpdate c op => Sys2Proof.Machine.execTapInstructionUpdate c op s
  | .scanEnd c => Sys2Proof.Machine.execScanEnd c s
  | .tapReset c level => Sys2Proof.Machine.execTapReset c level s
  | .sealGuardWrite p c v => Sys2Proof.Machine.execSealGuardWrite p c v s
  | .sealBlow p c => Sys2Proof.Machine.execSealBlow p c s
  | .sealSense c blown => Sys2Proof.Machine.execSealSense c blown s
  | .daybookClear p c => Sys2Proof.Machine.execDaybookClear p c s
  | .hangDetected c cause unit => Sys2Proof.Machine.execHangDetected c cause unit s
  | .hangDumpComplete c cellarError => Sys2Proof.Machine.execHangDumpComplete c cellarError s
  | .heartbeatMissed c => Sys2Proof.Machine.execHeartbeatMissed c s
  | .decantArm view c x_s pt v => Sys2Proof.Machine.execDecantArm view c x_s pt v s
  | .decantDisarm view c x_s pt v => Sys2Proof.Machine.execDecantDisarm view c x_s pt v s
  | .decantCapture c pt => Sys2Proof.Machine.execDecantCapture c pt s
  | .decantDrain c pt parityError => Sys2Proof.Machine.execDecantDrain c pt parityError s
  | .decantRingEnable view c x_s irq => Sys2Proof.Machine.execDecantRingEnable view c x_s irq s
  | .decantRingDisable view c x_s irq => Sys2Proof.Machine.execDecantRingDisable view c x_s irq s
  | .decantRingFlush view c x_s => Sys2Proof.Machine.execDecantRingFlush view c x_s s
  | .decantRingTailWrite view c x_s v => Sys2Proof.Machine.execDecantRingTailWrite view c x_s v s
  | .decantBlockWritten c x_s ok => Sys2Proof.Machine.execDecantBlockWritten c x_s ok s
  | .keyBlobWrite p c x_s blob => Sys2Proof.Machine.execKeyBlobWrite p c x_s blob s
  | .keyInstalled c => Sys2Proof.Machine.execKeyInstalled c s
  | .keyDestroy p c x_s => Sys2Proof.Machine.execKeyDestroy p c x_s s
  | .retirementComplete c x_s => Sys2Proof.Machine.execRetirementComplete c x_s s
  | .keySlotParityError c x_s => Sys2Proof.Machine.execKeySlotParityError c x_s s
  | .serviceKeyBlobWrite p blob => Sys2Proof.Machine.execServiceKeyBlobWrite p blob s
  | .cellarTagGo c v => Sys2Proof.Machine.execCellarTagGo c v s
  | .cellarTagDone c => Sys2Proof.Machine.execCellarTagDone c s
  | .bar4Write c addr data => Sys2Proof.Machine.execBar4Write c addr data s
  | .bar4Read c addr n => Sys2Proof.Machine.execBar4Read c addr n s
  | .functionReset c cause => Sys2Proof.Machine.execFunctionReset c cause s
  | .perstNAssert => Sys2Proof.Machine.execPerstNAssert s
  | .upstreamLinkDown => Sys2Proof.Machine.execUpstreamLinkDown s
  | .upstreamLinkUp width speed => Sys2Proof.Machine.execUpstreamLinkUp width speed s
  | .internalLinkDown c => Sys2Proof.Machine.execInternalLinkDown c s
  | .irqEnableWrite c v => Sys2Proof.Machine.execIrqEnableWrite c v s
  | .jobRingEnable view c x_s => Sys2Proof.Machine.execJobRingEnable view c x_s s
  | .jobRingDisable view c x_s => Sys2Proof.Machine.execJobRingDisable view c x_s s
  | .resultRingEnable view c x_s => Sys2Proof.Machine.execResultRingEnable view c x_s s
  | .resultRingDisable view c x_s => Sys2Proof.Machine.execResultRingDisable view c x_s s
  | .resultRingTailWrite view c x_s v => Sys2Proof.Machine.execResultRingTailWrite view c x_s v s
  | .mbxRead c ctrl => Sys2Proof.Machine.execMbxRead c ctrl s
  | .mbxWrite c ctrl => Sys2Proof.Machine.execMbxWrite c ctrl s
  | .mbxInvalidOp c ctrl => Sys2Proof.Machine.execMbxInvalidOp c ctrl s
  | .mbxCancel c => Sys2Proof.Machine.execMbxCancel c s
  | .mbxOperationEnd c => Sys2Proof.Machine.execMbxOperationEnd c s
  | .mbxSegmentTimeout c => Sys2Proof.Machine.execMbxSegmentTimeout c s
  | .mbxTimeout c => Sys2Proof.Machine.execMbxTimeout c s
  | .mirRead c x_s => Sys2Proof.Machine.execMirRead c x_s s
  | .registerWrite t => Sys2Proof.Machine.execRegisterWrite t s
  | .nodeIdWrite p v => Sys2Proof.Machine.execNodeIdWrite p v s
  | .coordinatorListenEnd => Sys2Proof.Machine.execCoordinatorListenEnd s
  | .beaconSend => Sys2Proof.Machine.execBeaconSend s
  | .beaconReceived f => Sys2Proof.Machine.execBeaconReceived f s
  | .beaconTimeout => Sys2Proof.Machine.execBeaconTimeout s
  | .opportunityStart f => Sys2Proof.Machine.execOpportunityStart f s
  | .fieldFrameReceived frame => Sys2Proof.Machine.execFieldFrameReceived frame s
  | .tlFrameQueue p => Sys2Proof.Machine.execTlFrameQueue p s
  | .tlFrameDiscardAll p => Sys2Proof.Machine.execTlFrameDiscardAll p s
  | .tlFrameRelease => Sys2Proof.Machine.execTlFrameRelease s
  | .tlFrameTimeout => Sys2Proof.Machine.execTlFrameTimeout s
  | .tlxIdentify src tid => Sys2Proof.Machine.execTlxIdentify src tid s
  | .tlxOpen src tid role => Sys2Proof.Machine.execTlxOpen src tid role s
  | .tlxAuth src sid tid proof => Sys2Proof.Machine.execTlxAuth src sid tid proof s
  | .tlxRenew src sid tid => Sys2Proof.Machine.execTlxRenew src sid tid s
  | .tlxClose src sid tid => Sys2Proof.Machine.execTlxClose src sid tid s
  | .tlxRead src sid tid idx sub => Sys2Proof.Machine.execTlxRead src sid tid idx sub s
  | .tlxReadSegment src sid tid off => Sys2Proof.Machine.execTlxReadSegment src sid tid off s
  | .tlxWrite src sid tid idx sub last off data => Sys2Proof.Machine.execTlxWrite src sid tid idx sub last off data s
  | .tlxWriteCancel src sid tid => Sys2Proof.Machine.execTlxWriteCancel src sid tid s
  | .tlxSubscribe src sid tid idx sub mode minMs periodMs => Sys2Proof.Machine.execTlxSubscribe src sid tid idx sub mode minMs periodMs s
  | .tlxUnsubscribe src sid tid handle => Sys2Proof.Machine.execTlxUnsubscribe src sid tid handle s
  | .tlxEventAck src sid seq => Sys2Proof.Machine.execTlxEventAck src sid seq s
  | .tlxUnknownService src sid tid service => Sys2Proof.Machine.execTlxUnknownService src sid tid service s
  | .tlxEventNotify k handle => Sys2Proof.Machine.execTlxEventNotify k handle s
  | .tlxEventRetry k => Sys2Proof.Machine.execTlxEventRetry k s
  | .authTimeout k => Sys2Proof.Machine.execAuthTimeout k s
  | .sessionLapse k => Sys2Proof.Machine.execSessionLapse k s
  | .tlxWriteIdleTimeout k => Sys2Proof.Machine.execTlxWriteIdleTimeout k s
  | .accessKeyWrite p key => Sys2Proof.Machine.execAccessKeyWrite p key s
  | .ethertypeWrite p v => Sys2Proof.Machine.execEthertypeWrite p v s
  | .journalStore ok => Sys2Proof.Machine.execJournalStore ok s
  | .restoreRequest p v => Sys2Proof.Machine.execRestoreRequest p v s
  | .saveRetry p v => Sys2Proof.Machine.execSaveRetry p v s
  | .supplyMarginal low => Sys2Proof.Machine.execSupplyMarginal low s
  | .supplyUndervoltage => Sys2Proof.Machine.execSupplyUndervoltage s
  | .supplyCritical => Sys2Proof.Machine.execSupplyCritical s
  | .supplyRecovered powerUp => Sys2Proof.Machine.execSupplyRecovered powerUp s
  | .governorPeriod c milliwatts => Sys2Proof.Machine.execGovernorPeriod c milliwatts s
  | .allocationTick inputMw chanMw => Sys2Proof.Machine.execAllocationTick inputMw chanMw s
  | .shareArrival c => Sys2Proof.Machine.execShareArrival c s
  | .floorRequestWrite p c v => Sys2Proof.Machine.execFloorRequestWrite p c v s
  | .frequencyRequestWrite p c v => Sys2Proof.Machine.execFrequencyRequestWrite p c v s
  | .voltageSettled c => Sys2Proof.Machine.execVoltageSettled c s
  | .glideEnd c => Sys2Proof.Machine.execGlideEnd c s
  | .relockLocked c => Sys2Proof.Machine.execRelockLocked c s
  | .relockEnd c => Sys2Proof.Machine.execRelockEnd c s
  | .pllLockTimeout c => Sys2Proof.Machine.execPllLockTimeout c s
  | .thermalRecovery c => Sys2Proof.Machine.execThermalRecovery c s
  | .sensorFault c sensor => Sys2Proof.Machine.execSensorFault c sensor s
  | .powerMeasurementFault c => Sys2Proof.Machine.execPowerMeasurementFault c s
  | .regulatorFault c => Sys2Proof.Machine.execRegulatorFault c s
  | .wearMeasurement c rings hbmWear => Sys2Proof.Machine.execWearMeasurement c rings hbmWear s
  | .wearAccrual c => Sys2Proof.Machine.execWearAccrual c s
  | .wearDaily => Sys2Proof.Machine.execWearDaily s
  | .missionProfileWrite p data => Sys2Proof.Machine.execMissionProfileWrite p data s
  | .reeveWatchdog => Sys2Proof.Machine.execReeveWatchdog s
  | .reeveReturn selectorBad => Sys2Proof.Machine.execReeveReturn selectorBad s
  | .tcxoFailure => Sys2Proof.Machine.execTcxoFailure s
  | .modulePowerOn lost selectorBad => Sys2Proof.Machine.execModulePowerOn lost selectorBad s
  | .channelPowerUp c => Sys2Proof.Machine.execChannelPowerUp c s
  | .channelWarmReset c => Sys2Proof.Machine.execChannelWarmReset c s
  | .stewardBoot c badA badB => Sys2Proof.Machine.execStewardBoot c badA badB s
  | .selfTestComplete c failure => Sys2Proof.Machine.execSelfTestComplete c failure s
  | .stewardBankRequest p c v => Sys2Proof.Machine.execStewardBankRequest p c v s
  | .imageTargetWrite p v => Sys2Proof.Machine.execImageTargetWrite p v s
  | .imageWrite p image => Sys2Proof.Machine.execImageWrite p image s
  | .imageBankWrite p => Sys2Proof.Machine.execImageBankWrite p s
  | .bankWriteComplete ok => Sys2Proof.Machine.execBankWriteComplete ok s
  | .imageActivate p => Sys2Proof.Machine.execImageActivate p s
  | .imageFallBack p => Sys2Proof.Machine.execImageFallBack p s
  | .usbTlxSend wLength pdu => Sys2Proof.Machine.execUsbTlxSend wLength pdu s
  | .usbTlxReceive wLength => Sys2Proof.Machine.execUsbTlxReceive wLength s
  | .usbPortInfo => Sys2Proof.Machine.execUsbPortInfo s
  | .usbBulkPdu pdu => Sys2Proof.Machine.execUsbBulkPdu pdu s
  | .usbBusReset detach => Sys2Proof.Machine.execUsbBusReset detach s
  | .usbStandardRequest requestType request value index => Sys2Proof.Machine.execUsbStandardRequest requestType request value index s
  | .offsetMeasureCommand p => Sys2Proof.Machine.execOffsetMeasureCommand p s
  | .probeSend => Sys2Proof.Machine.execProbeSend s
  | .probeReceived c port frame => Sys2Proof.Machine.execProbeReceived c port frame s
  | .echoReceived frame => Sys2Proof.Machine.execEchoReceived frame s
  | .echoTimeout => Sys2Proof.Machine.execEchoTimeout s
  | .perstNDeassert => Sys2Proof.Machine.execPerstNDeassert s
  | .functionReady c => Sys2Proof.Machine.execFunctionReady c s
  | .modulePowerLoss => Sys2Proof.Machine.execModulePowerLoss s
  | .powerMeasurementRecovered c => Sys2Proof.Machine.execPowerMeasurementRecovered c s
  | .hbmFailure c => Sys2Proof.Machine.execHbmFailure c s
  | .scanShift c tms tdi => Sys2Proof.Machine.execScanShift c tms tdi s
  | .pairLoRead view c x_s off size => Sys2Proof.Machine.execPairLoRead view c x_s off size s
  | .internalLinkUp c => Sys2Proof.Machine.execInternalLinkUp c s
  | .announceReceiptTimeout => Sys2Proof.Machine.execAnnounceReceiptTimeout s
  | .syncOutPulseEnd => Sys2Proof.Machine.execSyncOutPulseEnd s
  | .usbBulkIn => Sys2Proof.Machine.execUsbBulkIn s
  | .usbAttach => Sys2Proof.Machine.execUsbAttach s
  | .mirOperationEnd c x_s => Sys2Proof.Machine.execMirOperationEnd c x_s s

end Sys2Proof.Machine
end

