-- ==== Sys2Proof/WellFormed.lean ====
section
/-! DEFINITION. The commands that a sender can form: an operand that Lean holds as a number or a list fits the field that the
manual gives it.  Whether the block accepts a command is no matter of form; that is decided where the command acts. -/

namespace Sys2Proof

/-- n bytes at an address lie in a space of the size given. -/
def spanOk (addr n size : Nat) : Bool := decide (addr + n ≤ size)

/-- A dictionary index and subindex (R350, R351). -/
def memberOk (idx sub : Nat) : Bool := decide (idx < 65536) && decide (sub < 256)

/-- Access sizes of R277: 1, 2, 4 or 8 bytes. -/
def sizeOk (n : Nat) : Bool := n == 1 || n == 2 || n == 4 || n == 8

/-- The place of a register or dictionary write (R277): BAR0 of 32 MiB, a window of 64 KiB, a member of up to 16 MiB. -/
def targetOk (t : RegTarget) : Bool :=
  match t with
  | .bar0 _ off size _ => sizeOk size && spanOk off size (2 ^ 25)
  | .window _ _ off size _ => sizeOk size && spanOk off size (2 ^ 16)
  | .dict _ idx sub data => memberOk idx sub && decide (data.length ≤ 16777216)

/-- A Loom's activation vector has at most 128 elements (R75). -/
def opOk (op : TileOp) : Bool :=
  match op with
  | .vector _ _ _ n => decide (n ≤ 128)
  | .mac .. | .simple .. | .still .. | .larder .. | .send .. | .result .. => true

/-- The command is well formed. -/
def wellFormed (i : Instr) : Bool :=
  match i with
  | .trainingBlockReceived _ _ lanes _ => lanes.length == 4
  | .flitReceived _ _ f => f.payload.length == 240
  | .descriptorFetched _ r => match r with | .good d => d.length == 32 | .failed => true
  | .temperatureSample _ die _ => die.length == 6
  | .keyBlobWrite _ _ _ blob => decide (blob.length ≤ 16777216)
  | .bar4Write _ addr data => spanOk addr data.length (2 ^ 36)
  | .bar4Read _ addr n => spanOk addr n (2 ^ 36)
  | .registerWrite t => targetOk t
  | .beaconReceived f => decide (f.nodeCount < 256)
  | .fieldFrameReceived frame => decide (frame.length ≤ 1522)
  | .tlxRead _ _ _ idx sub => memberOk idx sub
  | .tlxReadSegment _ _ _ off => decide (off < 2 ^ 32)
  | .tlxWrite _ _ _ idx sub _ off data => memberOk idx sub && decide (off < 2 ^ 32) && decide (data.length ≤ 1024)
  | .tlxSubscribe _ _ _ idx sub _ minMs periodMs => memberOk idx sub && decide (minMs < 2 ^ 16) && decide (periodMs < 2 ^ 16)
  | .tlxUnknownService _ _ _ service => decide (service.toNat < 64)
  | .allocationTick _ chanMw => chanMw.length == 8
  | .modulePowerOn lost _ => lost.all (· ≤ 8)
  | .usbTlxSend n _ => decide (n < 2 ^ 16)
  | .usbTlxReceive n => decide (n < 2 ^ 16)
  | .usbStandardRequest ty request value index => decide (ty < 256) && decide (request < 256) && decide (value < 2 ^ 16) && decide (index < 2 ^ 16)
  | .tileRetire _ _ work => work.all opOk
  | .probeReceived _ _ b => decide (b.length ≤ 240)
  | .echoReceived b => decide (b.length ≤ 240)
  | .wearMeasurement _ rings hbm => rings.length == 16 && decide (hbm ≤ 100)
  | .pairLoRead view _ _ off size =>
    sizeOk size && (match view with | .bar0 => spanOk off size (2 ^ 25) | .window => spanOk off size (2 ^ 16))
  | .ref10mEnableWrite .. | .ref10mQualified .. | .ref10mLost .. | .incrementWrite .. => true
  | .correctionSlot .. | .loadStrobe .. | .timeStepWrite .. | .ppsLoadWrite .. => true
  | .ppsLoadTimeout .. | .ppsCapture .. | .trigTargetWrite .. | .armingComplete .. => true
  | .trigPeriodWidthWrite _ _ _ width v => !width || decide (v.toNat < 65536)
  | .comparatorFire .. | .trigModeWrite .. | .trigPulseEnd .. => true
  | .cycleEnableWrite .. | .cycleFirstTickWrite .. | .correctionModeCommit .. | .announceReceived .. => true
  | .masterLost .. | .ppsMissing .. | .ptpEnableWrite .. | .reacquire .. => true
  | .syncReceived .. | .followUpReceived .. | .delayRespReceived .. | .delayReqReceived .. => true
  | .delayReqSend .. | .ptpSyncSend .. | .announceSend .. | .syncBurstEnd .. => true
  | .tsqDrain .. | .timeLaunch .. | .leapSecond .. | .calendarSet .. => true
  | .calendarSync .. | .portModeWrite .. | .linkTrainStart .. | .dataFlitSend .. => true
  | .replayTimeout .. | .signalLoss .. | .planLoad .. | .planLoadComplete .. => true
  | .planUnload .. | .jobRingDoorbell .. | .descriptorFetch .. | .noInputExpiry .. => true
  | .reservationExpiry .. | .tileDeadlineMiss .. | .jobDone .. => true
  | .cellarUncorrectable .. | .completionWrite .. | .resultBlockWritten .. | .stillroomTableFault .. => true
  | .observatoryPowerWrite .. | .traceModeWrite .. | .traceRecordMerge .. | .periodicTimestamp .. => true
  | .flushInterval .. | .traceRingFlush .. | .traceRingEnable .. | .traceRingDisable .. => true
  | .traceRingTailWrite .. | .traceBlockWritten .. | .faithfulTimeout .. | .traceDisturbed .. => true
  | .stagingParityError .. | .cipherFault .. | .counterSelectWrite .. | .counterPresetWrite .. => true
  | .counterEnableWrite .. | .countArrival .. | .gather .. | .energyUpdate .. => true
  | .triggerMaskWrite .. | .stocktakeTrigger .. | .stocktakeRelease .. | .stocktakeT64Arm .. => true
  | .stocktakeT64Fire .. | .syncInRise .. | .syncInFall .. | .syncStopRecognised .. => true
  | .moduleFreezeTimeWrite .. | .moduleFreezeNow .. | .syncHoldoffEnd .. | .stopCtrlStop .. => true
  | .stopCtrlRelease .. | .channelStopCommand .. | .channelReleaseCommand .. | .moduleStopCommand .. => true
  | .moduleReleaseCommand .. | .stopNFall .. | .stopTimeArm .. | .stopTimeFire .. => true
  | .stopEventMatch .. | .coreHalted .. | .dmaDrained .. | .stopNPulseEnd .. => true
  | .stopNStuck .. | .tapInstructionUpdate .. | .scanEnd .. | .tapReset .. => true
  | .sealGuardWrite .. | .sealBlow .. | .sealSense .. | .daybookClear .. => true
  | .hangDetected .. | .hangDumpComplete .. | .heartbeatMissed .. | .decantArm .. => true
  | .decantDisarm .. | .decantCapture .. | .decantDrain .. | .decantRingEnable .. => true
  | .decantRingDisable .. | .decantRingFlush .. | .decantRingTailWrite .. | .decantBlockWritten .. => true
  | .keyInstalled .. | .keyDestroy .. | .retirementComplete .. | .keySlotParityError .. => true
  | .serviceKeyBlobWrite .. | .cellarTagGo .. | .cellarTagDone .. | .functionReset .. => true
  | .perstNAssert .. | .upstreamLinkDown .. | .upstreamLinkUp .. | .internalLinkDown .. => true
  | .irqEnableWrite .. | .jobRingEnable .. | .jobRingDisable .. | .resultRingEnable .. => true
  | .resultRingDisable .. | .resultRingTailWrite .. | .mbxRead .. | .mbxWrite .. => true
  | .mbxInvalidOp .. | .mbxCancel .. | .mbxOperationEnd .. | .mbxSegmentTimeout .. => true
  | .mbxTimeout .. | .mirRead .. | .nodeIdWrite .. | .coordinatorListenEnd .. => true
  | .beaconSend .. | .beaconTimeout .. | .opportunityStart .. | .tlFrameQueue .. => true
  | .tlFrameDiscardAll .. | .tlFrameRelease .. | .tlFrameTimeout .. | .tlxIdentify .. => true
  | .tlxOpen .. | .tlxAuth .. | .tlxRenew .. | .tlxClose .. => true
  | .tlxWriteCancel .. | .tlxUnsubscribe .. | .tlxEventAck .. | .tlxEventNotify .. => true
  | .tlxEventRetry .. | .authTimeout .. | .sessionLapse .. | .tlxWriteIdleTimeout .. => true
  | .accessKeyWrite .. | .ethertypeWrite .. | .journalStore .. | .restoreRequest .. => true
  | .saveRetry .. | .supplyMarginal .. | .supplyUndervoltage .. | .supplyCritical .. => true
  | .supplyRecovered .. | .governorPeriod .. | .shareArrival .. | .floorRequestWrite .. => true
  | .frequencyRequestWrite .. | .voltageSettled .. | .glideEnd .. | .relockLocked .. => true
  | .relockEnd .. | .pllLockTimeout .. | .thermalRecovery .. | .sensorFault .. => true
  | .powerMeasurementFault .. | .regulatorFault .. | .wearAccrual .. => true
  | .wearDaily .. | .missionProfileWrite .. | .reeveWatchdog .. | .reeveReturn .. => true
  | .tcxoFailure .. | .channelPowerUp .. | .channelWarmReset .. | .stewardBoot .. => true
  | .selfTestComplete .. | .stewardBankRequest .. | .imageTargetWrite .. | .imageWrite .. => true
  | .imageBankWrite .. | .bankWriteComplete .. | .imageActivate .. | .imageFallBack .. => true
  | .usbPortInfo .. | .usbBulkPdu .. | .usbBusReset .. | .offsetMeasureCommand .. => true
  | .probeSend .. | .echoTimeout .. | .perstNDeassert .. | .functionReady .. => true
  | .modulePowerLoss .. | .powerMeasurementRecovered .. | .hbmFailure .. | .scanShift .. => true
  | .internalLinkUp .. | .announceReceiptTimeout .. | .syncOutPulseEnd .. | .usbBulkIn .. => true
  | .usbAttach .. | .mirOperationEnd .. => true

end Sys2Proof
end

