-- ==== Sys2Proof/Safety.lean ====
section
/-! DEFINITION. What counts as a safe run: every waiting command is well formed, and the step answers a next state. -/

namespace Sys2Proof

open Sys2Proof.Machine

/-- An outcome is a next state. -/
def goesOn (o : Host.Outcome State Fault Refusal) : Bool :=
  match o with
  | .next _ => true
  | .fault _ => false
  | .refused _ => false

/-- The commands that wait are well formed. -/
def queueOk (s : State) : Bool := s.pending.all wellFormed

/-- A run of n steps from a state, and whether every step went on. -/
def safeRun (n : Nat) (s : State) : Bool :=
  match n with
  | 0 => true
  | k + 1 =>
    match step s with
    | .next t => safeRun k t
    | .fault _ => false
    | .refused _ => false

/-! ## Terms that claims are stated in -/

/-- Every Cellar and every Larder is in its canonical form. -/
def memoryWf (s : State) : Prop :=
  ∀ c : Chan, memWf (s.chan c).cellar = true ∧ memWf (s.chan c).larder = true

/-- A write of one member reaches its server and passes the checks 1 to 10 of R361. -/
def accepts (s : State) (p : Path) (idx sub : Nat) (data : Bytes) (pl : Place) (m : Member) : Prop :=
  s.pathUp p = true ∧ s.checkWrite p idx sub data = .ok (pl, m)

/-- The transaction ID is not that of the session's last request, so the request is a new one (R332). -/
def newRequest (s : State) (k : Fin 32) (tid : BitVec 16) : Prop := ∀ x, (s.session k).last = some x → x.1 ≠ tid

/-- What a write leaves once its own effect has been committed: what every commit does, and the answer 0. -/
def Machine.State.done (s : State) (pl : Place) (m : Member) (idx sub : Nat) : State := (s.committed pl m idx sub).answer 0

/-- Nothing differs but channel c, what has left the module, and the free values drawn. -/
def onlyChannel (c : Chan) (s t : State) : Prop :=
  ∃ (ch : Channel) (out : List Out) (free : Nat), t = { s with chans := s.chans.set c.val ch, out := out, free := free }

/-- The channel of a command that acts in that channel alone. -/
def ofOneChannel (i : Instr) : Option Chan :=
  match i with
  | .jobRingDoorbell _ c _ _ | .jobRingEnable _ c _ | .jobRingDisable _ c _ | .resultRingEnable _ c _
  | .resultRingDisable _ c _ | .traceRingFlush _ c _ | .traceRingEnable _ c _ _ | .traceRingDisable _ c _ _
  | .decantRingFlush _ c _ | .decantRingEnable _ c _ _ | .decantRingDisable _ c _ _ | .decantArm _ c _ _ _
  | .decantDisarm _ c _ _ _ | .cellarTagGo c _ | .cellarTagDone c | .bar4Write c _ _ | .traceRecordMerge c
  | .periodicTimestamp c | .flushInterval c _ _ | .countArrival c _ | .energyUpdate c _ | .tapInstructionUpdate c _
  | .tapReset c _ | .scanEnd c | .scanShift c _ _ | .descriptorFetch c | .reservationExpiry c _ | .relockLocked c
  | .pllLockTimeout c | .glideEnd c | .keyInstalled c | .mbxSegmentTimeout c | .irqEnableWrite c _
  | .powerMeasurementFault c | .powerMeasurementRecovered c => some c
  | _ => none

/-- The commands of the field network, TLX and USB that reach no channel. -/
def ofNetwork (i : Instr) : Bool :=
  match i with
  | .tlxIdentify _ _ | .tlxRenew _ _ _ | .tlxClose _ _ _ | .tlxWriteCancel _ _ _ | .tlxReadSegment _ _ _ _
  | .tlxEventAck _ _ _ | .tlxUnsubscribe _ _ _ _ | .tlxUnknownService _ _ _ _ | .tlxWriteIdleTimeout _
  | .tlxEventRetry _ | .usbTlxReceive _ | .usbPortInfo | .usbBulkIn | .usbAttach | .usbBusReset _ | .beaconSend
  | .tlFrameRelease | .syncBurstEnd | .delayReqSend => true
  | _ => false

/-- The path, index, subindex and data of a command that writes one member of the dictionary. -/
def asWrite (i : Instr) : Option (Path × Nat × Nat × Bytes) :=
  match i with
  | .ref10mEnableWrite p v => some (p, 0x3000, 3, [v])
  | .incrementWrite p v => some (p, 0x3002, 0, leBytes 8 v.toNat)
  | .timeStepWrite p v => some (p, 0x3003, 0, leBytes 8 v.toNat)
  | .ppsLoadWrite p v => some (p, 0x3005, 0, leBytes 10 v.toNat)
  | .trigTargetWrite p c n v => some (p, chanIndex c (0x110 + n.val), 2, leBytes 4 v.toNat)
  | .trigModeWrite p c n v => some (p, chanIndex c (0x110 + n.val), 1, [v])
  | .trigPeriodWidthWrite p c n false v => some (p, chanIndex c (0x110 + n.val), 3, leBytes 4 v.toNat)
  | .trigPeriodWidthWrite p c n true v => some (p, chanIndex c (0x110 + n.val), 4, leBytes 2 v.toNat)
  | .cycleEnableWrite p c v => some (p, chanIndex c 0x120, 1, [v])
  | .cycleFirstTickWrite p c v => some (p, chanIndex c 0x120, 2, leBytes 4 v.toNat)
  | .correctionModeCommit p source v => some (p, 0x3001, if source then 2 else 1, [v])
  | .ptpEnableWrite p v => some (p, 0x3010, 1, [v])
  | .reacquire p v => some (p, 0x3004, 0, [v])
  | .calendarSet p v => some (p, 0x2040, 4, leBytes 10 v.toNat)
  | .portModeWrite p c port v => some (p, chanIndex c (portOff port), 1, [v])
  | .planLoad p c => some (p, chanIndex c 0x510, 5, [1])
  | .planUnload p c => some (p, chanIndex c 0x510, 5, [2])
  | .observatoryPowerWrite p c v => some (p, chanIndex c 0x300, 1, [v])
  | .traceModeWrite p c v => some (p, chanIndex c 0x300, 2, [v])
  | .counterSelectWrite p c u i v => some (p, chanIndex c (0x240 + u.toNat), 1 + i.val, leBytes 2 v.toNat)
  | .counterPresetWrite p c u i v => some (p, chanIndex c (0x240 + u.toNat), 0x11 + i.val, leBytes 8 v.toNat)
  | .counterEnableWrite p c u v => some (p, chanIndex c (0x240 + u.toNat), 9, [v])
  | .triggerMaskWrite p c v => some (p, chanIndex c 0x202, 1, [v])
  | .stocktakeTrigger (.dict p) c => some (p, chanIndex c 0x202, 4, [1])
  | .stocktakeRelease (.dict p) c => some (p, chanIndex c 0x202, 5, [1])
  | .stocktakeT64Arm p c v => some (p, chanIndex c 0x202, 3, leBytes 8 v.toNat)
  | .moduleFreezeTimeWrite p v => some (p, 0x4010, 1, leBytes 8 v.toNat)
  | .moduleFreezeNow p => some (p, 0x4010, 3, [1])
  | .channelStopCommand p c => some (p, chanIndex c 0x400, 1, [1])
  | .channelReleaseCommand p c => some (p, chanIndex c 0x400, 1, [2])
  | .moduleStopCommand p => some (p, 0x4020, 2, [1])
  | .moduleReleaseCommand p => some (p, 0x4020, 2, [2])
  | .stopTimeArm p c v => some (p, chanIndex c 0x400, 9, leBytes 8 v.toNat)
  | .sealGuardWrite p c v => some (p, chanIndex c 0x401, 2, leBytes 2 v.toNat)
  | .sealBlow p c => some (p, chanIndex c 0x401, 3, [1])
  | .daybookClear p c => some (p, chanIndex c 0x402, 5, [1])
  | .keyDestroy p c i => some (p, chanIndex c (keyOff i), 5, [1])
  | .nodeIdWrite p v => some (p, 0x1100, 1, [v])
  | .tlFrameQueue p => some (p, 0x1040, 3, [1])
  | .tlFrameDiscardAll p => some (p, 0x1040, 3, [2])
  | .accessKeyWrite p key => some (p, 0x1200, 3, key)
  | .ethertypeWrite p v => some (p, 0x1010, 2, leBytes 2 v.toNat)
  | .restoreRequest p v => some (p, 0x1020, 1, leBytes 2 v.toNat)
  | .saveRetry p v => some (p, 0x1020, 2, [v])
  | .floorRequestWrite p c v => some (p, chanIndex c 0x700, 5, leBytes 2 v.toNat)
  | .frequencyRequestWrite p c v => some (p, chanIndex c 0x700, 4, leBytes 2 v.toNat)
  | .missionProfileWrite p data => some (p, 0x2060, 5, data)
  | .stewardBankRequest p c v => some (p, chanIndex c 0, 7, [v])
  | .imageTargetWrite p v => some (p, 0x1030, 1, [v])
  | .imageWrite p b => some (p, 0x1030, 2, b)
  | .imageBankWrite p => some (p, 0x1030, 3, [1])
  | .imageActivate p => some (p, 0x1030, 3, [2])
  | .imageFallBack p => some (p, 0x1030, 3, [3])
  | .offsetMeasureCommand p => some (p, 0x4030, 2, [1])
  | _ => none

end Sys2Proof
end

