-- ==== Sys2Proof/Certificates/Slice0/Obligations.lean ====
section
/-! DEFINITION. The statements for the provers, one obligation each, in the order of OBLIGATIONS.json. -/

open Sys2Proof Sys2Proof.Machine

/-- A step takes the command at the front of the queue and runs it with the queue's rest. -/
def Obligations.StepRunsTheFrontCommand : Prop :=
  ∀ (c : Instr) (rest : List Instr) (s : State), s.pending = c :: rest → step s = exec c (s.withPending rest)

/-- With no command waiting, one edge of TCLK passes (the model's choice, log entry 1). -/
def Obligations.IdleStepIsOneTclkEdge : Prop :=
  ∀ s : State, s.pending = [] → step s = .next s.tick

/-- No command changes the queue: it is taken from the front alone, first in, first out. -/
def Obligations.CommandsLeaveTheQueue : Prop :=
  ∀ (i : Instr) (s t : State), exec i s = .next t → t.pending = s.pending

/-- The values that the manual gives for the module after reset, where no channel has been touched. -/
def Obligations.ResetGivesTheManualsValues : Prop :=
  State.reset.pending = [] ∧ State.reset.time.ts = .freeRun ∧ State.reset.mnat 0x1010 2 = 0x88B5 ∧
  State.reset.mnat 0x1100 1 = 255 ∧ State.reset.mnat 0x1100 2 = 8 ∧ State.reset.mnat 0x1100 3 = 32 ∧
  State.reset.sessionsHeld = 0 ∧ State.reset.nextSid = 1 ∧
  ∀ c : Chan, (State.reset.chan c).stop.st = 0 ∧ (State.reset.chan c).st = .booting ∧
    (∀ i : Slot, ((State.reset.chan c).owner i).st = .empty) ∧ (State.reset.chan c).jobs = []

/-- Every Cellar and Larder is in its canonical form. -/
def Obligations.StepKeepsMemoryCanonical : Prop :=
  ∀ s t : State, memoryWf s → step s = .next t → memoryWf t

/-- The memories of the reset state are in canonical form. -/
def Obligations.ResetMemoryIsCanonical : Prop :=
  memoryWf State.reset

/-- A byte put into a memory is what that address reads, and every other address reads as before. A run of bytes
written reads back, and every address outside it reads as before. -/
def Obligations.MemoryRunsReadBack : Prop :=
  (∀ (m : List Host.Cell) (a x : Nat) (b : Byte), memWf m = true →
     memGet (memPut m a b) x = if x = a then b else memGet m x) ∧
  (∀ (m : List Host.Cell) (a : Nat) (b : Bytes), memWf m = true →
     memRead (memWrite m a b) a b.length = b ∧
     ∀ x : Nat, x < a ∨ a + b.length ≤ x → memGet (memWrite m a b) x = memGet m x)

/-- A number written least significant byte first reads back, modulo the width (R7). A number written most significant
byte first reads back, modulo the width (R326). The fixed-length types of TLX are the mailbox's bytes in the opposite
order, and DATE and TIME80 with them. -/
def Obligations.ByteOrdersReadBack : Prop :=
  (∀ n v : Nat, leNat (leBytes n v) = v % 256 ^ n ∧ (leBytes n v).length = n) ∧
  (∀ n v : Nat, beNat (beBytes n v) = v % 256 ^ n ∧ (beBytes n v).length = n) ∧
  (∀ (m : Member) (v : Nat) (n : Nat), m.ty.size = some n →
     tlxBytes m (leBytes n v) = beBytes n v ∧ tlxBytes m (beBytes n v) = leBytes n v)

/-- A write that fails one of the checks 1 to 10 of R361 ends with the abort of the first that fails, and nothing else
changes, for every command that writes one member. -/
def Obligations.RefusedWriteAppliesNothing : Prop :=
  ∀ (i : Instr) (p : Path) (idx sub : Nat) (data : Bytes) (s : State) (e : AbortCode),
    asWrite i = some (p, idx, sub, data) → s.pathUp p = true → s.checkWrite p idx sub data = .error e →
    exec i s = .next (s.answer e)

/-- While a channel is POWERED_DOWN nothing runs in it, 0x8000:01 to :03 are answered, and every other operation on
its block ends with DEVICE_NOT_READY on every path. -/
def Obligations.PoweredDownChannelAnswersStatusOnly : Prop :=
  ∀ (s : State) (p : Path) (c : Chan) (off sub : Nat) (data : Bytes), off < 0x1000 → (s.chan c).st = .poweredDown →
    s.chanUp c = false ∧ (¬(off = 0 ∧ 1 ≤ sub ∧ sub ≤ 3) → s.readMember p (chanIndex c off) sub = .error abortNotReady) ∧
    (s.dictWrite p (chanIndex c off) sub data).1 = abortNotReady ∧
    (s.dictWrite p (chanIndex c off) sub data).2 = s ∧
    (off = 0 → 1 ≤ sub → sub ≤ 3 → s.reeveUp = true → s.carries p (.channel c 0) sub false = true →
      ∃ m, s.readMember p (chanIndex c off) sub = .ok (m, leBytes 1 (s.statusWord c sub).toNat))

/-- While the internal servo steers (mode 0), a write of the increment or of a time step is refused with
STATE_CONFLICT, and sets no sticky bit (R51). -/
def Obligations.ServoIsTheOnlyWriterInModeZero : Prop :=
  ∀ (s : State) (p : Path) (pl : Place) (m : Member) (v : Word), s.mnat 0x3001 1 = 0 →
    (accepts s p 0x3002 0 (leBytes 8 v.toNat) pl m → exec (.incrementWrite p v) s = .next (s.answer abortConflict)) ∧
    (accepts s p 0x3003 0 (leBytes 8 v.toNat) pl m → exec (.timeStepWrite p v) s = .next (s.answer abortConflict)) ∧
    (∀ (idx : Nat) (data : Bytes), idx = 0x3002 ∨ idx = 0x3003 →
      (s.dictWrite p idx 0 data).1 ≠ 0 ∧ (s.dictWrite p idx 0 data).2 = s) ∧
    (s.answer abortConflict).mget 0x3000 4 = s.mget 0x3000 4 ∧ (s.answer abortConflict).time = s.time

/-- Writes to the time base commit: REF10M, the increment, a step, a PPS load, the correction mode, REACQUIRE. A step
in mode 0 is refused with STATE_CONFLICT; in mode 1 with the allowance spent, with TIME_STEP_REFUSED. -/
def Obligations.TimeWritesCommit : Prop :=
  (∀ (s : State) (p : Path) (pl : Place) (m : Member),
     (∀ v : Byte, accepts s p 0x3000 3 [v] pl m →
       exec (.ref10mEnableWrite p v) s = .next (((s.mput 0x3000 3 (w v.toNat)).useReference
         (if v.toNat ≠ 0 ∧ s.time.refQualified = true then 1 else 0)).done pl m 0x3000 3)) ∧
     (∀ v : Word, accepts s p 0x3002 0 (leBytes 8 v.toNat) pl m → s.mnat 0x3001 1 ≠ 0 →
       exec (.incrementWrite p v) s = .next
         ((({ s with time := { s.time with pendIncr := some v } }).mput 0x3002 0 v).done pl m 0x3002 0)) ∧
     (∀ v : Word, accepts s p 0x3003 0 (leBytes 8 v.toNat) pl m → s.mnat 0x3001 1 = 1 → s.time.allowance = true →
       exec (.timeStepWrite p v) s = .next
         (({ s with time := { s.time with allowance := false, pendStep := some v } }).done pl m 0x3003 0)) ∧
     (∀ v : BitVec 80, accepts s p 0x3005 0 (leBytes 10 v.toNat) pl m → s.time.ts = .freeRun →
       exec (.ppsLoadWrite p v) s = .next (({ s with time := { s.time with
         ppsLoad := some { value := t64OfTime80 v, deadline := s.tclk + tclkOfS 2, edge := none } } }).done pl m 0x3005 0)) ∧
     (∀ (source : Bool) (v : Byte), accepts s p 0x3001 (if source then 2 else 1) [v] pl m →
       s.mget 0x3001 (if source then 2 else 1) ≠ w v.toNat →
       exec (.correctionModeCommit p source v) s = .next
         (((s.mput 0x3001 (if source then 2 else 1) (w v.toNat)).reacquireConfig).done pl m 0x3001
           (if source then 2 else 1))) ∧
     (∀ v : Byte, accepts s p 0x3004 0 [v] pl m → s.time.ts ≠ .freeRun →
       exec (.reacquire p v) s = .next ((s.acquire true).done pl m 0x3004 0))) ∧
  (∀ (s : State) (p : Path) (pl : Place) (m : Member) (v : Word), accepts s p 0x3003 0 (leBytes 8 v.toNat) pl m →
     (s.mnat 0x3001 1 = 0 → exec (.timeStepWrite p v) s = .next (s.answer abortConflict)) ∧
     (s.mnat 0x3001 1 = 1 → s.time.allowance = false →
       exec (.timeStepWrite p v) s = .next ((s.timeFlag stepRefused).answer abortStep)))

/-- The time base's own events complete when they fall due. The calendar is set, kept by T64, and steps over a leap
second. -/
def Obligations.TimeEventsComplete : Prop :=
  ((∀ s : State, s.live = true →
     exec .ref10mQualified s = .next
       (let t : State := { s with time := { s.time with refQualified := true } }
        if s.mon 0x3000 3 then t.useReference 1 else t) ∧
     (s.mon 0x3000 2 = true →
       let t := (({ s with time := { s.time with refQualified := false } } : State).useReference 0).timeFlag refLostBit
       exec .ref10mLost s = .next (if t.reeve.running then t.enterHoldover refLostBit else t))) ∧
   ∀ s : State, s.reeveUp = true →
     (∀ l : PpsLoad, s.time.ppsLoad = some l → l.edge = none → l.deadline ≤ s.tclk →
       exec .ppsLoadTimeout s = .next (({ s with time := { s.time with ppsLoad := none } }).timeFlag ppsMissingBit)) ∧
     (s.time.nextSlot ≤ s.tclk → exec .correctionSlot s = .next { s with time := s.time.slot s.tclk }) ∧
     (∀ (t : Nat) (l : Load), s.time.load = some (t, l) → t ≤ s.tclk → exec .loadStrobe s = .next (s.strobe l)) ∧
     (s.mon 0x3001 2 = false → ∃ t : State, exec .ppsCapture s = .next t ∧
       t.mget 0x3006 1 = BitVec.ofNat 64 ((s.time.acc - 2 * s.time.incr.toNat) / 2 ^ 32) ∧
       t.time.lastPps = some s.tclk) ∧
     (∀ t : Nat, s.time.lastPps = some t → s.mon 0x3001 2 = true → t + tclkOfMs 3500 ≤ s.tclk →
       (s.time.ts = .acquiring ∨ s.time.ts = .locked) → exec .ppsMissing s = .next (s.enterHoldover (ppsMissingBit ||| masterLostBit)))) ∧
  (∀ s : State,
     (∀ (p : Path) (v : BitVec 80) (pl : Place) (m : Member), accepts s p 0x2040 4 (leBytes 10 v.toNat) pl m →
       s.time.ts = .freeRun → 2000 ≤ (civilOfDay (((v.toNat / 2 ^ 32 : Nat) - s.taiOffset) / 86400)).1 →
       (civilOfDay (((v.toNat / 2 ^ 32 : Nat) - s.taiOffset) / 86400)).1 ≤ 2399 →
       exec (.calendarSet p v) s = .next ((s.setCalendar (v.toNat / 2 ^ 32)).done pl m 0x2040 4)) ∧
     (s.reeveUp = true → s.time.ts ≠ .freeRun → exec .calendarSync s = .next (s.setCalendar (taiSecond s.now))) ∧
     (∀ a : Nat, s.reeveUp = true → s.reeve.leapAt = some a → a ≤ taiSecond s.now → exec .leapSecond s = .next s.leap))

/-- n edges of TCLK add n increments to the counter and its fraction, with no bit lost (R38). -/
def Obligations.CounterAccumulatesIncrements : Prop :=
  ∀ (n : Nat) (t : TimeBase),
    (Nat.repeat TimeBase.tick n t).acc = (t.acc + n * t.incr.toNat) % 2 ^ 96

/-- A comparator takes a target for the value congruent to it modulo 2^32 that lies less than 2^31 ns ahead of T32 and
no more than 2^31 - 1 ns behind it (R42). -/
def Obligations.TargetsAliasIntoTheWindow : Prop :=
  ∀ (now target : T32) (x : Int), (x - target.toNat) % 2 ^ 32 = 0 →
    x < now.toNat + 2 ^ 31 → (now.toNat : Int) - (2 ^ 31 - 1) ≤ x → cmpDiff now target = now.toNat - x

/-- PTP messages that the module may act on take effect, and the messages it owes are formed. The loss of the master,
of its Announces, and an enable or disable of PTP. -/
def Obligations.PtpCommandsComplete : Prop :=
  (∀ s : State, s.reeveUp = true →
     (∀ a : Announce, s.ptpHears a.domain = true → a.sender ≠ s.clockId → a.stepsRemoved < 255 →
       exec (.announceReceived a) s = .next ((s.copyUtc a).bmca a)) ∧
     (∀ m : PtpMsg, s.fromMaster m = true → ∃ t : State, exec (.syncReceived m) s = .next t ∧
       t.ptp.lastSync = some s.tclk ∧ t.ptp.advertised = some m.logInterval ∧ t.ptp.exch.syncSeq = m.seqId ∧
       t.ptp.exch.t2 = some s.rxStamp.1 ∧ t.ptp.exch.t1 = (if m.twoStep then none else some m.stamp)) ∧
     (∀ m : PtpMsg, s.fromMaster m = true → s.ptp.exch.syncSeq = m.seqId → s.ptp.exch.t2 ≠ none → s.ptp.exch.t1 = none →
       exec (.followUpReceived m) s = .next (({ s with ptp := { s.ptp with
         exch := { s.ptp.exch with t1 := some m.stamp, corr := s.ptp.exch.corr + m.correction } } }).completeExchange)) ∧
     (∀ m : PtpMsg, s.fromMaster m = true → m.requester = s.clockId → s.ptp.exch.reqSeq = m.seqId → s.ptp.exch.t4 = none →
       exec (.delayRespReceived m) s = .next (({ s with ptp := { s.ptp with
         exch := { s.ptp.exch with t4 := some (tInt m.stamp - m.correction) } } }).completeExchange)) ∧
     (∀ m : PtpMsg, s.ptpHears m.domain = true → s.ptp.role = .master →
       exec (.delayReqReceived m) s = .next (s.rxStamp.2.queuePtp (s.rxStamp.2.ptpFrame 9 0 m.correction m.seqId 3
         (s.rxStamp.2.mint 0x3010 7) (ptpStamp s.rxStamp.1 ++ beBytes 8 m.requester.toNat ++ [0, 1])) none)) ∧
     (s.mon 0x3010 1 = true → s.ptp.role = .slave → s.ptp.lastReq + s.reqInterval ≤ s.tclk →
       exec .delayReqSend s = .next (({ s with ptp := { s.ptp with
         reqSeq := s.ptp.reqSeq + 1, lastReq := s.tclk
         exch := { s.ptp.exch with reqSeq := s.ptp.reqSeq + 1, t3 := none, t4 := none } } }).queuePtp
           (s.ptpFrame 1 0 (-(s.mint 0x3010 0x0A)) (s.ptp.reqSeq + 1) 1 0x7F (zeros 10)) (some (1, s.ptp.reqSeq + 1)))) ∧
     (s.ptp.role = .master → s.ptp.nextSyncT64.toNat ≤ s.now.toNat → s.plcaState = plcaWaiting →
       ∃ (t : State) (f : TlFrame), exec .ptpSyncSend s = .next t ∧ f ∈ t.tlq ∧ f.launch = s.ptp.nextSyncT64 ∧
         f.sync = some (s.ptp.syncSeq + 1) ∧ f.released = some s.tclk ∧ t.ptp.syncSeq = s.ptp.syncSeq + 1) ∧
     (s.ptp.role = .master → s.ptp.lastAnn + tclkOfNs (logNs (s.mint 0x3010 8)) ≤ s.tclk → s.plcaState = plcaWaiting →
       s.txq.length < 32 → ∃ (t : State) (f : TxFrame), exec .announceSend s = .next t ∧ f ∈ t.txq ∧
         f.cls = .ptpGeneral ∧ t.ptp.annSeq = s.ptp.annSeq + 1 ∧ t.ptp.lastAnn = s.tclk) ∧
     (∀ t : Nat, s.ptp.burstEnd = some t → t ≤ s.tclk →
       exec .syncBurstEnd s = .next { s with ptp := { s.ptp with
         burstEnd := none, nextSyncT64 := nextMultiple s.now (logNs (s.mint 0x3010 6)) } }) ∧
     (∀ (e : TsqEntry) (rest : List TsqEntry), s.ptp.tsq = e :: rest → e.messageType ≠ syncType →
       e.seqId = s.ptp.exch.reqSeq → exec .tsqDrain s = .next
         (let t := ({ s with ptp := { s.ptp with tsq := rest } }).mput 0x3020 1 (w rest.length)
          ({ t with ptp := { t.ptp with exch := { t.ptp.exch with t3 := some e.stamp } } }).completeExchange))) ∧
  (∀ s : State,
     (s.reeveUp = true → ∀ t : Nat, s.ptp.lastSync = some t → s.mon 0x3001 2 = false →
       (s.time.ts = .acquiring ∨ s.time.ts = .locked) → t + 3 * s.lossInterval ≤ s.tclk →
       exec .masterLost s = .next (s.enterHoldover masterLostBit)) ∧
     (s.reeveUp = true → s.mon 0x3010 1 = true → s.ptp.role ≠ .master →
       s.ptp.lastAnnounce.getD 0 + s.mnat 0x3010 9 * tclkOfNs (logNs (s.mint 0x3010 8)) ≤ s.tclk → s.slaveOnly = false →
       exec .announceReceiptTimeout s = .next
         ({ s with ptp := { s.ptp with lastAnnounce := some s.tclk } }).becomeMaster) ∧
     (∀ (p : Path) (pl : Place) (m : Member), accepts s p 0x3010 1 [1] pl m →
       exec (.ptpEnableWrite p 1) s = .next
         ((let t := s.mput 0x3010 1 1
           { t with ptp := { t.ptp with lastAnnounce := some t.tclk } }).done pl m 0x3010 1)) ∧
     (∀ (p : Path) (pl : Place) (m : Member), accepts s p 0x3010 1 [0] pl m →
       exec (.ptpEnableWrite p 0) s = .next
         ((let t := s.mput 0x3010 1 0
           let t := if t.mon 0x3001 2 then t else t.enterHoldover masterLostBit
           { t with ptp := { t.ptp.dropMaster t.time.ts with role := .listening, burstEnd := none } }).done pl m 0x3010 1)))

/-- TRIG and cycle writes commit. A width of at least the period is refused with STATE_CONFLICT when it would run: at
a mode-2 target, a change to mode 2 while armed, and a period or width written while armed (R64). Arming, firing and
the end of a pulse complete when they fall due. -/
def Obligations.TriggerCommandsComplete : Prop :=
  (∀ (s : State) (p : Path) (c : Chan) (pl : Place) (m : Member),
     (∀ (n : Fin 4) (v : T32), accepts s p (chanIndex c (0x110 + n.val)) 2 (leBytes 4 v.toNat) pl m →
       (s.cnat c (0x110 + n.val) 1 = 2 → (s.chan c).widthClash (0x110 + n.val) = false) →
       exec (.trigTargetWrite p c n v) s = .next ((s.modChan c fun ch =>
         let ch := ch.put (0x110 + n.val) 2 (w v.toNat)
         if s.cnat c (0x110 + n.val) 1 = 1 ∨ s.cnat c (0x110 + n.val) 1 = 2 then ch.startArming s.tclk ⟨n.val, by omega⟩
         else ch).done pl m (chanIndex c (0x110 + n.val)) 2)) ∧
     (∀ n : Fin 4, accepts s p (chanIndex c (0x110 + n.val)) 1 [0] pl m →
       exec (.trigModeWrite p c n 0) s = .next ((s.modChan c fun ch =>
         (ch.put (0x110 + n.val) 1 0).disarm ⟨n.val, by omega⟩).done pl m (chanIndex c (0x110 + n.val)) 1)) ∧
     (∀ n : Fin 4, accepts s p (chanIndex c (0x110 + n.val)) 1 [1] pl m →
       exec (.trigModeWrite p c n 1) s = .next
         ((s.cput c (0x110 + n.val) 1 1).done pl m (chanIndex c (0x110 + n.val)) 1)) ∧
     (∀ n : Fin 4, accepts s p (chanIndex c (0x110 + n.val)) 1 [3] pl m →
       exec (.trigModeWrite p c n 3) s = .next ((s.modChan c fun ch =>
         ((ch.put (0x110 + n.val) 1 3).disarm ⟨n.val, by omega⟩).restartCounts ⟨n.val, by omega⟩).done pl m
           (chanIndex c (0x110 + n.val)) 1)) ∧
     (∀ (n : Fin 4) (v : T32), accepts s p (chanIndex c (0x110 + n.val)) 3 (leBytes 4 v.toNat) pl m →
       s.cnat c (0x110 + n.val) 1 ≠ 2 → exec (.trigPeriodWidthWrite p c n false v) s = .next
         ((s.cput c (0x110 + n.val) 3 (w v.toNat)).done pl m (chanIndex c (0x110 + n.val)) 3)) ∧
     (∀ (n : Fin 4) (v : T32), accepts s p (chanIndex c (0x110 + n.val)) 4 (leBytes 2 v.toNat) pl m →
       s.cnat c (0x110 + n.val) 1 ≠ 2 → v.toNat < 65536 → exec (.trigPeriodWidthWrite p c n true v) s = .next
         ((s.cput c (0x110 + n.val) 4 (w v.toNat)).done pl m (chanIndex c (0x110 + n.val)) 4)) ∧
     (accepts s p (chanIndex c 0x120) 1 [0] pl m → exec (.cycleEnableWrite p c 0) s = .next
       ((s.modChan c fun ch => (ch.put 0x120 1 0).disarm 4).done pl m (chanIndex c 0x120) 1)) ∧
     (accepts s p (chanIndex c 0x120) 1 [1] pl m → s.con c 0x120 1 = false → exec (.cycleEnableWrite p c 1) s = .next
       ((s.modChan c fun ch => (ch.put 0x120 1 1).startArming s.tclk 4).done pl m (chanIndex c 0x120) 1)) ∧
     (∀ v : T32, accepts s p (chanIndex c 0x120) 2 (leBytes 4 v.toNat) pl m → (s.chan c).on 0x120 1 = false →
       exec (.cycleFirstTickWrite p c v) s = .next
         ((s.modChan c fun ch => if (ch.put 0x120 2 (w v.toNat)).on 0x120 1
           then (ch.put 0x120 2 (w v.toNat)).startArming s.tclk 4 else ch.put 0x120 2 (w v.toNat)).done pl m
           (chanIndex c 0x120) 2))) ∧
  (∀ (s : State) (p : Path) (c : Chan) (n : Fin 4) (pl : Place) (m : Member),
     (∀ v : T32, accepts s p (chanIndex c (0x110 + n.val)) 2 (leBytes 4 v.toNat) pl m → s.cnat c (0x110 + n.val) 1 = 2 →
       (s.chan c).widthClash (0x110 + n.val) = true →
       exec (.trigTargetWrite p c n v) s = .next (s.answer abortConflict)) ∧
     (accepts s p (chanIndex c (0x110 + n.val)) 1 [2] pl m → (s.chan c).arming ⟨n.val, by omega⟩ = true →
       (s.chan c).widthClash (0x110 + n.val) = true →
       exec (.trigModeWrite p c n 2) s = .next (s.answer abortConflict))) ∧
  (∀ (s : State) (c : Chan), s.chanUp c = true →
     (∀ (k : Fin 5) (t : Nat), (s.chan c).cmp[k.val].arming = some t → t ≤ s.tclk →
       exec (.armingComplete c k) s = .next (s.completeArming c k)) ∧
     (∀ k : Fin 5, (s.chan c).armed k = true → (s.chan c).cmp[k.val].crossed = none →
       0 ≤ cmpDiff s.now32 (s.chan c).cmp[k.val].target →
       exec (.comparatorFire c k) s = .next (s.fireCmp c k (cmpDiff s.now32 (s.chan c).cmp[k.val].target).toNat false)) ∧
     (∀ (k : Fin 5) (d : Nat), (s.chan c).armed k = true → (s.chan c).cmp[k.val].crossed = some d →
       exec (.comparatorFire c k) s = .next (s.fireCmp c k d true)) ∧
     (∀ k : Fin 5, (s.chan c).armed k = true → (s.chan c).cmp[k.val].crossed = none →
       cmpDiff s.now32 (s.chan c).cmp[k.val].target < 0 → exec (.comparatorFire c k) s = .next s) ∧
     (∀ (n : Fin 4) (t : Nat), (s.chan c).cmp[n.val].pulseEnd = some t → t ≤ s.tclk →
       exec (.trigPulseEnd c n) s = .next ((s.modChan c fun ch =>
         ch.modCmp ⟨n.val, by omega⟩ fun m => { m with pulseEnd := none }).trigPin c n.val false)))

/-- A periodic comparator that fires at T moves its target by the least multiple of its period that leads past the
moment of the fire, and counts the boundaries it skipped (R45). -/
def Obligations.PeriodicTargetsKeepTheSchedule : Prop :=
  ∀ (s : State) (c : Chan) (k : Fin 5) (period late : Nat), s.chanUp c = true → (s.chan c).armed k = true →
    period = s.cnat c (cmpOff k) 3 → 0 < period → (k.val < 4 → s.cnat c (cmpOff k) 1 = 2) →
    ((s.chan c).cmp[k.val].crossed = some late ∨ ((s.chan c).cmp[k.val].crossed = none ∧
      late = (s.now32 - (s.chan c).cmp[k.val].target).toNat ∧ late < 2 ^ 31)) →
    late < boundaries late period * period ∧ boundaries late period * period ≤ late + period ∧
    ∃ t : State, exec (.comparatorFire c k) s = .next t ∧
      (t.chan c).cmp[k.val].target =
        (s.chan c).cmp[k.val].target + BitVec.ofNat 32 (boundaries late period * period) ∧
      t.cnat c (cmpOff k) (cmpSkip k) =
        (s.cnat c (cmpOff k) (cmpSkip k) + (boundaries late period - 1)) % 2 ^ 32

/-- Training starts 1 ms after DOWN in TRAIN, with a TS1 on every lane under the port's sender ID (R83, R84). A port
mode commits: 2 is refused on ports 0 and 1; a port that is down takes its mode, and one that trains or is up goes
down first (R84, R87). Four valid blocks with lanes 0 to 3 in order within 16 ns move TRAIN to CONFIRM with TS2, and
sixteen sets of valid TS2 move CONFIRM to UP; the port then sends from sequence 0 under the partner's credits. -/
def Obligations.LinkTrainingCompletes : Prop :=
  (∀ (s : State) (c : Chan) (p : Port), s.chanUp c = true →
     ((s.chan c).portState p = 0 → (s.chan c).nat (portOff p) 1 ≠ 0 → (s.chan c).st ≠ .booting → (s.chan c).st ≠ .quarantine →
       (s.chan c).stopped = false → ((s.chan c).port p).downSince + tclkOfMs 1 ≤ s.tclk →
       ∃ (t : State) (blocks : List TrainingBlock) (lanes : List Bytes), exec (.linkTrainStart c p) s = .next t ∧
         (t.chan c).portState p = 1 ∧ ((t.chan c).port p).sender = s.senderId c p ∧
         t.out = s.out ++ [.training c p blocks lanes] ∧ blocks.map (·.lane) = [0, 1, 2, 3] ∧
         ∀ b, b ∈ blocks → b.marker = 0xB5C3E11D ∧ b.kind = 1 ∧ b.port = BitVec.ofNat 8 p.val ∧ b.version = 1 ∧
           b.sender = s.senderId c p ∧ blockCrcOk b = true) ∧
     (∀ (lanes : List TrainingBlock) (skew : Nat), s.blocksArrive c p lanes = true →
       ((s.chan c).portState p = 1 →
         exec (.trainingBlockReceived c p lanes skew) s = .next (s.trainStep c p lanes skew)) ∧
       ((s.chan c).portState p = 2 →
         exec (.trainingBlockReceived c p lanes skew) s = .next (s.confirmStep c p lanes)) ∧
       ((s.chan c).portState p = 3 →
         exec (.trainingBlockReceived c p lanes skew) s = .next (s.linkFault c p causeTraining))) ∧
     ((s.chan c).portUp p = true → exec (.signalLoss c p) s = .next (s.linkFault c p causeSignal))) ∧
  (∀ (s : State) (p : Path) (c : Chan) (port : Port) (v : Byte) (pl : Place) (m : Member),
     accepts s p (chanIndex c (portOff port)) 1 [v] pl m →
     (v = 2 → port.val < 2 → exec (.portModeWrite p c port v) s = .next (s.answer abortInvalid)) ∧
     (v ≠ 2 ∨ 2 ≤ port.val →
       ((s.chan c).portState port = 0 → exec (.portModeWrite p c port v) s = .next
         ((s.cput c (portOff port) 1 (w v.toNat)).done pl m (chanIndex c (portOff port)) 1)) ∧
       ((s.chan c).portUp port = false → (s.chan c).portState port ≠ 0 → exec (.portModeWrite p c port v) s = .next
         (((s.portDown c port causeMode).cput c (portOff port) 1 (w v.toNat)).done pl m (chanIndex c (portOff port)) 1)) ∧
       ((s.chan c).portUp port = true → exec (.portModeWrite p c port v) s = .next
         (((s.linkFault c port causeMode).cput c (portOff port) 1 (w v.toNat)).done pl m (chanIndex c (portOff port)) 1)))) ∧
  (∀ (s : State) (c : Chan) (p : Port) (lanes : List TrainingBlock) (skew : Nat), lanes.length = 4 →
     lanes.all blockValid = true →
     (lanes.map (·.lane) = [0, 1, 2, 3] → skew ≤ 16 → ((s.trainStep c p lanes skew).chan c).portState p = 2) ∧
     (∀ b rest, lanes = b :: rest → (lanes.all fun x => x.kind == 2) = true → 15 ≤ ((s.chan c).port p).ts2 →
       (s.chan c).st ≠ .poweredDown → ((s.confirmStep c p lanes).chan c).portState p = 3))

/-- Flits that reach a port in UP, on the board ring in the order sent: an IDLE gives credits, a NAK replays, a bad
CRC is counted and NAKed, DATA out of order is discarded, DATA without credit takes the link down, DATA in order is
accepted. A flit that R82 or R85 forbids (a reserved type, a DATA length of 0 or above 240, DATA of no frame): the
port discards it, discards and NAKs it, or goes DOWN with a cause of R84, and every other channel stays as it is (R1).
Which of the three is open: the model's free choice, log entry 100. -/
def Obligations.FlitReceptionCompletes : Prop :=
  (∀ (s0 s : State) (c : Chan) (p : Port) (f : Flit), s0.chanUp c = true → (s0.chan c).portUp p = true →
     s0.arrive c p f = some s →
     (crc32 (flitBytes f) ≠ f.crc → exec (.flitReceived c p f) s0 = .next
       (((s.modChan c fun ch => ch.setPort p ((s.chan c).port p).wantNak).ccount c (portOff p) 4 1).event c
         { unit := 0x38 + p.val, num := 0x0940, pay := payAt 8 ((s.chan c).port p).rxNext.toNat })) ∧
     (crc32 (flitBytes f) = f.crc →
       let t := s.modChan c fun ch => ch.modPort p fun r => r.takeFields s.tclk f
       (f.type = 0 → exec (.flitReceived c p f) s0 = .next t) ∧
       (f.type = 3 → exec (.flitReceived c p f) s0 = .next
         ((t.modChan c fun ch => ch.modPort p (·.takeNak (BitVec.ofNat 16 (leField f.payload 0 2)))).replay c p)) ∧
       (f.type = 1 → f.length ≠ 0 → f.length.toNat ≤ 240 → f.seq ≠ ((t.chan c).port p).rxNext →
         exec (.flitReceived c p f) s0 = .next (t.modChan c fun ch => ch.setPort p ((t.chan c).port p).wantNak)) ∧
       (f.type = 1 → f.length ≠ 0 → f.length.toNat ≤ 240 → f.seq = ((t.chan c).port p).rxNext →
         ((t.chan c).port p).offered = 0 → exec (.flitReceived c p f) s0 = .next (t.linkFault c p causeCredit)) ∧
       (f.type = 1 → f.length ≠ 0 → f.length.toNat ≤ 240 → f.seq = ((t.chan c).port p).rxNext →
         ((t.chan c).port p).offered ≠ 0 → ((t.chan c).port p).outOfFrame f = false →
         exec (.flitReceived c p f) s0 = .next
           (((t.modChan c fun ch => ch.setPort p { (t.chan c).port p with
             rxNext := ((t.chan c).port p).rxNext + 1, nakked := false, nakDue := false
             offered := ((t.chan c).port p).offered - 1 }).modChan c
               (·.pushCount (0x38 + p.val) 0x0981 t.now)).acceptData c p f)))) ∧
  (∀ (s0 s : State) (c : Chan) (p : Port) (f : Flit), s0.chanUp c = true → (s0.chan c).portUp p = true →
     s0.arrive c p f = some s → crc32 (flitBytes f) = f.crc →
     let t := s.modChan c fun ch => ch.modPort p fun r => r.takeFields s.tclk f
     ((f.type ≠ 0 ∧ f.type ≠ 1 ∧ f.type ≠ 3) ∨ (f.type = 1 ∧ (f.length = 0 ∨ 240 < f.length.toNat)) ∨
       (f.type = 1 ∧ f.seq = ((t.chan c).port p).rxNext ∧ ((t.chan c).port p).offered ≠ 0 ∧
         ((t.chan c).port p).outOfFrame f = true)) →
     ∃ u : State, exec (.flitReceived c p f) s0 = .next u ∧
       (u = t.drawn ∨ u = t.drawn.modChan c (fun ch => ch.modPort p (·.wantNak)) ∨
         ∃ cause : Nat, 1 ≤ cause ∧ cause ≤ 7 ∧ u = t.drawn.drawn.linkFault c p cause))

/-- What an UP port sends, in its order: an IDLE after 4,095 flits, a NAK that is due, a replay, new data under credit
and replay room, else an IDLE; and 2 µs without progress replays. -/
def Obligations.FlitSendingCompletes : Prop :=
  ∀ (s : State) (c : Chan) (p : Port), s.chanUp c = true → (s.chan c).portUp p = true →
    (4095 ≤ ((s.chan c).port p).sinceIdle → exec (.dataFlitSend c p) s = .next
      ((s.sendFlit c p idleFlit).modChan c fun ch => ch.modPort p fun r => { r with sinceIdle := 0 })) ∧
    (((s.chan c).port p).sinceIdle < 4095 →
      (((s.chan c).port p).nakDue = true → exec (.dataFlitSend c p) s = .next
        ((s.modChan c fun ch => ch.setPort p { (s.chan c).port p with nakDue := false }).sendFlit c p
          (nakFlit ((s.chan c).port p).rxNext))) ∧
      (∀ f rest, ((s.chan c).port p).nakDue = false → ((s.chan c).port p).resend = f :: rest →
        exec (.dataFlitSend c p) s = .next (s.resendFlit c p f rest)) ∧
      (∀ d rest pay, ((s.chan c).port p).nakDue = false → ((s.chan c).port p).resend = [] →
        ((s.chan c).port p).txq = d :: rest → 0 < ((s.chan c).port p).credits →
        ((s.chan c).port p).replay.length < 128 → (s.chan c).nextPayload d = some pay →
        exec (.dataFlitSend c p) s = .next (s.sendData c p d rest pay)) ∧
      (∀ d rest, ((s.chan c).port p).nakDue = false → ((s.chan c).port p).resend = [] →
        ((s.chan c).port p).txq = d :: rest →
        (((s.chan c).port p).credits = 0 ∨ 128 ≤ ((s.chan c).port p).replay.length) →
        exec (.dataFlitSend c p) s = .next
          ((s.sendFlit c p idleFlit).modChan c fun ch => ch.modPort p fun r => { r with sinceIdle := 0 })) ∧
      (((s.chan c).port p).nakDue = false → ((s.chan c).port p).resend = [] → ((s.chan c).port p).txq = [] →
        exec (.dataFlitSend c p) s = .next
          ((s.sendFlit c p idleFlit).modChan c fun ch => ch.modPort p fun r => { r with sinceIdle := 0 }))) ∧
    (((s.chan c).port p).replay ≠ [] → ((s.chan c).port p).ackAt + tclkOfUs 2 ≤ s.tclk →
      exec (.replayTimeout c p) s = .next (s.replay c p))

/-- Plan loads and unloads complete. The doorbell, the fetch of a descriptor and its end complete. -/
def Obligations.PlanAndDescriptorCommandsComplete : Prop :=
  (∀ (s : State) (c : Chan),
     (∀ (p : Path) (pl : Place) (m : Member), accepts s p (chanIndex c 0x510) 5 [1] pl m →
       (s.chan c).nat 0x510 6 ≠ loadBusy → (s.chan c).st ≠ .booting →
       ((s.chan c).owner (Fin.ofNat 16 ((s.chan c).nat 0x510 3))).st = .keyed →
       ((s.chan c).plan (Fin.ofNat 16 ((s.chan c).nat 0x510 4))).st = 0 →
       exec (.planLoad p c) s = .next
         ((s.setChan c (({ (s.chan c).setPlan (Fin.ofNat 16 ((s.chan c).nat 0x510 4)) { Plan.reset with
             st := 1, owner := Fin.ofNat 16 ((s.chan c).nat 0x510 3) } with
           loading := some { slot := Fin.ofNat 16 ((s.chan c).nat 0x510 4), off := (s.chan c).nat 0x510 1
                             len := (s.chan c).nat 0x510 2, owner := Fin.ofNat 16 ((s.chan c).nat 0x510 3)
                             image := none } }).put
           0x510 6 (w loadBusy))).done pl m (chanIndex c 0x510) 5)) ∧
     (∀ (facts : ProgramFacts) (r : LoadReq), s.chanUp c = true → (s.chan c).loading = some r → (s.chan c).xtsFault = false →
       let b := (r.image.map (·.1)).getD ((s.chan c).cellarRead c r.owner r.off r.len)
       let code := s.imageCheck c b r.len facts
       exec (.planLoadComplete c facts) s = .next (
         if code ≠ 0 then (s.modChan c fun ch =>
           ({ ch with loading := none }.setPlan r.slot Plan.reset).put 0x510 6 (w code)).event c
             { unit := 0x01, num := 0x0206, pay := payAt 8 r.slot.val ||| payAt 9 code }
         else if r.image = none then s.planLoaded c r b facts
         else (s.planLoaded c r b facts).unloadPlan c r.slot)) ∧
     (∀ (p : Path) (pl : Place) (m : Member), accepts s p (chanIndex c 0x510) 5 [2] pl m →
       (s.chan c).nat 0x510 6 ≠ loadBusy → (s.chan c).st ≠ .booting →
       ((s.chan c).jobs.any fun j => j.desc.plan == Fin.ofNat 16 ((s.chan c).nat 0x510 4)) = false →
       exec (.planUnload p c) s = .next
         ((s.unloadPlan c (Fin.ofNat 16 ((s.chan c).nat 0x510 4))).done pl m (chanIndex c 0x510) 5)) ∧
     (∀ (p : Path) (pl : Place) (m : Member), accepts s p (chanIndex c 0x510) 5 [1] pl m → (s.chan c).st = .booting →
       exec (.planLoad p c) s = .next (s.answer abortConflict))) ∧
  (∀ (s : State) (c : Chan),
     (∀ (view : View) (i : Slot) (v : BitVec 32), s.hostUp c = true →
       ((((s.access view c (slotCopy i 0x110)).chan c).owner i).st ≠ .retiring →
         exec (.jobRingDoorbell view c i v) s = .next ((s.access view c (slotCopy i 0x110)).modChan c
           fun ch => ch.modOwner i (·.doorbell (v.toNat % 4096)))) ∧
       ((((s.access view c (slotCopy i 0x110)).chan c).owner i).st = .retiring →
         exec (.jobRingDoorbell view c i v) s = .next ((s.access view c (slotCopy i 0x110)).modChan c
           fun ch => { ch with host := { ch.host with accessErr := ch.host.accessErr ||| 8 } }))) ∧
     (∀ i : Slot, s.hostUp c = true → (s.chan c).fetching = none → (s.chan c).stopped = false → (s.chan c).st ≠ .booting →
       (s.chan c).nextRing = some i →
       exec (.descriptorFetch c) s = .next (s.setChan c { s.chan c with fetching := some i })) ∧
     (∀ (i : Slot) (b : Bytes), s.chanUp c = true → (s.chan c).fetching = some i →
       exec (.descriptorFetched c (.good b)) s = .next
         (((s.modChan c fun ch => { ch with fetching := none, served := i }).modChan c fun ch => ch.modOwner i fun o =>
           { o with job := { o.job with
             head := BitVec.ofNat 32 ((o.job.head.toNat + 1) % 2 ^ o.job.size.toNat) } }).admitDesc c i b)) ∧
     (∀ i : Slot, s.chanUp c = true → (s.chan c).fetching = some i →
       exec (.descriptorFetched c .failed) s = .next
         (((s.modChan c fun ch => { ch with fetching := none, served := i }).modChan c fun ch => ch.modOwner i fun o =>
           { o with job := { o.job with fault := true } }).raiseIrq c irqRingFault)))

/-- Admission answers in the order of R94: not computing, then a bad descriptor, then no plan of the owner's; a slot
in retirement takes no descriptor (log entry 130). -/
def Obligations.AdmissionOrder : Prop :=
  ∀ (ch : Channel) (i : Slot) (b : Bytes) (now : T64),
    (ch.computing = false → ch.admission i b now = .error rejNotComputing) ∧
    (ch.computing = true → (ch.owner i).st = .retiring → ch.admission i b now = .error rejCancelled) ∧
    (ch.computing = true → (ch.owner i).st ≠ .retiring → descBad b = true →
      ch.admission i b now = .error rejBadDescriptor) ∧
    (ch.computing = true → (ch.owner i).st ≠ .retiring → descBad b = false →
      (ch.plan (descOf b).plan).readyFor i = false → ch.admission i b now = .error rejNoPlan) ∧
    (∀ r, ch.admission i b now = .ok r → ch.computing = true ∧ (ch.plan (descOf b).plan).readyFor i = true ∧
      ch.jobs.length < 64 ∧ (ch.plan (descOf b).plan).floor ≤ ch.admitCeiling ∧ ch.overlaps (r.1, r.2.1) = false)

/-- A job's life: launch, the expiry of its window and reservation, its tiles, its deadline, and its end. -/
def Obligations.JobCommandsComplete : Prop :=
  ∀ (s : State) (c : Chan), s.chanUp c = true →
    (∀ j : Job, (s.chan c).onSafeClock = false → (s.chan c).stopped = false → (s.chan c).runningJob = none →
      (s.chan c).nextDue s.now = some j → exec (.timeLaunch c) s = .next (s.launchDue c j ((j.due s.now).getD 0))) ∧
    (∀ (i : Nat) (j : Job), (s.chan c).jobs[i]? = some j → j.desc.arrival = true → j.running = false → j.arrived = none →
      j.desc.t1.toNat < s.now.toNat → (s.chan c).stopped = false →
      exec (.noInputExpiry c i) s = .next (s.endJob c j statusNoInput)) ∧
    (∀ (i : Nat) (j : Job) (a e : Nat), (s.chan c).jobs[i]? = some j → j.resv = some (a, e) → e ≤ s.now.toNat →
      exec (.reservationExpiry c i) s = .next
        (s.modChan c fun ch => { ch with jobs := ch.jobs.set i { j with resv := none } })) ∧
    (∀ (k : Nat) (work : List TileOp) (j : Job) (x : Tile), (s.chan c).runningJob = some j →
      (s.chan c).slate.find? (·.k == k) = some x → (s.chan c).computes j = true →
      let t := s.drawn.judgeTile c j x (s.freeIn 0 1 == 1)
      let u := t.flow c (x.left.getD work)
      ((t.chan c).stopped = true → exec (.tileRetire c k work) s = .next t) ∧
      ((t.chan c).stopped = false → (u.1.chan c).stillRuns j = false → exec (.tileRetire c k work) s = .next u.1) ∧
      ((t.chan c).stopped = false → (u.1.chan c).stillRuns j = true → u.2 = [] →
        exec (.tileRetire c k work) s = .next (u.1.retire c k)) ∧
      ((t.chan c).stopped = false → (u.1.chan c).stillRuns j = true → u.2 ≠ [] →
        exec (.tileRetire c k work) s = .next (u.1.modChan c (·.keepWork k u.2)))) ∧
    (∀ (k : Nat) (cellarFetch : Bool) (j : Job) (x : Tile), (s.chan c).runningJob = some j →
      (s.chan c).slate.find? (·.k == k) = some x → (s.chan c).stopped = false → x.missed = false →
      x.deadline.toNat < s.now.toNat →
      exec (.tileDeadlineMiss c k cellarFetch) s = .next ((s.missTile c j x (s.breachCause c j cellarFetch)).drawn)) ∧
    (∀ j : Job, (s.chan c).runningJob = some j → (s.chan c).computes j = true → (s.chan c).slate = [] →
      ((s.chan c).plan j.desc.plan).facts.tiles.length ≤ j.issued →
      ((s.chan c).ports.any fun r => r.txq.any fun d => d.job == some j.num) = false →
      exec (.jobDone c) s = .next (s.endJob c j statusDone))

/-- Memory and table faults reach the running job and the channel. A cipher fault disables compute for XTS and
whitening, and leaves trace for GCM. -/
def Obligations.ComputeFaultsComplete : Prop :=
  (∀ (s : State) (c : Chan), s.chanUp c = true →
     (∀ addr : Word, exec (.cellarUncorrectable c addr) s = .next
       ((s.event c { unit := 0x21, num := 0x0701, pay := addr }).failRunning c statusMemoryFail
         fun j => (s.chan c).jobPage j (addr.toNat / pageSize))) ∧
     (∀ n : Fin 2, exec (.stillroomTableFault c n) s = .next
       ((((s.corBits c (0x550 + n.val) 3 stillTableFault).event c
         { unit := 0x18 + n.val, num := 0x0502, pay := payAt 8 n.val
           owner := (s.chan c).runningJob.map (·.owner) }).failRunning c statusMemoryFail
           fun _ => true).disableCompute c reasonStillroom)) ∧
     exec (.hbmFailure c) s = .next (s.disableCompute c reasonHbm)) ∧
  (∀ (s : State) (c : Chan), s.chanUp c = true →
     exec (.cipherFault c 0) s = .next ((((s.event c { unit := 0x42, num := 0x0F03, pay := payAt 8 0 }).modChan c
       fun ch => { ch with xtsFault := true }).disableCompute c reasonXts)) ∧
     exec (.cipherFault c 2) s = .next ((((s.event c { unit := 0x42, num := 0x0F03, pay := payAt 8 2 }).modChan c
       fun ch => { ch with whtFault := true }).disableCompute c reasonWhitening)) ∧
     exec (.cipherFault c 1) s = .next ((((s.event c { unit := 0x42, num := 0x0F03, pay := payAt 8 1 }).changeTraceMode c
       0 0 3).modChan c fun ch => { ch with chute := { ch.chute with gcmFault := true } }).markSaved))

/-- Completions and result blocks reach the ring, and the rings are enabled and disabled. A TAIL written inside the
readable blocks frees them, on each of the three block rings; after one outside them HEAD and TAIL are free values on
block boundaries, the ring being undefined under R1 (the model's choice, log entry 100), and the rest of the owner
stays as it is. -/
def Obligations.ResultRingCommandsComplete : Prop :=
  (∀ (s : State) (c : Chan) (i : Slot),
     (∀ x : Completion, s.chanUp c = true → (s.chan c).completions.find? (·.slot == i) = some x →
       (s.chan c).waits x = false → exec (.completionWrite c i) s = .next (s.setChan c ((s.chan c).writeCompletion s.now s.tclk x))) ∧
     (∀ (b : Block) (rest : List Block), s.hostUp c = true →
       (((s.chan c).owner i).stream .result).sealedQ = b :: rest → (((s.chan c).owner i).ringOf .result).active = true →
       (((s.chan c).owner i).ringOf .result).full = false → (s.chan c).dmaRuns .result i = true →
       (s.chan c).traceAhead = false →
       exec (.resultBlockWritten c i true) s = .next ((s.modChan c (·.wrote .result)).blockDone c .result i b rest) ∧
       exec (.resultBlockWritten c i false) s = .next ((s.modChan c (·.wrote .result)).blockFailed c .result i)) ∧
     (∀ view : View, s.hostUp c = true →
       exec (.resultRingEnable view c i) s = .next ((s.access view c (slotCopy i 0x214)).modChan c
         fun ch => ch.modOwner i (·.enableStream .result false)) ∧
       exec (.resultRingDisable view c i) s = .next (((s.access view c (slotCopy i 0x214)).modChan c
         fun ch => ch.disableStream .result i false).trimStaging c) ∧
       exec (.jobRingEnable view c i) s = .next ((s.access view c (slotCopy i 0x114)).modChan c
         (·.modOwner i fun o => { o with job := o.job.jobEnable })) ∧
       exec (.jobRingDisable view c i) s = .next ((s.access view c (slotCopy i 0x114)).modChan c
         (·.modOwner i fun o => { o with job := { o.job with enable := false } })))) ∧
  (∀ (s : State) (c : Chan) (i : Slot) (view : View) (v : BitVec 32), s.hostUp c = true →
     (let t := s.access view c (slotCopy i 0x310)
      let r := ((t.chan c).owner i).trace
      (r.tailOk (v.toNat / 4096 * 4096) = true →
        exec (.traceRingTailWrite view c i v) s = .next (t.modChan c fun ch =>
          (ch.modOwner i fun o => { o with trace := o.trace.writeTail v }).watchFull t.tclk)) ∧
      (r.tailOk (v.toNat / 4096 * 4096) = false →
        ∃ h x : Nat, exec (.traceRingTailWrite view c i v) s = .next (t.drawn.drawn.modChan c fun ch =>
          (ch.modOwner i fun o => { o with trace := r.astray h x }).watchFull t.tclk))) ∧
     (let t := s.access view c (slotCopy i 0x210)
      let r := ((t.chan c).owner i).ringOf .result
      (r.tailOk (v.toNat / 4096 * 4096) = true →
        exec (.resultRingTailWrite view c i v) s = .next ((t.modChan c fun ch => ch.modOwner i fun o =>
          o.setRing .result (r.writeTail v)).trimStaging c)) ∧
      (r.tailOk (v.toNat / 4096 * 4096) = false →
        ∃ h x : Nat, exec (.resultRingTailWrite view c i v) s = .next ((t.drawn.drawn.modChan c fun ch =>
          ch.modOwner i fun o => o.setRing .result (r.astray h x)).trimStaging c))) ∧
     (let t := s.access view c (slotCopy i 0x410)
      let r := ((t.chan c).owner i).ringOf .decant
      (r.tailOk (v.toNat / 4096 * 4096) = true →
        exec (.decantRingTailWrite view c i v) s = .next ((t.modChan c fun ch => ch.modOwner i fun o =>
          o.setRing .decant (r.writeTail v)).trimStaging c)) ∧
      (r.tailOk (v.toNat / 4096 * 4096) = false →
        ∃ h x : Nat, exec (.decantRingTailWrite view c i v) s = .next ((t.drawn.drawn.modChan c fun ch =>
          ch.modOwner i fun o => o.setRing .decant (r.astray h x)).trimStaging c))))

/-- The Observatory's power and the trace mode commit; a mode that its own checks refuse changes nothing. The Chute
merges, stamps and flushes. -/
def Obligations.TraceCommandsComplete : Prop :=
  (∀ (s : State) (p : Path) (c : Chan) (v : Byte) (pl : Place) (m : Member),
     (accepts s p (chanIndex c 0x300) 1 [v] pl m → exec (.observatoryPowerWrite p c v) s = .next
       ((s.powerObservatory c (v.toNat != 0)).done pl m (chanIndex c 0x300) 1)) ∧
     (accepts s p (chanIndex c 0x300) 2 [v] pl m → (s.chan c).traceModeCheck v.toNat = 0 →
       exec (.traceModeWrite p c v) s = .next ((s.changeTraceMode c v.toNat 0 3 true).done pl m (chanIndex c 0x300) 2)) ∧
     (accepts s p (chanIndex c 0x300) 2 [v] pl m → (s.chan c).traceModeCheck v.toNat ≠ 0 →
       exec (.traceModeWrite p c v) s = .next (s.answer ((s.chan c).traceModeCheck v.toNat)))) ∧
  (∀ (s : State) (c : Chan), s.chanUp c = true →
     exec (.traceRecordMerge c) s = .next (s.modChan c
       fun ch => (ch.mergeOne s.now s.tclk (some s.now)).watchFull s.tclk) ∧
     (s.periodicDue c = true → exec (.periodicTimestamp c) s = .next (s.modChan c fun ch =>
       ({ ch with chute := { ch.chute with periodicAt := s.tclk } }).periodic s.now
         (BitVec.ofNat 64 (s.now.toNat / span28 * span28)) s.tclk)) ∧
     (∀ (i : Slot), (s.chan c).flushDue s.tclk i false = true →
       exec (.flushInterval c i false) s = .next (s.modChan c fun ch => ch.sealTrace s.now i)) ∧
     (∀ (i : Slot), (s.chan c).flushDue s.tclk i true = true →
       exec (.flushInterval c i true) s = .next (s.modChan c fun ch => ch.sealStream .decant i)) ∧
     exec (.stagingParityError c) s = .next (s.modChan c fun ch =>
       ((allSlots.foldl (fun ch i => ch.loseStaged s.now i) ch).orBits 0x300 6 8).watchFull s.tclk) ∧
     (∀ (f : Slot) (t0 : Nat), (s.chan c).faithful = some f → (s.chan c).chute.fullSince = some t0 →
       ((s.chan c).owner f).trace.full = true → ((s.chan c).owner f).trace.active = true →
       t0 + tclkOfMs ((s.chan c).nat 0x300 9) < s.tclk →
       exec (.faithfulTimeout c) s = .next (s.abandonFaithful c f)) ∧
     (∀ n : Nat, (s.chan c).traceMode = 1 → n ≠ 0 → ∃ t : State, exec (.traceDisturbed c n) s = .next t ∧
       (t.chan c).chute.locked = true ∧ bitOf ((t.chan c).get 0x300 6) 1 = true))

/-- The trace ring's commands of both views, and its blocks. -/
def Obligations.TraceRingCommandsComplete : Prop :=
  ∀ (s : State) (c : Chan) (i : Slot), s.hostUp c = true →
    (∀ (view : View) (irq : Bool),
      let t := s.access view c (slotCopy i 0x314)
      exec (.traceRingFlush view c i) s = .next
        (t.modChan c fun ch => if (ch.owner i).trace.routing then ch.sealTrace t.now i else ch) ∧
      exec (.traceRingEnable view c i irq) s = .next (t.modChan c fun ch => ch.modOwner i fun o =>
        { o with
          trace := o.trace.enableWrite o.keyed irq
          lost := if o.trace.enable then o.lost else 0
          ts := if o.trace.enable then o.ts else { o.ts with silent := none, gap := none, lastT := t.now } }) ∧
      (∃ u : State, exec (.traceRingDisable view c i irq) s = .next u ∧ ((u.chan c).owner i).trace.enable = false ∧
        ((u.chan c).owner i).ts.silent = none)) ∧
    (∀ (b : Block) (rest : List Block), ((s.chan c).owner i).ts.sealedQ = b :: rest →
      ((s.chan c).owner i).trace.active = true → ((s.chan c).owner i).trace.full = false → (s.chan c).dmaRuns .trace i = true →
      exec (.traceBlockWritten c i true) s = .next ((s.modChan c (·.wrote .trace)).traceBlockDone c i b rest) ∧
      exec (.traceBlockWritten c i false) s = .next ((s.modChan c (·.wrote .trace)).traceBlockFailed c i)) ∧
    (∀ (b : Block) (rest : List Block) (ok : Bool), ((s.chan c).owner i).ts.sealedQ = b :: rest →
      ((s.chan c).owner i).trace.full = true → exec (.traceBlockWritten c i ok) s = .next s)

/-- Counter writes commit; a number that the unit cannot count is refused with VALUE_INVALID. Counts land, gathers are
taken, and readings are kept. -/
def Obligations.CounterCommandsComplete : Prop :=
  (∀ (s : State) (p : Path) (c : Chan) (u : Byte) (i : Fin 8) (pl : Place) (m : Member),
     (∀ v : BitVec 16, accepts s p (chanIndex c (0x240 + u.toNat)) (1 + i.val) (leBytes 2 v.toNat) pl m →
       (selectable u.toNat (w v.toNat).toNat = true → exec (.counterSelectWrite p c u i v) s = .next
         ((counterSelectCommit c u.toNat i.val (w v.toNat) s).2.done pl m (chanIndex c (0x240 + u.toNat)) (1 + i.val)) ∧
         let t := (counterSelectCommit c u.toNat i.val (w v.toNat) s).2
         t.cget c (0x240 + u.toNat) (1 + i.val) = w v.toNat ∧ t.cget c (0x240 + u.toNat) (0x11 + i.val) = 0 ∧
         bitOf (t.cget c (0x240 + u.toNat) 0x0A) i.val = false) ∧
       (selectable u.toNat (w v.toNat).toNat = false →
         exec (.counterSelectWrite p c u i v) s = .next (s.answer abortInvalid))) ∧
     (∀ v : Word, accepts s p (chanIndex c (0x240 + u.toNat)) (0x11 + i.val) (leBytes 8 v.toNat) pl m →
       exec (.counterPresetWrite p c u i v) s = .next ((s.modChan c fun ch =>
         (ch.noteBefore s.tclk (0x240 + u.toNat) (0x11 + i.val) (w (wrap48 - 1))).put (0x240 + u.toNat) (0x11 + i.val)
           v).done pl m (chanIndex c (0x240 + u.toNat)) (0x11 + i.val))) ∧
     (∀ v : Byte, accepts s p (chanIndex c (0x240 + u.toNat)) 9 [v] pl m →
       exec (.counterEnableWrite p c u v) s = .next
         ((s.cput c (0x240 + u.toNat) 9 (w v.toNat)).done pl m (chanIndex c (0x240 + u.toNat)) 9))) ∧
  (∀ (s : State) (c : Chan), s.chanUp c = true →
     (∀ (u : Byte) (num : BitVec 16) (n : Nat), broughtIn u.toNat num.toNat = true → n ≠ 0 →
       (s.chan c).haltedUnit u.toNat = false →
       exec (.countArrival c (some (u, num, n))) s = .next (s.land c u.toNat num.toNat n)) ∧
     (∀ it rest, (s.chan c).countQ = it :: rest → exec (.countArrival c none) s = .next
       ((s.modChan c fun ch => { ch with countQ := rest }).landItem c it)) ∧
     (s.gatherDue c = true → let t := s.modChan c fun ch => { ch with st0 := { ch.st0 with gatherAt := s.tclk } }
       ((t.chan c).chute.tally.any (fun r => r.type == 5 && !bitOf r.payload 57) = true →
         exec (.gather c) s = .next (t.ccount c 0x200 5 1)) ∧
       ((t.chan c).chute.tally.any (fun r => r.type == 5 && !bitOf r.payload 57) = false →
         exec (.gather c) s = .next ((t.landDue c).modChan c fun ch => if ch.tracing then
           (ch.snapshots (ch.countersAt (t.landDue c).tclk) (t.landDue c).now (t.landDue c).time.epoch false).foldl
             Channel.hand ch
         else ch))) ∧
     (∀ uj : Nat, bitOf (s.cget c 0x203 0x0B) 0 = false → exec (.energyUpdate c uj) s = .next
       ((s.ccount c 0x203 1 uj 64).cput c 0x203 9 s.now)) ∧
     (∀ uj : Nat, bitOf (s.cget c 0x203 0x0B) 0 = true → exec (.energyUpdate c uj) s = .next s))

/-- Stocktake's triggers and releases, by BAR0 and by the dictionary. -/
def Obligations.StocktakeCommandsComplete : Prop :=
  ∀ (s : State) (c : Chan),
    (s.hostUp c = true → exec (.stocktakeTrigger .ctrl c) s = .next ((s.access .bar0 c 0x18).registerTrigger c) ∧
      exec (.stocktakeRelease .ctrl c) s = .next ((s.access .bar0 c 0x18).modChan c (·.releaseStocktake))) ∧
    (∀ (p : Path) (pl : Place) (m : Member),
      (accepts s p (chanIndex c 0x202) 4 [1] pl m → exec (.stocktakeTrigger (.dict p) c) s = .next
        ((s.registerTrigger c).done pl m (chanIndex c 0x202) 4)) ∧
      (accepts s p (chanIndex c 0x202) 5 [1] pl m → exec (.stocktakeRelease (.dict p) c) s = .next
        ((s.modChan c (·.releaseStocktake)).done pl m (chanIndex c 0x202) 5)) ∧
      (∀ v : Byte, accepts s p (chanIndex c 0x202) 1 [v] pl m → exec (.triggerMaskWrite p c v) s = .next
        ((s.modChan c fun ch => (ch.put 0x202 1 (w v.toNat)).maskMoved).done pl m (chanIndex c 0x202) 1)) ∧
      (∀ v : T64, accepts s p (chanIndex c 0x202) 3 (leBytes 8 v.toNat) pl m →
        ((s.chan c).observed = true → exec (.stocktakeT64Arm p c v) s = .next
          ((s.modChan c (·.armT64 s.now v)).done pl m (chanIndex c 0x202) 3)) ∧
        ((s.chan c).observed = false → exec (.stocktakeT64Arm p c v) s = .next (s.answer abortConflict)))) ∧
    (s.chanUp c = true → (s.chan c).st0.t64Armed = true → ((s.chan c).get 0x202 3).toNat ≤ s.now.toNat →
      let t := s.setChan c { s.chan c with st0 := { (s.chan c).st0 with
        t64Armed := false, late := (s.chan c).st0.late || (s.chan c).st0.t64Late, t64Late := false } }
      exec (.stocktakeT64Fire c) s = .next (if (t.chan c).mayFreezeAt then t.stocktake c 4 0 else t))

/-- The SYNC pin: edges, recognition of a stop, the end of its own pulse and of the holdoff, and the module's freezes.
-/
def Obligations.SyncCommandsComplete : Prop :=
  ∀ s : State, s.live = true →
    (s.pins.holdoffEnd ≠ none → exec .syncInRise s = .next ({ s.mcount 0x4001 4 1 with
      pins := { s.pins with syncRise := some s.tclk, syncStop := false, syncIgnored := true } })) ∧
    (s.pins.holdoffEnd = none → ∃ t : State, exec .syncInRise s = .next t ∧ t.pins.syncRise = some s.tclk ∧
      t.pins.syncStop = false ∧ t.pins.syncIgnored = false) ∧
    (s.pins.syncRise ≠ none → ∃ t : State, exec .syncInFall s = .next t ∧ t.pins.syncRise = none ∧
      t.pins.syncStop = false ∧ t.pins.syncIgnored = false) ∧
    (∀ t0 : Nat, s.pins.syncRise = some t0 → s.pins.syncStop = false → s.pins.syncIgnored = false → t0 + 24 ≤ s.tclk →
      exec .syncStopRecognised s = .next s.syncStop) ∧
    (∀ e : Nat, s.pins.holdoffEnd = some e → e ≤ s.tclk →
      exec .syncHoldoffEnd s = .next { s with pins := { s.pins with holdoffEnd := none } }) ∧
    (∀ e : Nat, s.pins.outEnd = some e → e ≤ s.tclk →
      exec .syncOutPulseEnd s = .next ({ s with pins := { s.pins with outEnd := none } }.syncOut false)) ∧
    (∀ (p : Path) (v : T64) (pl : Place) (m : Member), accepts s p 0x4010 1 (leBytes 8 v.toNat) pl m →
      (v.toNat < s.now.toNat + 1000000 → exec (.moduleFreezeTimeWrite p v) s = .next (s.answer abortRange)) ∧
      (s.now.toNat + 1000000 ≤ v.toNat → exec (.moduleFreezeTimeWrite p v) s = .next
        (((s.mput 0x4010 1 v).eachChan fun s c =>
          if (s.chan c).observed && (s.chan c).st != .poweredDown then
            (s.modChan c fun ch => ((ch.armT64 s.now v).orBits 0x202 1 8).maskMoved).markSaved
          else s).done pl m 0x4010 1))) ∧
    (∀ (p : Path) (pl : Place) (m : Member), accepts s p 0x4010 3 [1] pl m →
      let at_ := max s.tclk s.time.nextSlot
      let t := s.eachChan fun s c => s.modChan c (·.pendFreeze at_ true)
      (t.mon 0x4001 1 = false → exec (.moduleFreezeNow p) s = .next
        ((t.eachChan State.landFreezes).landPulse.done pl m 0x4010 3)) ∧
      (t.mon 0x4001 1 = true → exec (.moduleFreezeNow p) s = .next
        ((({ t with pins := { t.pins with outStart := some (at_, 10) } }.eachChan State.landFreezes).landPulse).done pl m
          0x4010 3)))

/-- Stops and releases by BAR0, by the dictionary and for the whole module. A stop's own events: STOP_N, the armed
time, the armed event, the halt and the drain. -/
def Obligations.StopCommandsComplete : Prop :=
  (∀ (s : State) (c : Chan),
     (s.hostUp c = true → exec (.stopCtrlStop c) s = .next ((s.access .bar0 c 0x10).requestStop c 1)) ∧
     (s.hostUp c = true → ((s.access .bar0 c 0x10).chan c).mayRelease = true →
       exec (.stopCtrlRelease c) s = .next ((s.access .bar0 c 0x10).releaseStop c)) ∧
     (s.hostUp c = true → ((s.access .bar0 c 0x10).chan c).mayRelease = false →
       exec (.stopCtrlRelease c) s = .next (s.access .bar0 c 0x10)) ∧
     (∀ (p : Path) (pl : Place) (m : Member),
       (accepts s p (chanIndex c 0x400) 1 [1] pl m → exec (.channelStopCommand p c) s = .next
         ((s.requestStop c 2).done pl m (chanIndex c 0x400) 1)) ∧
       (accepts s p (chanIndex c 0x400) 1 [2] pl m → (s.chan c).mayRelease = true →
         exec (.channelReleaseCommand p c) s = .next ((s.releaseStop c).done pl m (chanIndex c 0x400) 1)) ∧
       (accepts s p (chanIndex c 0x400) 1 [2] pl m → (s.chan c).mayRelease = false →
         exec (.channelReleaseCommand p c) s = .next (s.answer abortConflict)) ∧
       (accepts s p 0x4020 2 [1] pl m → exec (.moduleStopCommand p) s = .next
         ((moduleStopCommit 1 s).2.done pl m 0x4020 2)) ∧
       (accepts s p 0x4020 2 [2] pl m → (∀ c : Chan, (s.chan c).stop.st = 2 → (s.chan c).mayRelease = true) →
         exec (.moduleReleaseCommand p) s = .next
           ((s.eachChan fun s c => if (s.chan c).mayRelease then s.releaseStop c else s).done pl m 0x4020 2)) ∧
       (accepts s p 0x4020 2 [2] pl m → (∃ c : Chan, (s.chan c).stop.st = 2 ∧ (s.chan c).mayRelease = false) →
         exec (.moduleReleaseCommand p) s = .next (s.answer abortConflict)) ∧
       (∀ v : T64, accepts s p (chanIndex c 0x400) 9 (leBytes 8 v.toNat) pl m → exec (.stopTimeArm p c v) s = .next
         ((s.modChan c fun ch => { ch.put 0x400 9 v with stop := { (ch.put 0x400 9 v).stop with
           timeArmed := true, timeLate := decide (v.toNat ≤ s.now.toNat) } }).done pl m (chanIndex c 0x400) 9)))) ∧
  (∀ s : State,
     (s.live = true → exec .stopNFall s = .next s.stopNEdge) ∧
     (∀ t : Nat, s.reeveUp = true → s.pins.stopNEnd = some t → t ≤ s.tclk → exec .stopNPulseEnd s = .next
       ({ s with pins := { s.pins with stopNEnd := none } }.emit (.pin 0 0 0 true))) ∧
     (∀ t : Nat, s.reeveUp = true → s.pins.stopNLow = some t → t + tclkOfUs 10 < s.tclk →
       exec .stopNStuck s = .next { s.morBits 0x4020 4 1 with pins := { s.pins with stopNStuck := true } }) ∧
     ∀ c : Chan, s.chanUp c = true →
       ((s.chan c).stop.timeArmed = true → ((s.chan c).get 0x400 9).toNat ≤ s.now.toNat →
         let late := fun (ch : Channel) => if (s.chan c).stop.timeLate then ch.orBits 0x400 0x0B 8 else ch
         let t := s.setChan c { late (s.chan c) with
           stop := { (late (s.chan c)).stop with timeArmed := false, timeLate := false } }
         exec (.stopTimeFire c) s = .next (if bitOf ((s.chan c).get 0x400 7) 2 then t.requestStop c 8 else t)) ∧
       ((s.chan c).stop.eventHit = true → exec (.stopEventMatch c) s = .next
         ((s.modChan c fun ch => { ch with stop := { ch.stop with eventHit := false } }).requestStop c 7)) ∧
       ((s.chan c).stop.st = 2 → (s.chan c).dmaHalted = true → exec (.dmaDrained c) s = .next
         (s.setChan c { s.chan c with stop := { (s.chan c).stop with drained := true } })) ∧
       ((s.chan c).stop.st = 1 → ((s.halted c).chan c).dbg.hang = none →
         exec (.coreHalted c) s = .next (s.halted c)))

/-- Hangs: their detection, the missed heartbeat and the dump's end. -/
def Obligations.HangCommandsComplete : Prop :=
  ∀ (s : State) (c : Chan),
    (∀ (cause : Fin 6) (unit : Byte), s.chanUp c = true → cause ≠ 0 → cause ≠ 5 → isChannelUnit unit.toNat = true →
      (s.chan c).dumping = false → (s.chan c).watched = true → s.hangHolds c cause.val = true →
      exec (.hangDetected c cause unit) s = .next (s.declareHang c cause.val unit)) ∧
    (∀ (cause : Fin 6) (unit : Byte), s.chanUp c = true → cause ≠ 0 → cause ≠ 5 → isChannelUnit unit.toNat = true →
      (s.chan c).dumping = true → exec (.hangDetected c cause unit) s = .next (s.countHang c cause.val)) ∧
    (s.reeveUp = true → (s.chan c).dumping = false → (s.chan c).watched = true →
      exec (.heartbeatMissed c) s = .next
        (((((s.requestStop c 9).countHang c 5).halted c).modChan c
          (·.setHang (some (s.hangRecord c 5 0x40)))).warmReset c)) ∧
    (s.reeveUp = true → (s.chan c).dumping = true → exec (.heartbeatMissed c) s = .next (s.countHang c 5)) ∧
    (∀ (h : Hang) (page : Nat), s.chanUp c = true → (s.chan c).dbg.hang = some h → (s.chan c).dbg.area = some page →
      h.dumping = true → h.cause ≠ 5 → (s.chan c).stop.st = 2 → (s.chan c).xtsFault = false →
      exec (.hangDumpComplete c false) s = .next (((s.storeDump c h page).raiseIrq c irqHang).recover c) ∧
      exec (.hangDumpComplete c true) s = .next (((s.abandonDump c).raiseIrq c irqHang).recover c))

/-- The test port, the Seal and the Daybook. Five TCK edges with TMS high reach Test-Logic-Reset from every state of
the test port (R216). -/
def Obligations.ScanAndSealCommandsComplete : Prop :=
  (∀ (s : State) (c : Chan),
     (∀ op : Byte, s.chanUp c = true → (s.chan c).tap.trst = false → exec (.tapInstructionUpdate c op) s = .next
       (s.modChan c (·.selectInstruction op))) ∧
     (s.chanUp c = true → (s.chan c).tap.scanActive = true → exec (.scanEnd c) s = .next
       (s.setChan c { s.chan c with tap := { (s.chan c).tap.judge with ctl := .runTestIdle } })) ∧
     (s.chanUp c = true →
       exec (.tapReset c false) s = .next
         (s.modChan c fun ch => { ch with tap := { ch.tap.reset_ with trst := true } }) ∧
       exec (.tapReset c true) s = .next
         (s.modChan c fun ch => { ch with tap := { ch.tap with trst := false } })) ∧
     (∀ tms tdi : Bool, s.chanUp c = true →
       ((s.chan c).tap.trst = true → exec (.scanShift c tms tdi) s = .next s) ∧
       ((s.chan c).tap.trst = false → exec (.scanShift c tms tdi) s = .next
         ((s.tapEdge c tdi).modChan c (·.tapMove ((s.chan c).tap.ctl.next tms))))) ∧
     (s.chanUp c = true → (s.chan c).tap.trst = false → (s.chan c).tap.ctl = .shiftDr → (s.chan c).tap.ir = opScanOut →
       ∀ tdi : Bool, (s.tapEdge c tdi).out = s.out ++ [.tdo c ((s.chan c).chainBit c (s.chan c).tap.rot)] ∧
         ((s.tapEdge c tdi).chan c).tap.shifts = (s.chan c).tap.shifts + 1) ∧
     (∀ (p : Path) (pl : Place) (m : Member),
       (∀ v : BitVec 16, accepts s p (chanIndex c 0x401) 2 (leBytes 2 v.toNat) pl m →
         exec (.sealGuardWrite p c v) s = .next ((s.modChan c fun ch =>
           { ch with tap := { ch.tap with guardEnd := some (s.tclk + tclkOfS 1) } }).done pl m (chanIndex c 0x401) 2)) ∧
       (∀ e : Nat, accepts s p (chanIndex c 0x401) 3 [1] pl m → (s.chan c).tap.guardEnd = some e → s.tclk ≤ e →
         (s.chan c).tap.scanActive = false → s.reeve.serviceKey ≠ none → (s.chan c).tap.fuse = 0 →
         exec (.sealBlow p c) s = .next ((s.modChan c fun ch => { ch with tap := { (s.chan c).tap.leaveScan with
           fuse := 1, guardEnd := none, senseAt := some (s.tclk + tclkOfMs 50) } }).done pl m (chanIndex c 0x401) 3)) ∧
       (accepts s p (chanIndex c 0x401) 3 [1] pl m → (s.chan c).tap.guardEnd = none →
         exec (.sealBlow p c) s = .next (s.answer abortConflict)) ∧
       (accepts s p (chanIndex c 0x402) 5 [1] pl m → exec (.daybookClear p c) s = .next
         ((s.modChan c (·.clearDaybooks)).done pl m (chanIndex c 0x402) 5))) ∧
     (∀ t : Nat, s.chanUp c = true → (s.chan c).tap.senseAt = some t → t ≤ s.tclk →
       exec (.sealSense c true) s = .next (s.setChan c { s.chan c with
         tap := { (s.chan c).tap with fuse := 2, senseAt := none } }))) ∧
  (∀ x : TapSt, TapSt.next (TapSt.next (TapSt.next (TapSt.next (TapSt.next x true) true) true) true) true = .testLogicReset)

/-- Points arm and disarm, captures are taken and drained, and the decant ring works as the trace ring does. -/
def Obligations.DecantCommandsComplete : Prop :=
  ∀ (s : State) (c : Chan) (i : Slot),
    (s.hostUp c = true → ∀ (view : View) (pt : Fin 8) (v : BitVec 32),
      let off := match view with | .bar0 => 0x800 + 0x20 * pt.val | .window => 0
      exec (.decantArm view c i pt v) s = .next ((s.access view c off).modChan c fun ch => ch.armPoint view i pt v) ∧
      exec (.decantDisarm view c i pt v) s = .next
        ((s.access view c off).modChan c fun ch => ch.disarmPoint view i pt v)) ∧
    (∀ (pt : Fin 8) (j : Job), s.chanUp c = true → (s.chan c).stopped = false →
      ((s.chan c).jobs.find? fun j => j.running && ((s.chan c).point pt).matchesJob j && !j.captured.contains pt) =
        some j → (s.chan c).windowDone ((s.chan c).point pt) j = true →
      exec (.decantCapture c pt) s = .next (s.capture c pt j 0)) ∧
    (∀ (l : Fin 2) (cap : Capture) (bad : Bool), s.chanUp c = true → (s.chan c).dbg.caps[l.val]? = some (some cap) →
      ((s.chan c).owner cap.owner).decant.routing = true → ((s.chan c).owner cap.owner).decant.full = false →
      (s.chan c).stopped = false → (s.chan c).decStaged + 64 + cap.data.length ≤ 1048576 →
      exec (.decantDrain c l bad) s = .next (s.setChan c ((s.chan c).drain s.now s.tclk l cap bad))) ∧
    (s.hostUp c = true → ∀ (view : View) (irq : Bool),
      let t := s.access view c (slotCopy i 0x414)
      exec (.decantRingEnable view c i irq) s = .next
        (t.modChan c fun ch => ch.modOwner i (·.enableStream .decant irq)) ∧
      exec (.decantRingDisable view c i irq) s = .next (t.modChan c fun ch => ch.disableStream .decant i irq) ∧
      exec (.decantRingFlush view c i) s = .next
        (t.modChan c fun ch => if (ch.owner i).decant.routing then ch.sealStream .decant i else ch)) ∧
    (∀ (b : Block) (rest : List Block), s.hostUp c = true →
      (((s.chan c).owner i).stream .decant).sealedQ = b :: rest → (((s.chan c).owner i).ringOf .decant).active = true →
      (((s.chan c).owner i).ringOf .decant).full = false → (s.chan c).dmaRuns .decant i = true →
      (s.chan c).traceAhead = false →
      exec (.decantBlockWritten c i true) s = .next ((s.modChan c (·.wrote .decant)).blockDone c .decant i b rest) ∧
      exec (.decantBlockWritten c i false) s = .next ((s.modChan c (·.wrote .decant)).blockFailed c .decant i))

/-- Key blobs, destruction, retirement and the loss of a slot. CELLAR_TAG and the BAR4 aperture. -/
def Obligations.KeyAndCellarCommandsComplete : Prop :=
  (∀ (s : State) (c : Chan) (i : Slot),
     (∀ (p : Path) (blob : Bytes) (pl : Place) (m : Member) (k : BitVec 256) (gen : BitVec 32), s.pathUp p = true →
       s.checkAccess p (chanIndex c (keyOff i)) 2 = .ok (pl, m) →
       checkBlob { channel := c.val, slot := i.val
                   busy := ((s.chan c).owner i).st == .retiring || (s.chan c).install.isSome
                   floor := (s.chan c).nat 0x600 2 } blob = .ok (k, gen) →
       exec (.keyBlobWrite p c i blob) s = .next
         ((s.acceptBlob c i k gen).done pl m (chanIndex c (keyOff i)) 2)) ∧
     (∀ (p : Path) (blob : Bytes) (pl : Place) (m : Member) (k : BitVec 256) (gen : BitVec 32), s.pathUp p = true →
       s.checkAccess p 0x4040 4 = .ok (pl, m) →
       checkBlob { channel := 0xFF, slot := 0xFF, busy := false, floor := s.mnat 0x4040 6 } blob = .ok (k, gen) →
       ∃ t : State, exec (.serviceKeyBlobWrite p blob) s = .next (t.done pl m 0x4040 4) ∧
         t.reeve.serviceKey = some k ∧ t.reeve.serviceGen = gen) ∧
     (∀ (p : Path) (pl : Place) (m : Member), accepts s p (chanIndex c (keyOff i)) 5 [1] pl m →
       (((s.chan c).owner i).st = .keyed → exec (.keyDestroy p c i) s = .next
         ((s.startRetirement c i).done pl m (chanIndex c (keyOff i)) 5)) ∧
       (((s.chan c).owner i).st ≠ .keyed → exec (.keyDestroy p c i) s = .next
         (s.done pl m (chanIndex c (keyOff i)) 5))) ∧
     (∀ k, s.chanUp c = true → (s.chan c).install = some i → ((s.chan c).owner i).pendKey = some k →
       exec (.keyInstalled c) s = .next (((s.modChan c (·.installKey c i k)).event c
         { unit := 0x42, num := 0x0F00, pay := payAt 8 i.val }).raiseIrq c irqKey)) ∧
     (s.chanUp c = true → ((s.chan c).owner i).st = .retiring → (s.chan c).openConditions i = 0 → (s.chan c).fetching ≠ some i →
       ((s.chan c).owner i).pendKey = none →
       exec (.retirementComplete c i) s = .next (s.dropKey c i)) ∧
     (s.chanUp c = true → ((s.chan c).owner i).st = .retiring → (s.chan c).openConditions i = 0 → (s.chan c).fetching ≠ some i →
       ((s.chan c).owner i).pendKey ≠ none → (s.chan c).install = none →
       exec (.retirementComplete c i) s = .next
         ((s.dropKey c i).modChan c fun ch => { ch with install := some i })) ∧
     (s.chanUp c = true → ((s.chan c).owner i).keyed = true → exec (.keySlotParityError c i) s = .next
       (((((s.modChan c (·.disarmOwner i)).endJobs c (fun j => j.owner == i) statusMemoryFail).modChan c
         fun ch => (ch.discardStaged i).modOwner i fun o => { o with pendKey := none }).dropKey c i)))) ∧
  (∀ (s : State) (c : Chan),
     (∀ v : BitVec 32, s.hostUp c = true → exec (.cellarTagGo c v) s = .next
       ((s.access .bar0 c 0x58).modChan c (·.writeTagCmd v.toNat))) ∧
     (∀ first count tag, s.chanUp c = true → (s.chan c).tagging = some (first, count, tag) →
       exec (.cellarTagDone c) s = .next
         (s.setChan c ({ (s.chan c).tagRun first count tag with tagging := none }))) ∧
     (∀ (addr : Nat) (data : Bytes), s.hostUp c = true → exec (.bar4Write c addr data) s = .next
       ((s.bar4Access c addr true).modChan c (·.bar4Write c addr data))) ∧
     (∀ (addr n : Nat), s.hostUp c = true → ∃ (t : State) (b : Bytes), exec (.bar4Read c addr n) s = .next t ∧
       t.out = s.out ++ [.bar4 c b] ∧ b = ((s.bar4Access c addr false).chan c).bar4Read c addr n
         (s.bar4Access c addr false).free) ∧
     (∀ (addr n : Nat), s.hostUp c = false → s.endpointUp c = true →
       exec (.bar4Read c addr n) s = .next (s.emit (.bar4 c (ones n)))))

/-- Resets and links: a function reset by each cause, readiness, PERST_N, the upstream and the internal links. -/
def Obligations.ResetAndLinkCommandsComplete : Prop :=
  ∀ s : State,
    (∀ (c : Chan) (cause : ResetCause), s.live = true → s.perst = false → s.upLink = true →
      (s.chan c).host.linkDown = false →
      exec (.functionReset c cause) s = .next (s.functionReset c (resetCode cause))) ∧
    (∀ c : Chan, s.live = true → s.perst = false → (s.chan c).host.ready = false → (s.chan c).host.warmWaits = false →
      exec (.functionReady c) s = .next
        (s.modChan c fun ch => { ch with host := { ch.host with ready := true, warmWaits := false } })) ∧
    (∀ c : Chan, s.live = true → s.perst = false → (s.chan c).host.ready = false → (s.chan c).host.warmWaits = true →
      exec (.functionReady c) s = .next ((s.modChan c fun ch =>
        { ch with host := { ch.host with ready := true, warmWaits := false } }).warmIf c)) ∧
    (s.perst = false → s.live = true → exec .perstNAssert s = .next
      ({ s with perst := true, upLink := false } : State).resetAll) ∧
    (s.perst = true → exec .perstNDeassert s = .next { s with perst := false, upLink := true }) ∧
    (s.live = true → s.upLink = true → exec .upstreamLinkDown s = .next
      ((({ s with upLink := false } : State).moduleEvent { unit := 0xF1, num := 0x1100 }).resetAll)) ∧
    (∀ width speed : Byte, s.live = true → s.upLink = false → s.perst = false →
      exec (.upstreamLinkUp width speed) s = .next (({ s with upLink := true } : State).moduleEvent
        { unit := 0xF1, num := 0x1101, pay := payAt 8 width.toNat ||| payAt 9 speed.toNat })) ∧
    (∀ c : Chan, s.live = true → exec (.internalLinkDown c) s = .next
      (s.modChan c fun ch => { ch with host := { ch.host with linkDown := true } })) ∧
    (∀ c : Chan, s.live = true → (s.chan c).host.linkDown = true → exec (.internalLinkUp c) s = .next
      ((s.modChan c fun ch => { ch with host := { ch.host with linkDown := false } }).functionReset c 2))

/-- Registers of both views are read and written, and the interrupt enable: a read of the low half of a pair latches
the high one (R6); a write takes its register's effect, and one of another size or alignment sets PARTIAL (R277). -/
def Obligations.RegisterCommandsComplete : Prop :=
  ∀ (s : State) (c : Chan),
    (∀ (view : View) (i : Slot) (off size : Nat), s.endpointUp c = true →
      let r := s.access view c off false
      let o := off / 4 * 4
      exec (.pairLoRead view c i off size) s = .next (r.readSized view c i off size) ∧
      (size = 8 → off % 8 = 0 → (r.chan c).st ≠ .poweredDown → pairLo view off = true →
        (r.readSized view c i off size).out = r.out ++ [.readPair c (r.regWord view c i (off + 4) ++ r.regWord view c i off)] ∧
        ((r.readSized view c i off size).chan c).host.latches = (r.chan c).host.latches) ∧
      (size = 8 → off % 8 = 0 → pairLo view off = false →
        r.readSized view c i off size = (r.readReg view c i off).readReg view c i (off + 4)) ∧
      (¬(size = 8 ∧ off % 8 = 0) → r.readSized view c i off size = r.readReg view c i off) ∧
      ((r.chan c).st ≠ .poweredDown → pairLo view o = true →
        (r.readReg view c i off).out = r.out ++ [.readReg c (r.regWord view c i o)] ∧
        (((r.readReg view c i off).chan c).host.latches.find? (·.1 == pairKey view i o)).map (·.2) =
          some (r.regWord view c i (o + 4)))) ∧
    (∀ v : BitVec 32, s.hostUp c = true → exec (.irqEnableWrite c v) s = .next
      ((s.access .bar0 c 0x44).writeIrqEnable c v.toNat) ∧
      (((s.access .bar0 c 0x44).writeIrqEnable c v.toNat).chan c).host.irqEnable = v.setWidth 7) ∧
    (∀ (p : Path) (idx sub : Nat) (data : Bytes), s.pathUp p = true →
      exec (.registerWrite (.dict p idx sub data)) s = .next (((s.dictWrite p idx sub data).2.answer
        (s.dictWrite p idx sub data).1).afterWrite idx sub data (s.dictWrite p idx sub data).1)) ∧
    (∀ (p : Path) (idx sub : Nat) (data : Bytes) (pl : Place) (m : Member), accepts s p idx sub data pl m →
      placeOf idx = some pl → pl.member sub = some m → isBlob pl sub = false → (memberCommit pl m sub data s).1 = 0 →
      exec (.registerWrite (.dict p idx sub data)) s =
        .next (((memberCommit pl m sub data s).2.done pl m idx sub).afterWrite idx sub data 0)) ∧
    (∀ (i : Slot) (off : Nat) (v : Word), s.hostUp c = true →
      (off % 4 = 0 → off < 0x100 → exec (.registerWrite (.bar0 c off 4 v)) s = .next
        ((s.access .bar0 c off).writeLow c off (lo32 v))) ∧
      (off % 4 = 0 → 0x1000 ≤ off → off < 0x1024 → exec (.registerWrite (.bar0 c off 4 v)) s = .next
        ((s.access .bar0 c off).writeMbxReg c off (lo32 v))) ∧
      (off % 4 = 0 → 0x8000 ≤ off → off < 0x8200 → exec (.registerWrite (.window c i off 4 v)) s = .next
        (s.writeMirReg c i off (lo32 v))) ∧
      (∀ (k : RingKind), ringAt off = some k → 0x100 ≤ off → off < 0x800 → off % 4 = 0 → off % 256 ≠ 0x10 →
        off % 256 ≠ 0x14 → exec (.registerWrite (.window c i off 4 v)) s = .next
          (s.writeRingReg .window c i k (off % 256) (pairKey .window i (off / 8 * 8)) (lo32 v))) ∧
      (∀ (j : Slot) (k : RingKind), off % 8 = 0 → basePair .bar0 0 off = some (j, k) →
        exec (.registerWrite (.bar0 c off 8 v)) s = .next
          ((s.access .bar0 c off).writeBasePair .bar0 c j k (pairKey .bar0 0 off) v)) ∧
      (∀ size : Nat, ¬(size = 4 ∧ off % 4 = 0) → ¬(size = 8 ∧ off % 8 = 0) →
        exec (.registerWrite (.bar0 c off size v)) s = .next ((s.access .bar0 c off).accessError c 0) ∧
        exec (.registerWrite (.window c i off size v)) s = .next (s.accessError c 0)) ∧
      ∀ size : Nat, (∃ t : State, exec (.registerWrite (.bar0 c off size v)) s = .next t) ∧
        ∃ t : State, exec (.registerWrite (.window c i off size v)) s = .next t)

/-- The mailbox: GO with each operation, CANCEL, the published answer, and the two timeouts. A mailbox operation that
ends has DONE and not ERR for abort code 0, ERR and not DONE for every other, and is no longer busy. An access while
the mailbox is busy changes no mailbox register and sets MBX_BUSY (R293). -/
def Obligations.MailboxCommandsComplete : Prop :=
  (∀ (s : State) (c : Chan),
     (∀ ctrl : BitVec 32, s.hostUp c = true → ctrl.getLsbD 0 = true →
       let t := (s.access .bar0 c 0x1004).writeMbxCtrl c ctrl.toNat
       ((s.mbx c).opCode = 1 → (s.mbx c).fits = true → exec (.mbxRead c ctrl) s = .next t) ∧
       ((s.mbx c).opCode = 2 → (s.mbx c).fits = true → exec (.mbxWrite c ctrl) s = .next t) ∧
       ((s.mbx c).opCode ≠ 1 → (s.mbx c).opCode ≠ 2 → exec (.mbxInvalidOp c ctrl) s = .next t) ∧
       ((s.mbx c).fits = false → exec (.mbxInvalidOp c ctrl) s = .next t)) ∧
     (s.hostUp c = true → exec (.mbxCancel c) s = .next
       ((s.access .bar0 c 0x1004).writeMbxCtrl c (if ((s.mbx c)).last then 6 else 4))) ∧
     (∀ (write : Bool) (code : AbortCode), s.hostUp c = true → (s.mbx c).op = some (write, some code) →
       exec (.mbxOperationEnd c) s = .next (s.finishMbx c code)) ∧
     (∀ x : Pend, s.chanUp c = true → (s.mbx c).pend = some x → x.deadline ≤ s.tclk →
       exec (.mbxSegmentTimeout c) s = .next (s.modMbx c fun m => { m with pend := none })) ∧
     (∀ write : Bool, s.chanUp c = true → (s.mbx c).op = some (write, none) → (s.mbx c).since + tclkOfS 1 ≤ s.tclk →
       exec (.mbxTimeout c) s = .next ((s.modMbx c fun m => { m with pend := none }).finishMbx c abortNotReady)) ∧
     (∀ i : Slot, s.hostUp c = true → exec (.mirRead c i) s = .next (s.startMirror c i)) ∧
     (∀ (i : Slot) (code : AbortCode), s.hostUp c = true → (s.mirror c i).busy = true → (s.mirror c i).answer = some code →
       exec (.mirOperationEnd c i) s = .next (s.finishMirror c i code))) ∧
  (∀ (s : State) (c : Chan) (code : AbortCode),
     ((s.finishMbx c code).mbx c).busy = false ∧ ((s.finishMbx c code).mbx c).abort = code ∧
     (((s.finishMbx c code).mbx c).done = true ↔ code = 0) ∧ (((s.finishMbx c code).mbx c).err = true ↔ code ≠ 0)) ∧
  (∀ (s : State) (c : Chan) (v : Nat), (s.mbx c).busy = true →
     s.writeMbxCtrl c v = s.busyError c ∧ ((s.busyError c).mbx c) = s.mbx c)

/-- PLCA: node ID, the coordinator's listening, beacons, opportunities. -/
def Obligations.PlcaCommandsComplete : Prop :=
  ∀ s : State,
    (∀ (p : Path) (v : Byte) (pl : Place) (m : Member), accepts s p 0x1100 1 [v] pl m →
      exec (.nodeIdWrite p v) s = .next (((s.mput 0x1100 1 (w v.toNat)).startPlca).done pl m 0x1100 1)) ∧
    (s.reeveUp = true →
      (∀ t : Nat, s.plca.listenEnd = some t → s.plcaState = plcaStart → t ≤ s.tclk → s.plca.heard = true →
        exec .coordinatorListenEnd s = .next
          (({ s with plca := { s.plca with listenEnd := none } } : State).enterListenOnly 3)) ∧
      (s.plcaState = plcaCoordinator → s.plca.nodeCount ≤ s.plca.k → s.plca.prevEnd ≤ s.tclk →
        ∃ t : State, exec .beaconSend s = .next t ∧ t.out = s.out ++ [.beacon] ∧ t.plca.k = 0 ∧
          t.plca.prevEnd = s.tclk + 20 * bitTime) ∧
      (∀ f : BeaconFacts, s.plcaState = plcaWaiting → ∃ t : State, exec (.beaconReceived f) s = .next t ∧
        t.plcaState = plcaActive ∧ t.plca.k = 0 ∧ t.plca.seen = f.nodeCount) ∧
      (∀ f : BeaconFacts, s.plcaState = plcaCoordinator → ∃ t : State, exec (.beaconReceived f) s = .next t ∧
        t.plcaState = plcaListen ∧ t.mget 0x1101 9 = 3) ∧
      (s.plcaState = plcaActive → s.plca.lastBeacon + tclkOfMs 10 ≤ s.tclk → ∃ t : State,
        exec .beaconTimeout s = .next t ∧ t.plcaState = plcaWaiting ∧ bitOf (t.mget 0x1101 8) 4 = true) ∧
      (∀ f : OppFacts, s.plcaState = plcaActive → s.oppStart ≤ s.tclk → s.plca.seen = 0 → s.plca.k ≠ s.mnat 0x1100 1 →
        f.carrierAtStart = false → f.usedBits = none → ∃ t : State, exec (.opportunityStart f) s = .next t ∧
          t.plca.k = s.plca.k + 1 ∧ t.plca.prevEnd = s.oppStart + s.plca.toBits * bitTime ∧
          t.plca.silent = s.plca.silent + 1))

/-- Carrier at the computed start of the module's own opportunity is an edge yield: counted in 0x1101:03 and :04,
EDGE_YIELD set, and the opportunity left silent (R316). -/
def Obligations.EdgeYieldIsCounted : Prop :=
  ∀ (s : State) (f : OppFacts), s.reeveUp = true → s.plcaState = plcaActive → s.oppStart ≤ s.tclk → s.plca.seen = 0 →
    s.plca.k = s.mnat 0x1100 1 → f.carrierAtStart = true → s.mnat 0x1101 3 < 2 ^ 32 - 1 → s.mnat 0x1101 4 < 15 →
    ∃ t : State, exec (.opportunityStart f) s = .next t ∧ t.mnat 0x1101 3 = s.mnat 0x1101 3 + 1 ∧
      t.mnat 0x1101 4 = s.mnat 0x1101 4 + 1 ∧ bitOf (t.mget 0x1101 8) 0 = true ∧ t.plca.k = s.plca.k ∧
      t.plca.yielded = true ∧ t.out = s.out

/-- Time-launched frames are queued, discarded, released and timed out. -/
def Obligations.TimeLaunchedFramesComplete : Prop :=
  ∀ s : State,
    (∀ (p : Path) (pl : Place) (m : Member), accepts s p 0x1040 3 [1] pl m →
      (s.reeve.tlHeld = [] → exec (.tlFrameQueue p) s = .next (s.answer abortConflict)) ∧
      (s.reeve.tlHeld ≠ [] → beField s.reeve.tlHeld 6 2 ≠ 0x88F7 → beField s.reeve.tlHeld 6 2 ≠ s.mnat 0x1010 2 →
        8 ≤ s.tlEntries → exec (.tlFrameQueue p) s = .next (s.answer abortExhausted)) ∧
      (s.reeve.tlHeld ≠ [] → beField s.reeve.tlHeld 6 2 ≠ 0x88F7 → beField s.reeve.tlHeld 6 2 ≠ s.mnat 0x1010 2 →
        s.tlEntries < 8 → exec (.tlFrameQueue p) s = .next (({ s with
          tlq := s.tlq ++ [{ launch := s.mget 0x1040 1, bytes := s.reeve.tlHeld, released := none, late := false
                             sync := none }]
          reeve := { s.reeve with tlHeld := [] } } : State).done pl m 0x1040 3))) ∧
    (∀ (p : Path) (pl : Place) (m : Member), accepts s p 0x1040 3 [2] pl m →
      exec (.tlFrameDiscardAll p) s = .next ((tlDiscardCommit s).2.done pl m 0x1040 3)) ∧
    (s.reeveUp = true → s.plca.ownOpen = none →
      (s.tlq.any fun f => f.released.isNone && decide (f.launch.toNat ≤ s.now.toNat)) = true →
      exec .tlFrameRelease s = .next { s with
        tlq := s.tlq.map fun f =>
          if f.released.isNone && decide (f.launch.toNat ≤ s.now.toNat) then { f with released := some s.tclk } else f }) ∧
    (s.reeveUp = true → ∀ f : TlFrame, f ∈ s.tlq → ∀ t0 : Nat, f.released = some t0 → t0 + tclkOfS 1 ≤ s.tclk →
      ∃ t : State, exec .tlFrameTimeout s = .next t ∧ f ∉ t.tlq ∧ bitOf (t.mget 0x1101 8) 6 = true)

/-- A received frame is discarded and counted where it is damaged or its Ethertype is neither PTP's nor TLX's, ignored
where it is for another node, and else counted and passed on (R309). Elsewhere an IDENTIFY is answered with the
40-byte body. -/
def Obligations.FieldFramesAreFiltered : Prop :=
  (∀ (s : State) (b : Frame), s.reeveUp = true →
     (parseFrame b = none → exec (.fieldFrameReceived b) s = .next s.discardFrame) ∧
     (∀ f : MacFrame, parseFrame b = some f → s.forModule f.dst = false → exec (.fieldFrameReceived b) s = .next s) ∧
     (∀ f : MacFrame, parseFrame b = some f → s.forModule f.dst = true → f.ethertype ≠ 0x88F7 →
       f.ethertype ≠ (s.mcount 0x1010 3 1).mnat 0x1010 2 →
       exec (.fieldFrameReceived b) s = .next (s.mcount 0x1010 3 1).discardFrame) ∧
     (∀ f : MacFrame, parseFrame b = some f → s.forModule f.dst = true → f.ethertype ≠ 0x88F7 →
       f.ethertype = (s.mcount 0x1010 3 1).mnat 0x1010 2 → exec (.fieldFrameReceived b) s = .next
         (((s.mcount 0x1010 3 1).runPdu (.network f.src) f.payload true).getD (s.mcount 0x1010 3 1).discardFrame))) ∧
  (∀ (s : State) (src : TlxSrc) (tid : BitVec 16), s.tlxFrom src = true →
     exec (.tlxIdentify src tid) s = .next
       (s.sendTlx src .identify none (tlxPdu kindResponse svcIdentify 0 tid 0 s.identifyBody)) ∧
     (s.reeve.factory.serial.length ≤ 16 → s.identifyBody.length = 40))

/-- IDENTIFY requests that arrive during LISTEN_ONLY get no answer and are not kept (R347). -/
def Obligations.IdentifyInListenOnlyGetsNoAnswer : Prop :=
  ∀ (s : State) (mac : BitVec 48) (tid : BitVec 16), s.plcaState = plcaListen →
    exec (.tlxIdentify (.network mac) tid) s = .next s

/-- A request whose session is not open, or is bound to another address or transport, gets NO_SESSION and has no other
effect, whatever its service (R327). -/
def Obligations.NoSessionHasNoOtherEffect : Prop :=
  ∀ (s : State) (src : TlxSrc) (sid tid : BitVec 16), s.tlxFrom src = true →
    (∀ k : Fin 32, (s.session k).bound s.tclk src sid = false) →
    (exec (.tlxRenew src sid tid) s = .next (s.respondFree src svcRenew sid tid abortNoSession []) ∧
     exec (.tlxClose src sid tid) s = .next (s.respondFree src svcClose sid tid abortNoSession []) ∧
     exec (.tlxWriteCancel src sid tid) s = .next (s.respondFree src svcWriteCancel sid tid abortNoSession [])) ∧
    (∀ proof, exec (.tlxAuth src sid tid proof) s = .next (s.respondFree src svcAuth sid tid abortNoSession [])) ∧
    (∀ idx sub, exec (.tlxRead src sid tid idx sub) s = .next (s.respondFree src svcRead sid tid abortNoSession [])) ∧
    (∀ off, exec (.tlxReadSegment src sid tid off) s = .next
      (s.respondFree src svcReadSegment sid tid abortNoSession [])) ∧
    (∀ idx sub last off data, exec (.tlxWrite src sid tid idx sub last off data) s = .next
      (s.respondFree src svcWrite sid tid abortNoSession [])) ∧
    (∀ idx sub mode minMs periodMs, exec (.tlxSubscribe src sid tid idx sub mode minMs periodMs) s = .next
      (s.respondFree src svcSubscribe sid tid abortNoSession [])) ∧
    (∀ h, exec (.tlxUnsubscribe src sid tid h) s = .next (s.respondFree src svcUnsubscribe sid tid abortNoSession []))

/-- A session ID is the next one in use by no session, never 0, and is in increasing order from the last (R330). -/
def Obligations.SessionIdsAreFreshAndInOrder : Prop :=
  ∀ (used : List (BitVec 16)) (v : BitVec 16), used.length ≤ 32 →
    sidFrom used v 64 ≠ 0 ∧ sidFrom used v 64 ∉ used ∧
    ∀ n : Nat, n < (sidFrom used v 64 - v).toNat → v + BitVec.ofNat 16 n = 0 ∨ v + BitVec.ofNat 16 n ∈ used

/-- OPEN: READER opens at once with a lease of 10 s; a role that needs a proof waits 1 s with a fresh challenge;
WRITER and PRIVILEGED are denied on the field network without an access key; a 33rd session is refused. AUTH: a
correct proof opens the session with a lease of 10 s, a wrong one closes it. -/
def Obligations.OpenAndAuthComplete : Prop :=
  (∀ (s : State) (src : TlxSrc) (tid : BitVec 16) (k : Fin 32), s.tlxFrom src = true →
     (allSessions.find? fun k => (s.session k).st == .closed) = some k →
     (∃ t : State, exec (.tlxOpen src tid 0) s = .next t ∧ (t.session k).st = .opened ∧ (t.session k).role = .reader ∧
       (t.session k).src = src ∧ (t.session k).leaseEnd = s.tclk + tclkOfS 10 ∧
       (t.session k).sid = sidFrom s.usedSids s.nextSid 64) ∧
     (s.reeve.accessKey ≠ none → ∃ t : State, exec (.tlxOpen src tid 2) s = .next t ∧ (t.session k).st = .authWait ∧
       (t.session k).role = .privileged ∧ (t.session k).leaseEnd = s.tclk + tclkOfS 1 ∧
       (t.session k).challenge = Config.challenge s.free) ∧
     (s.reeve.accessKey = none → onUsb src = false →
       exec (.tlxOpen src tid 2) s = .next (s.respondFree src svcOpen 0 tid abortDenied [])) ∧
     (s.reeve.accessKey = none → onUsb src = true → ∃ t : State, exec (.tlxOpen src tid 2) s = .next t ∧
       (t.session k).st = .opened ∧ (t.session k).role = .privileged)) ∧
  (∀ (s : State) (src : TlxSrc) (sid tid : BitVec 16) (k : Fin 32) (proof : BitVec 128), s.tlxFrom src = true →
     s.findSession src sid (· != .closed) = some k → (s.session k).st = .authWait → newRequest s k tid →
     (proof = s.proofOf (s.session k) → ∃ t : State, exec (.tlxAuth src sid tid proof) s = .next t ∧
       (t.session k).st = .opened ∧ (t.session k).leaseEnd = s.tclk + tclkOfS 10) ∧
     (proof ≠ s.proofOf (s.session k) → ∃ t : State, exec (.tlxAuth src sid tid proof) s = .next t ∧
       (t.session k).st = .closed))

/-- A request of an open session with a transaction ID other than the last one's takes effect, renews the lease and
keeps its answer. READ answers a value of up to 1,024 bytes whole, copies a longer one, and READ_SEGMENT serves the
copy; without one it is SEGMENT_ERROR, and past the end VALUE_OUT_OF_RANGE (R333). A READ_SEGMENT sequence at offsets
0, 1,024, ... gives the whole copy, and no segment is longer than 1,024 bytes. -/
def Obligations.SessionRequestsComplete : Prop :=
  (∀ (s : State) (src : TlxSrc) (sid tid : BitVec 16) (k : Fin 32), s.tlxFrom src = true →
     s.findSession src sid isOpened = some k →
     newRequest s k tid →
       let t := s.renew k
       exec (.tlxRenew src sid tid) s = .next (t.respond k svcRenew tid 0 (beBytes 4 10000)) ∧
       exec (.tlxClose src sid tid) s = .next ((t.respond k svcClose tid 0 []).closeSession k) ∧
       exec (.tlxWriteCancel src sid tid) s = .next ((t.dropPend k).respond k svcWriteCancel tid 0 []) ∧
       (∀ svc : Byte, knownServices.contains (svc.toNat % 64) = false →
         exec (.tlxUnknownService src sid tid svc) s = .next
           (t.respond k (svc.toNat % 64) tid abortServiceUnknown [])) ∧
       (∀ (idx sub : Nat) (last : Bool) (off : Nat) (data : Bytes),
         exec (.tlxWrite src sid tid idx sub last off data) s = .next (t.serveSegment k tid idx sub last off data)) ∧
       (∀ (h : Byte), 8 ≤ h.toNat → exec (.tlxUnsubscribe src sid tid h) s = .next
         (t.respond k svcUnsubscribe tid abortRange [])) ∧
       (∀ (h : Byte) (u : Sub), h.toNat < 8 → u ∈ (t.session k).subs → u.handle.val = h.toNat →
         exec (.tlxUnsubscribe src sid tid h) s = .next ((t.modSession k fun x => { x with
           subs := x.subs.filter fun u => !(u.handle.val == h.toNat) }).respond k svcUnsubscribe tid 0 []))) ∧
  (∀ (s : State) (src : TlxSrc) (sid tid : BitVec 16) (k : Fin 32), s.tlxFrom src = true →
     s.findSession src sid isOpened = some k → newRequest s k tid →
     let t := s.renew k
     (∀ (idx sub : Nat) (m : Member) (v : Bytes), t.readMember (.tlx (t.session k).role) idx sub = .ok (m, v) →
       ((tlxBytes m v).length ≤ 1024 → exec (.tlxRead src sid tid idx sub) s = .next
         (((t.measured idx sub).modSession k fun x => { x with copy := none }).respond k svcRead tid 0
           (beBytes 4 (tlxBytes m v).length ++ tlxBytes m v))) ∧
       (1024 < (tlxBytes m v).length → exec (.tlxRead src sid tid idx sub) s = .next
         (((t.measured idx sub).modSession k fun x => { x with copy := some (tlxBytes m v) }).respond k svcRead tid 0
           (beBytes 4 (tlxBytes m v).length ++ (tlxBytes m v).take 1024)))) ∧
     (∀ (idx sub : Nat) (e : AbortCode), t.readMember (.tlx (t.session k).role) idx sub = .error e →
       exec (.tlxRead src sid tid idx sub) s = .next
         ((t.modSession k fun x => { x with copy := none }).respond k svcRead tid e [])) ∧
     (∀ (off : Nat) (b : Bytes), (t.session k).copy = some b → off < b.length →
       exec (.tlxReadSegment src sid tid off) s = .next
         (t.respond k svcReadSegment tid 0 (beBytes 4 b.length ++ slice b off 1024))) ∧
     (∀ (off : Nat) (b : Bytes), (t.session k).copy = some b → b.length ≤ off →
       exec (.tlxReadSegment src sid tid off) s = .next (t.respond k svcReadSegment tid abortRange [])) ∧
     (∀ off : Nat, (t.session k).copy = none →
       exec (.tlxReadSegment src sid tid off) s = .next (t.respond k svcReadSegment tid abortSegment []))) ∧
  (∀ (b : Bytes) (n : Nat), b.length ≤ 1024 * n →
     ((List.range n).flatMap fun k => slice b (1024 * k) tlxMax) = b ∧ ∀ k, (slice b (1024 * k) tlxMax).length ≤ 1024)

/-- A request with the transaction ID of the session's last request is answered with the kept response and not
executed, for every service of an open session; every response is kept (R332). -/
def Obligations.RepeatedRequestsAreNotExecutedAgain : Prop :=
  ∀ (s : State) (src : TlxSrc) (sid tid : BitVec 16) (k : Fin 32) (pdu : Bytes), s.tlxFrom src = true →
    s.findSession src sid isOpened = some k → (s.session k).last = some (tid, pdu) →
    let again : Host.Outcome State Fault Refusal := .next ((s.renew k).sendTlx src .tlxResponse (some k) pdu)
    exec (.tlxRenew src sid tid) s = again ∧ exec (.tlxClose src sid tid) s = again ∧
    exec (.tlxWriteCancel src sid tid) s = again ∧
    (∀ idx sub, exec (.tlxRead src sid tid idx sub) s = again) ∧
    (∀ off, exec (.tlxReadSegment src sid tid off) s = again) ∧
    (∀ idx sub last off data, exec (.tlxWrite src sid tid idx sub last off data) s = again) ∧
    (∀ idx sub mode minMs periodMs, exec (.tlxSubscribe src sid tid idx sub mode minMs periodMs) s = again) ∧
    (∀ h, exec (.tlxUnsubscribe src sid tid h) s = again) ∧
    ∀ (svc code : Nat) (body : Bytes), ((s.respond k svc tid code body).session k).last =
      some (tid, tlxPdu kindResponse svc (s.session k).sid tid code body)

/-- One WRITE under the commit rule of R334. -/
def Obligations.WriteSegmentsFollowTheCommitRule : Prop :=
  ∀ (s : State) (k : Fin 32) (tid : BitVec 16) (idx sub : Nat) (last : Bool) (off : Nat) (data : Bytes),
    ((s.session k).pend = none → off ≠ 0 → s.serveSegment k tid idx sub last off data =
      (s.dropPend k).respond k svcWrite tid abortSegment []) ∧
    (∀ x : Pend, (s.session k).pend = some x → off ≠ x.data.length → s.serveSegment k tid idx sub last off data =
      (s.dropPend k).respond k svcWrite tid abortSegment []) ∧
    (∀ x : Pend, (s.session k).pend = some x → off = x.data.length → x.idx = idx → x.sub = sub →
      x.data.length + data.length ≤ 16777216 → s.serveSegment k tid idx sub false off data =
        (s.modSession k fun y => { y with pend := some {
          idx := idx, sub := sub, data := x.data ++ data, deadline := s.tclk + tclkOfS 1 } }).respond k svcWrite tid 0 []) ∧
    (∀ x : Pend, (s.session k).pend = some x → off = x.data.length → x.idx = idx → x.sub = sub →
      16777216 < x.data.length + data.length → s.serveSegment k tid idx sub last off data =
        (s.dropPend k).respond k svcWrite tid abortLength []) ∧
    ((s.session k).pend = none → data.length ≤ 1024 → off = 0 → s.serveSegment k tid idx sub true off data =
      ((((s.dictWrite (.tlx (s.session k).role) idx sub (unwire idx sub data)).2.dropPend k).respond k svcWrite tid
        (s.dictWrite (.tlx (s.session k).role) idx sub (unwire idx sub data)).1 []).afterWrite idx sub
          (unwire idx sub data) (s.dictWrite (.tlx (s.session k).role) idx sub (unwire idx sub data)).1))

/-- Subscriptions: created within the limits, notified when due, acknowledged, sent again, and dropped after three
tries. Leases end: a session whose lease reaches 0 closes with TLX_SESSION_LAPSED, and a held write is dropped after 1
s. -/
def Obligations.SubscriptionsComplete : Prop :=
  (∀ (s : State) (k : Fin 32),
     (∀ (src : TlxSrc) (sid tid : BitVec 16) (idx sub : Nat) (m : Member) (v : Bytes) (h : Fin 8) (minMs periodMs : Nat),
       s.tlxFrom src = true → s.findSession src sid isOpened = some k → newRequest s k tid →
       (s.renew k).readMember (.tlx ((s.renew k).session k).role) idx sub = .ok (m, v) →
       subscribeCheck m 0 minMs periodMs = 0 → ((s.renew k).session k).freeHandle = some h → (s.renew k).subsHeld < 64 →
       exec (.tlxSubscribe src sid tid idx sub 0 minMs periodMs) s = .next
         (((s.renew k).modSession k fun x => { x with subs := x.subs ++ [{
           handle := h, idx := idx, sub := sub, periodic := false, minMs := minMs, periodMs := periodMs
           lastSent := none, lastValue := tlxBytes m v, dirty := false }] }).respond k svcSubscribe tid 0
             [BitVec.ofNat 8 h.val])) ∧
     (∀ (src : TlxSrc) (sid seq : BitVec 16), s.tlxFrom src = true → s.findSession src sid isOpened = some k →
       exec (.tlxEventAck src sid seq) s = .next ((s.renew k).modSession k fun x => { x with
         unacked := x.unacked.filter fun n => n.seq != seq })) ∧
     (s.reeve.powered = true → s.reeve.running = true → (s.session k).st = .opened →
       (∀ (h : Fin 8) (u : Sub) (m : Member) (v : Bytes),
         ((s.session k).subs.find? fun (u : Sub) => u.handle == h) = some u →
         s.readMember (.tlx (s.session k).role) u.idx u.sub = .ok (m, v) → u.due s.tclk (tlxBytes m v) = true →
         (s.session k).unacked.length < 16 →
         exec (.tlxEventNotify k h) s = .next ((s.measured u.idx u.sub).notify k u (tlxBytes m v))) ∧
       (∀ (h : Fin 8) (u : Sub), ((s.session k).subs.find? fun (u : Sub) => u.handle == h) = some u →
         16 ≤ (s.session k).unacked.length → exec (.tlxEventNotify k h) s = .next s) ∧
       (∀ n : Unacked, ((s.session k).unacked.find? fun (n : Unacked) => decide (n.retryAt ≤ s.tclk)) = some n →
         s.plcaState ≠ plcaListen →
         (3 ≤ n.tries → exec (.tlxEventRetry k) s = .next
           (s.modSession k fun x => { x with unacked := x.unacked.erase n })) ∧
         (n.tries < 3 → exec (.tlxEventRetry k) s = .next ((s.modSession k fun x => { x with
           unacked := x.unacked.map fun v => if v = n then
             { n with retryAt := s.tclk + tclkOfMs 100, tries := n.tries + 1 } else v }).sendTlx (s.session k).src .tlxEvent
               (some k) n.bytes))))) ∧
  (∀ (s : State) (k : Fin 32),
     ((s.session k).st ≠ .closed → (s.session k).leaseEnd ≤ s.tclk →
       exec (.sessionLapse k) s = .next ((s.closeSession k).moduleEvent
         { unit := 0xF0, num := 0x1004, pay := payAt 8 k.val })) ∧
     ((s.session k).st = .authWait → (s.session k).leaseEnd ≤ s.tclk →
       exec (.authTimeout k) s = .next ((s.closeSession k).moduleEvent
         { unit := 0xF0, num := 0x1004, pay := payAt 8 k.val })) ∧
     (∀ x : Pend, (s.session k).pend = some x → x.deadline ≤ s.tclk →
       exec (.tlxWriteIdleTimeout k) s = .next (s.dropPend k)) ∧
     ((s.closeSession k).session k) = Session.reset)

/-- The journal, the access key, the TLX Ethertype and the saved state's commands. While SAVE_FAILED stands, a write
of a saved member that passes every other check is refused with SAVE_FAILED. -/
def Obligations.PersistenceCommandsComplete : Prop :=
  (∀ s : State,
     (s.reeveUp = true → bitOf (s.mget 0x1020 2) 0 = true → s.reeve.saveDue ≠ none →
       exec (.journalStore true) s = .next s.journalStored ∧ exec (.journalStore false) s = .next s.journalFailed) ∧
     ∀ (p : Path) (pl : Place) (m : Member),
       (∀ v : BitVec 16, accepts s p 0x1020 1 (leBytes 2 v.toNat) pl m → exec (.restoreRequest p v) s = .next
         ((restoreCommit v.toNat s).2.done pl m 0x1020 1)) ∧
       (∀ v : Byte, accepts s p 0x1020 2 [v] pl m → exec (.saveRetry p v) s = .next
         ((persistCommit v.toNat s).2.done pl m 0x1020 2)) ∧
       (∀ key : Bytes, accepts s p 0x1200 3 key pl m → exec (.accessKeyWrite p key) s = .next
         ((((({ s with reeve := { s.reeve with accessKey := some key } } : State).mputSaved 0x1200 4 1).committed pl m 0x1200
           3).answer 0).closeSessions)) ∧
       (∀ v : BitVec 16, accepts s p 0x1010 2 (leBytes 2 v.toNat) pl m → exec (.ethertypeWrite p v) s = .next
         ((s.mput 0x1010 2 (w v.toNat)).done pl m 0x1010 2))) ∧
  (∀ (s : State) (m : Member) (data : Bytes), bitOf (s.mget 0x1020 2) 1 = true → m.pers = .s →
     lengthOk m data.length = true → valueOk m data (m.ty.decode data) = true → boundsOk m (m.ty.decode data) = true →
     s.checkValue m data = abortSaveFailed)

/-- The supply's events. The Governor: its period, the frequency changes it makes, and the writes that bound it. The
module divides its power every millisecond: the input power is published and every channel is sent its share. -/
def Obligations.PowerCommandsComplete : Prop :=
  (∀ s : State, s.reeveUp = true →
     exec (.supplyMarginal true) s = .next
       (let t := s.morBits 0x2000 6 underVoltageBit
        { t with reeve := { t.reeve with supplyHold := true } }) ∧
     exec (.supplyMarginal false) s = .next
       (let t := s.morBits 0x2000 6 overVoltageBit
        { t with reeve := { t.reeve with supplyHold := true } }) ∧
     (∃ t : State, exec .supplyUndervoltage s = .next t ∧ t.reeve.underDown = true) ∧
     exec .supplyCritical s = .next s.unpowered ∧
     (∀ up : Bool, exec (.supplyRecovered up) s = .next { s with reeve := { s.reeve with
       supplyHold := false, underDown := if up then false else s.reeve.underDown } }) ∧
     (∀ c : Chan, (s.chan c).st ≠ .poweredDown → s.chanUp c = true →
       exec (.regulatorFault c) s = .next (s.powerDown c 0x23))) ∧
  (∀ (s : State) (c : Chan),
     (∀ mw : Nat, s.chanUp c = true → (s.chan c).freq ≠ 0 → exec (.governorPeriod c mw) s = .next
       (((s.modChan c (·.countDuty s.now)).measurePower c mw).ladder c)) ∧
     (∀ (f t : Nat), s.chanUp c = true → (s.chan c).gov.change = some (.voltage f t) → t ≤ s.tclk →
       exec (.voltageSettled c) s = .next (s.setChan c
         (((s.chan c).put 0x700 8 (w (voltage f (s.chan c).guardBand))).beginChange s.tclk f))) ∧
     (∀ (fOld fNew start : Nat), s.chanUp c = true → (s.chan c).gov.change = some (.glide fOld fNew start) →
       start + 20 * apart fOld fNew ≤ s.tclk → exec (.glideEnd c) s = .next
         ((s.modChan c fun ch => ((ch.setFreq fNew).count 0x701 1 1).afterChange s.tclk).event c
           { unit := 0x41, num := 0x0E00, pay := payAt 8 fOld ||| payAt 10 fNew })) ∧
     (∀ (fOld fNew start retries : Nat), s.chanUp c = true →
       (s.chan c).gov.change = some (.relock fOld fNew start none retries) →
       exec (.relockLocked c) s = .next (s.modChan c fun ch => { ch with gov := { ch.gov with
         change := some (.relock fOld fNew start (some s.tclk) retries) } }) ∧
       (retries < 3 → start + tclkOfUs (4 * (retries + 1)) ≤ s.tclk → exec (.pllLockTimeout c) s = .next
         (s.modChan c fun ch => { ch with gov := { ch.gov with
           change := some (.relock fOld fNew start none (retries + 1)) } }))) ∧
     (∀ (fOld fNew start t retries : Nat), s.chanUp c = true →
       (s.chan c).gov.change = some (.relock fOld fNew start (some t) retries) → t + tclkOfUs 2 ≤ s.tclk →
       exec (.relockEnd c) s = .next (s.endRelock c fOld fNew start)) ∧
     (∀ (p : Path) (v : BitVec 16) (pl : Place) (m : Member),
       (accepts s p (chanIndex c 0x700) 5 (leBytes 2 v.toNat) pl m → exec (.floorRequestWrite p c v) s = .next
         (((s.cput c 0x700 5 (w v.toNat)).judgeFloor c ((s.cput c 0x700 5 (w v.toNat)).rungNow c)).done pl m
           (chanIndex c 0x700) 5)) ∧
       (accepts s p (chanIndex c 0x700) 4 (leBytes 2 v.toNat) pl m → exec (.frequencyRequestWrite p c v) s = .next
         ((s.cput c 0x700 4 (w v.toNat)).done pl m (chanIndex c 0x700) 4))) ∧
     (∀ n : Nat, s.live = true → (s.chan c).gov.newShare = some n → exec (.shareArrival c) s = .next
       (s.setChan c { s.chan c with gov := { (s.chan c).gov with share := some n, newShare := none } }))) ∧
  (∀ (s : State) (inputMw : Nat) (chanMw : List Nat), s.reeveUp = true →
     let power := fun c : Chan => chanMw.getD c.val 0
     let cs := allChans.map fun c => s.claim c (power c)
     let shares := divide (1000 * s.mnat 0x2000 3 - (inputMw - (allChans.map power).sum)) cs
     let t := ((s.mput 0x2000 2 (w (wattsOf inputMw))).mcount 0x2000 5 inputMw 64).eachChan fun s c =>
       s.sendShare c (shares.getD c.val 0)
     exec (.allocationTick inputMw chanMw) s = .next
       (if ((cs.zip shares).any fun x => x.1.active && decide (x.2 < x.1.lim)) then t.morBits 0x2000 6 capLimitingBit else t))

/-- Temperatures, measurement faults and the return of a tripped channel. Wear is measured, accrued, saved and
predicted. -/
def Obligations.ThermalAndWearCommandsComplete : Prop :=
  (∀ (s : State) (c : Chan),
     (∀ (die : List (BitVec 16)) (hbm : BitVec 16), s.live = true →
       ((s.chan c).st ≠ .poweredDown → exec (.temperatureSample c die hbm) s = .next
         ((s.modChan c fun ch => (ch.storeTemps die hbm).put 0x203 0x0A s.now).judgeTemps c)) ∧
       ((s.chan c).st = .poweredDown → exec (.temperatureSample c die hbm) s = .next
         (s.modChan c (·.cooling s.tclk die hbm)))) ∧
     (∀ sensor : Fin 7, s.chanUp c = true → ∃ t : State, exec (.sensorFault c sensor) s = .next t ∧
       (∀ d : Chan, d ≠ c → t.chan d = s.chan d) ∧ (t.chan c).gov.failed.getLsbD sensor.val = true) ∧
     (s.chanUp c = true → exec (.powerMeasurementFault c) s = .next (s.corBits c 0x203 0x0B 1) ∧
       exec (.powerMeasurementRecovered c) s = .next (s.cclearBits c 0x203 0x0B 1)) ∧
     (s.reeveUp = true → (s.chan c).st = .poweredDown → s.mayPowerUp c = true →
       ∃ t : State, exec (.channelPowerUp c) s = .next t ∧ (t.chan c).st = .booting ∧
         ((s.chan c).reason = 0x20 ∨ (s.chan c).reason = 0x21 → exec (.thermalRecovery c) s = .next t))) ∧
  (∀ (s : State) (c : Chan),
     (∀ (rings : List (Option Int)) (hbm : Nat), s.chanUp c = true →
       let out := excludeRings (s.chan c).gov.wear.excluded rings
       ∃ t : State, exec (.wearMeasurement c rings hbm) s = .next t ∧ (t.chan c).gov.wear.excluded = out ∧
         (∀ x : Int, slowestRing out rings = some x → (t.chan c).guardBand = max (s.chan c).guardBand (guardOf x)) ∧
         (slowestRing out rings = none → (t.chan c).guardBand = (s.chan c).guardBand)) ∧
     (s.chanUp c = true → s.reeveUp = true → ∃ t : State, exec (.wearAccrual c) s = .next t ∧
       (t.chan c).gov.wear.opSeconds = (s.chan c).gov.wear.opSeconds + 1 ∧
       (s.chan c).gov.wear.hEff ≤ (t.chan c).gov.wear.hEff) ∧
     (∀ (p : Path) (data : Bytes) (pl : Place) (m : Member), accepts s p 0x2060 5 data pl m →
       (profileOk data = true → exec (.missionProfileWrite p data) s = .next
         (({ s.mclearBits 0x2060 6 2 with reeve := { s.reeve with profile := data } } : State).done pl m 0x2060 5)) ∧
       (profileOk data = false → exec (.missionProfileWrite p data) s = .next (s.answer abortInvalid))) ∧
     (s.reeveUp = true → s.utcNow.2 = 0 → s.reeve.wearDay ≠ s.utcNow.1 →
       ∃ t : State, exec .wearDaily s = .next t ∧ t.reeve.wearDay = s.utcNow.1))

/-- Power, the Reeve and the channels' boots. Firmware images: target, image, bank write, its end, activation and
fallback. -/
def Obligations.StartUpCommandsComplete : Prop :=
  (∀ s : State,
     (s.reeve.powered = true → exec .modulePowerLoss s = .next s.unpowered) ∧
     (∀ (lost : List Nat) (bad b fell : Bool), s.reeve.powered = false →
       ((s.powered lost).readSelector bad).romChoice = some (b, fell) →
       exec (.modulePowerOn lost bad) s = .next (
         let t := (((s.powered lost).readSelector bad).runReeve b).startField
         if fell || bad then t.moduleEvent { unit := 0xF0, num := 0x1000, pay := payAt 8 2 } else t)) ∧
     (∀ (lost : List Nat) (bad : Bool), s.reeve.powered = false → ((s.powered lost).readSelector bad).romChoice = none →
       exec (.modulePowerOn lost bad) s = .next ((s.powered lost).readSelector bad).enterRecovery) ∧
     (s.reeveUp = true → exec .reeveWatchdog s = .next (s.reeveRestart 1)) ∧
     (∀ bad : Bool, s.live = true → s.reeve.running = false → (s.readSelector bad).romChoice = none →
       exec (.reeveReturn bad) s = .next (s.readSelector bad).enterRecovery) ∧
     (∀ bad b fell : Bool, s.live = true → s.reeve.running = false → (s.readSelector bad).romChoice = some (b, fell) →
       let r := s.readSelector bad
       let t := (r.runReeve b).startField.moduleEvent
         { unit := 0xF0, num := 0x1000, pay := payAt 8 (if fell || bad then 2 else r.reeve.restartCause) }
       (t.time.ts = .freeRun ∨ t.time.ts = .holdover →
         exec (.reeveReturn bad) s = .next (t.morBits 0x2000 6 8).reviewPairs) ∧
       (t.time.ts = .acquiring ∨ t.time.ts = .locked → exec (.reeveReturn bad) s = .next
         (((((t.timeFlag masterLostBit).mput 0x3000 6 t.now).setTimeState .holdover).morBits 0x2000 6 8).reviewPairs))) ∧
     (s.live = true → exec .tcxoFailure s = .next
       (({ s with time := { s.time with tcxoFailed := true } } : State).emit (.pin 3 0 0 true))) ∧
     ∀ c : Chan,
       (s.chanUp c = true → exec (.channelWarmReset c) s = .next (s.warmIf c)) ∧
       (∀ (badA badB b : Bool), s.reeveUp = true → (s.chan c).st = .booting → (s.chan c).steward = false →
         ((s.banksToTry c).find? fun b => s.bankCode c (if b then badB else badA) b == 0) = some b →
         exec (.stewardBoot c badA badB) s = .next (s.runSteward c b).restartIfDue) ∧
       (∀ (badA badB : Bool), s.reeveUp = true → (s.chan c).st = .booting → (s.chan c).steward = false →
         ((s.banksToTry c).find? fun b => s.bankCode c (if b then badB else badA) b == 0) = none →
         exec (.stewardBoot c badA badB) s = .next (s.quarantine c ((s.banksToTry c).headD false)
           (s.bankCode c (if (s.banksToTry c).headD false then badB else badA) ((s.banksToTry c).headD false))).restartIfDue) ∧
       (s.chanUp c = true → (s.chan c).st = .booting → (s.chan c).steward = true →
         exec (.selfTestComplete c none) s = .next (((((s.modChan c (·.tablesPassed)).setChanSt c .ready 0).mputSaved 0x1030 7
           (w (((s.reeve.image.map (·.version.toNat)).getD 0) * 2 ^ 32 +
             (((s.chan c).image.map (·.version.toNat)).getD 0)))).bootEnded c))) ∧
       (∀ r : Byte, s.chanUp c = true → (s.chan c).st = .booting → (s.chan c).steward = true →
         selfTestReasons.contains r = true → exec (.selfTestComplete c (some r)) s = .next
           (((s.selfTestReport c r).setChanSt c .computeDisabled r).bootEnded c)) ∧
       (∀ (p : Path) (v : Byte) (pl : Place) (m : Member), accepts s p (chanIndex c 0) 7 [v] pl m →
         (s.chan c).st = .booting → ∃ t : State, exec (.stewardBankRequest p c v) s = .next t ∧ t.out = s.out ++ [.answer 0])) ∧
  (∀ (s : State) (p : Path) (pl : Place) (m : Member),
     (∀ v : Byte, accepts s p 0x1030 1 [v] pl m → s.updBusy = false → exec (.imageTargetWrite p v) s = .next
       (({ (s.mput 0x1030 1 (w v.toNat)).setUpd updIdle with
         reeve := { s.reeve with update := { s.reeve.update with held := none } } } : State).done pl m 0x1030 1)) ∧
     (∀ b : Bytes, accepts s p 0x1030 2 b pl m → s.updBusy = false →
       exec (.imageWrite p b) s = .next (
         if s.checkImage b = 0 then ({ s.setUpd updHeld with
           reeve := { s.reeve with update := { s.reeve.update with held := some (headerOf b) } } } : State).done pl m 0x1030 2
         else (s.setUpd (s.checkImage b)).answer abortInvalid)) ∧
     (accepts s p 0x1030 3 [1] pl m → s.updBusy = false → s.reeve.update.held ≠ none →
       exec (.imageBankWrite p) s = .next ((bankWriteCommit s).2.done pl m 0x1030 3)) ∧
     (accepts s p 0x1030 3 [1] pl m → s.reeve.update.held = none →
       exec (.imageBankWrite p) s = .next (s.answer abortConflict)) ∧
     (∀ ok : Bool, s.reeve.powered = true → s.reeve.running = true → s.reeve.update.writing = true →
       ∃ t : State, exec (.bankWriteComplete ok) s = .next t ∧ t.reeve.update.writing = false ∧
         t.updStatus = if ok then updWritten else updVerifyFailed) ∧
     (accepts s p 0x1030 3 [2] pl m → activateOk s = true →
       exec (.imageActivate p) s = .next ((s.done pl m 0x1030 3).activate 3)) ∧
     (accepts s p 0x1030 3 [2] pl m → activateOk s = false →
       exec (.imageActivate p) s = .next (s.answer abortConflict)) ∧
     (accepts s p 0x1030 3 [3] pl m → fallBackOk s = true →
       exec (.imageFallBack p) s = .next ((s.done pl m 0x1030 3).activate 4)))

/-- The USB service port: attachment, PDUs on both pipes, PORT_INFO, the standard requests and a bus reset. -/
def Obligations.UsbCommandsComplete : Prop :=
  ∀ s : State,
    (s.reeve.powered = true → exec .usbAttach s = .next { s with usb := { s.usb with attached := true } }) ∧
    (s.usbServes = true →
      (∀ b : Bytes, 12 ≤ b.length → b.length ≤ 1052 →
        exec (.usbTlxSend b.length b) s = .next ((s.runPdu .usbControl b false).getD s)) ∧
      (∀ (n : Nat) (b : Bytes), n < 12 ∨ 1052 < n → exec (.usbTlxSend n b) s = .next (s.emit .usbStall)) ∧
      (∀ (n : Nat) (b : Bytes) (rest : List Bytes), 1052 ≤ n → s.usb.ctlQ = b :: rest → exec (.usbTlxReceive n) s = .next
        ({ s with usb := { s.usb with ctlQ := rest } }.emit (.usb b))) ∧
      (∀ n : Nat, 1052 ≤ n → s.usb.ctlQ = [] → exec (.usbTlxReceive n) s = .next (s.emit (.usb []))) ∧
      exec .usbPortInfo s = .next (s.emit (.usb (leBytes 4 s.reeveIface.toNat ++ [BitVec.ofNat 8 (32 - s.sessionsHeld),
        BitVec.ofNat 8 s.usb.ctlQ.length, BitVec.ofNat 8 s.usb.bulkQ.length, 0]))) ∧
      (s.usb.configured = true → s.usb.haltOut = false → ∀ b : Bytes,
        exec (.usbBulkPdu b) s = .next ((s.runPdu .usbBulk b false).getD s)) ∧
      (∀ (b : Bytes) (rest : List Bytes), s.usb.configured = true → s.usb.haltIn = false → s.usb.bulkQ = b :: rest →
        exec .usbBulkIn s = .next ({ s with usb := { s.usb with bulkQ := rest } }.emit (.usb b)))) ∧
    (s.usbAnswers = true →
      exec (.usbStandardRequest 0x80 8 0 0) s = .next (s.emit (.usb [if s.usb.configured then 1 else 0])) ∧
      (∀ a : Nat, a < 128 → exec (.usbStandardRequest 0x00 5 a 0) s = .next
        ({ s with usb := { s.usb with address := a } }.emit (.usb []))) ∧
      exec (.usbStandardRequest 0x00 9 1 0) s = .next
        ({ s with usb := { s.usb with configured := true } }.emit (.usb [])) ∧
      (∀ v i : Nat, exec (.usbStandardRequest 0x00 3 1 i) s = .next (s.emit .usbStall) ∧
        exec (.usbStandardRequest 0x81 10 v i) s = .next (s.emit .usbStall))) ∧
    (∀ detach : Bool, s.reeve.powered = true → s.usb.attached = true → exec (.usbBusReset detach) s = .next { s with
      sessions := s.sessions.map fun x => if onUsb x.src then Session.reset else x
      usb := { Usb.reset with attached := !detach, testMode := s.usb.testMode } })

/-- The offset measurement: its command, probes, echoes and the echo's limit. Offset and round trip of an exchange
(R471): a constant offset d of the other clock and a symmetric path come out exactly. -/
def Obligations.AlignmentCommandsComplete : Prop :=
  (∀ s : State,
     (∀ (p : Path) (pl : Place) (m : Member), accepts s p 0x4030 2 [1] pl m →
       (s.align.running = false → exec (.offsetMeasureCommand p) s = .next (s.startMeasure.done pl m 0x4030 2)) ∧
       (s.align.running = true → exec (.offsetMeasureCommand p) s = .next (s.answer abortConflict))) ∧
     (s.reeveUp = true →
       (s.align.running = true → s.align.x < 16 → s.align.probe = none → s.align.nextProbe ≤ s.tclk →
         ∃ t : State, exec .probeSend s = .next t ∧ t.align.x = s.align.x + 1 ∧
           t.align.probe = some (s.now, s.mget 0x3000 5, s.tclk + tclkOfUs 10)) ∧
       (∀ b : Bytes, (s.chan alignChan).portUp alignPort = true → exec (.echoReceived b) s = .next (s.takeEcho b)) ∧
       (∀ t1 n e, s.align.probe = some (t1, n, e) → e ≤ s.tclk → exec .echoTimeout s = .next s.exchangeOver)) ∧
     (∀ (c : Chan) (p : Port) (b : Bytes), s.chanUp c = true →
       exec (.probeReceived c p b) s = .next (s.answerProbe c p b))) ∧
  (∀ (t1 : T64) (d path hold : Nat), d < 2 ^ 40 → path < 2 ^ 40 → hold < 2 ^ 40 → t1.toNat < 2 ^ 62 →
     exchangeOf t1 (t1 + BitVec.ofNat 64 (path + d)) (t1 + BitVec.ofNat 64 (path + d + hold))
       (t1 + BitVec.ofNat 64 (2 * path + hold)) = (-(d : Int), 2 * (path : Int)))

/-- A command that acts in one channel alone changes nothing but that channel, what has left the module, and the count
of free values drawn: every other channel, the time base, the sessions, the network's queues, the Reeve and the pins
stay. -/
def Obligations.ChannelCommandsLeaveOtherChannels : Prop :=
  ∀ (i : Instr) (c : Chan) (s t : State), ofOneChannel i = some c → exec i s = .next t →
    onlyChannel c s t ∧ ∀ d : Chan, d ≠ c → t.chan d = s.chan d

/-- The commands of the field network, TLX sessions, USB and PTP messages that change no member leave every channel's
memories, rings and jobs as they are. -/
def Obligations.NetworkCommandsLeaveChannels : Prop :=
  ∀ (i : Instr) (s t : State), ofNetwork i = true → exec i s = .next t →
    t.chans = s.chans ∧ t.time = s.time ∧ t.pins = s.pins ∧ t.perst = s.perst ∧ t.upLink = s.upLink

/-- A BAR4 write changes no byte of the Cellar outside the 64-byte units that its bytes lie in, no byte of the Larder,
and nothing of any other channel. -/
def Obligations.Bar4WriteChangesOnlyItsUnits : Prop :=
  ∀ (s t : State) (c : Chan) (addr : Nat) (data : Bytes), memoryWf s → exec (.bar4Write c addr data) s = .next t →
    (∀ x : Nat, x < addr / 64 * 64 ∨ (addr + data.length + 63) / 64 * 64 ≤ x →
      memGet (t.chan c).cellar x = memGet (s.chan c).cellar x) ∧
    (t.chan c).larder = (s.chan c).larder ∧ ∀ d : Chan, d ≠ c → t.chan d = s.chan d
end

