-- ==== Sys2Proof/Laws/Memory.lean ====
section
/-! SUPPORT. Every operation on a byte store keeps its canonical form. -/

namespace Sys2Proof.Laws

open Sys2Proof Sys2Proof.Machine

/-- What precedes the rest of a canonical store lies below all of it. -/
theorem memWf_tail {x : Host.Cell} {r : List Host.Cell} (h : memWf (x :: r) = true) : memWf r = true := by
  obtain ⟨k, v⟩ := x
  cases r with
  | nil => rfl
  | cons y r => obtain ⟨k', v'⟩ := y; simp [memWf] at h; exact h.2

/-- A byte that is not what an unlisted address reads as, put below a canonical store, keeps it canonical. -/
theorem memWf_cons {k : Nat} {v : Byte} {r : List Host.Cell} (hv : v ≠ unwritten)
    (hk : ∀ y ∈ r.head?, k < y.1) (h : memWf r = true) : memWf ((k, v) :: r) = true := by
  cases r with
  | nil => simpa [memWf] using hv
  | cons y r =>
    obtain ⟨k', v'⟩ := y
    simp only [List.head?_cons, Option.mem_def, Option.some.injEq, forall_eq'] at hk
    simp [memWf, hv, hk, h]

/-- The first address of a store after a put is at least the lower of the two. -/
theorem memPut_head {k a : Nat} {b : Byte} {m : List Host.Cell} (ha : k < a) (hm : ∀ y ∈ m.head?, k < y.1)
    (hw : memWf m = true) : ∀ y ∈ (memPut m a b).head?, k < y.1 := by
  cases m with
  | nil =>
    intro y hy
    simp only [memPut] at hy
    split at hy
    · cases hy
    · cases hy; exact ha
  | cons x r =>
    obtain ⟨k', v⟩ := x
    simp only [List.head?_cons, Option.mem_def, Option.some.injEq, forall_eq'] at hm
    intro y hy
    simp only [memPut] at hy
    repeat' split at hy
    · cases r with
      | nil => cases hy
      | cons z r =>
        obtain ⟨k2, v2⟩ := z
        cases hy
        simp [memWf] at hw
        exact Nat.lt_trans hm hw.1.2
    · cases hy; exact ha
    · cases hy; exact hm
    · cases hy; exact ha
    · cases hy; exact hm

/-- Setting one byte keeps the canonical form. -/
theorem memPut_wf (m : List Host.Cell) (a : Nat) (b : Byte) (h : memWf m = true) : memWf (memPut m a b) = true := by
  induction m with
  | nil =>
    simp only [memPut]
    split
    · rfl
    · rename_i e; exact memWf_cons e (by simp) rfl
  | cons x r ih =>
    obtain ⟨k, v⟩ := x
    have hr := memWf_tail h
    have hv : v ≠ unwritten := by cases r <;> simp [memWf] at h <;> first | exact h | exact h.1.1
    have hk : ∀ y ∈ r.head?, k < y.1 := by
      cases r with
      | nil => simp
      | cons z r => obtain ⟨k2, v2⟩ := z; simp [memWf] at h; simpa using h.1.2
    simp only [memPut]
    split
    · rename_i e
      subst e
      split
      · exact hr
      · rename_i hb; exact memWf_cons hb hk hr
    · split
      · rename_i hlt
        split
        · exact h
        · rename_i hb; exact memWf_cons hb (by simpa using hlt) h
      · rename_i h1 h2
        exact memWf_cons hv (memPut_head (by omega) hk hr) (ih hr)

/-- Storing a run of bytes keeps the canonical form. -/
theorem memWrite_wf (m : List Host.Cell) (a : Nat) (b : Bytes) (h : memWf m = true) :
    memWf (memWrite m a b) = true := by
  induction b generalizing m a with
  | nil => exact h
  | cons x r ih => exact ih _ _ (memPut_wf m a x h)

/-- Filling one line of the Larder keeps both memories canonical. -/
theorem fillLine_wf (ch : Channel) (k : BitVec 256) (i : Slot) (line : Nat) (b : Bytes) (h : memWf ch.larder = true) :
    memWf (ch.fillLine k i line b).larder = true := memWrite_wf _ _ _ h

/-- Filling lines of the Larder keeps it canonical, and leaves the Cellar. -/
theorem fillLines_wf (ch : Channel) (k : BitVec 256) (i : Slot) (lines : List Nat) (b : Bytes) (h : memWf ch.larder = true) :
    memWf (ch.fillLines k i lines b).larder = true ∧ (ch.fillLines k i lines b).cellar = ch.cellar := by
  induction lines generalizing ch b with
  | nil => exact ⟨h, rfl⟩
  | cons l r ih =>
    simp only [Channel.fillLines]
    split
    · exact ⟨h, rfl⟩
    · exact ih _ _ (fillLine_wf ch k i l _ h)

end Sys2Proof.Laws
end

