-- ==== Sys2Proof/Laws/State.lean ====
section
/-! SUPPORT. The fields of State and of Channel under each named update, and what reads back after one. -/

namespace Sys2Proof.Machine

open Sys2Proof

/-! ## Dictionary stores -/

@[simp] theorem Dict.find_put_same (d : Dict) (k : Nat) (v : Word) : (d.put k v).find k = some v := by
  induction d with
  | nil => simp [Dict.put, Dict.find]
  | cons x r ih =>
    obtain ⟨a, u⟩ := x
    simp only [Dict.put]
    split
    · simp [Dict.find]
    · split
      · simp [Dict.find]
      · rename_i h
        simp [Dict.find, Ne.symm h, ih]

theorem Dict.find_put_other (d : Dict) {k k' : Nat} (v : Word) (h : k' ≠ k) : (d.put k v).find k' = d.find k' := by
  induction d with
  | nil => simp [Dict.put, Dict.find, Ne.symm h]
  | cons x r ih =>
    obtain ⟨a, u⟩ := x
    simp only [Dict.put]
    split
    · simp [Dict.find, Ne.symm h]
    · split
      · rename_i e
        subst e
        simp [Dict.find, Ne.symm h]
      · simp [Dict.find, ih]

@[simp] theorem State.mget_mput_same (s : State) (i j : Nat) (v : Word) : (s.mput i j v).mget i j = v := by
  simp [State.mput, State.mget]

theorem State.mget_mput_other (s : State) {i j i' j' : Nat} (v : Word) (h : dkey i' j' ≠ dkey i j) :
    (s.mput i j v).mget i' j' = s.mget i' j' := by
  simp [State.mput, State.mget, Dict.find_put_other _ v h]

@[simp] theorem Channel.get_put_same (ch : Channel) (i j : Nat) (v : Word) : (ch.put i j v).get i j = v := by
  simp [Channel.put, Channel.get]

theorem Channel.get_put_other (ch : Channel) {i j i' j' : Nat} (v : Word) (h : dkey i' j' ≠ dkey i j) :
    (ch.put i j v).get i' j' = ch.get i' j' := by
  simp [Channel.put, Channel.get, Dict.find_put_other _ v h]

/-! ## Channels, owners, ports, plans and sessions read back -/

@[simp] theorem State.chan_setChan_same (s : State) (c : Chan) (ch : Channel) : (s.setChan c ch).chan c = ch := by
  simp [State.setChan, State.chan]

theorem State.chan_setChan_other (s : State) {c d : Chan} (ch : Channel) (h : d ≠ c) :
    (s.setChan c ch).chan d = s.chan d := by
  have : c.val ≠ d.val := fun e => h (Fin.ext e.symm)
  simp [State.setChan, State.chan, this]

@[simp] theorem State.chan_modChan_same (s : State) (c : Chan) (f : Channel → Channel) :
    (s.modChan c f).chan c = f (s.chan c) := by simp [State.modChan]

theorem State.chan_modChan_other (s : State) {c d : Chan} (f : Channel → Channel) (h : d ≠ c) :
    (s.modChan c f).chan d = s.chan d := s.chan_setChan_other _ h

@[simp] theorem Channel.owner_setOwner_same (ch : Channel) (i : Slot) (o : Owner) : (ch.setOwner i o).owner i = o := by
  simp [Channel.setOwner, Channel.owner]

theorem Channel.owner_setOwner_other (ch : Channel) {i j : Slot} (o : Owner) (h : j ≠ i) :
    (ch.setOwner i o).owner j = ch.owner j := by
  have : i.val ≠ j.val := fun e => h (Fin.ext e.symm)
  simp [Channel.setOwner, Channel.owner, this]

@[simp] theorem Channel.port_setPort_same (ch : Channel) (p : Port) (r : RPort) : (ch.setPort p r).port p = r := by
  simp [Channel.setPort, Channel.port]

theorem Channel.port_setPort_other (ch : Channel) {p q : Port} (r : RPort) (h : q ≠ p) :
    (ch.setPort p r).port q = ch.port q := by
  have : p.val ≠ q.val := fun e => h (Fin.ext e.symm)
  simp [Channel.setPort, Channel.port, this]

@[simp] theorem Channel.plan_setPlan_same (ch : Channel) (i : Fin 16) (p : Plan) : (ch.setPlan i p).plan i = p := by
  simp [Channel.setPlan, Channel.plan]

@[simp] theorem State.session_setSession_same (s : State) (k : Fin 32) (x : Session) :
    (s.setSession k x).session k = x := by simp [State.setSession, State.session]

theorem State.session_setSession_other (s : State) {k l : Fin 32} (x : Session) (h : l ≠ k) :
    (s.setSession k x).session l = s.session l := by
  have : k.val ≠ l.val := fun e => h (Fin.ext e.symm)
  simp [State.setSession, State.session, this]

/-! ## Fields of State under each update -/

@[simp] theorem State.setChan_pending (s : State) (c : Chan) (ch : Channel) :
    (s.setChan c ch).pending = s.pending := rfl
@[simp] theorem State.setChan_free (s : State) (c : Chan) (ch : Channel) : (s.setChan c ch).free = s.free := rfl
@[simp] theorem State.setChan_out (s : State) (c : Chan) (ch : Channel) : (s.setChan c ch).out = s.out := rfl
@[simp] theorem State.setChan_tclk (s : State) (c : Chan) (ch : Channel) : (s.setChan c ch).tclk = s.tclk := rfl
@[simp] theorem State.setChan_time (s : State) (c : Chan) (ch : Channel) : (s.setChan c ch).time = s.time := rfl
@[simp] theorem State.setChan_ptp (s : State) (c : Chan) (ch : Channel) : (s.setChan c ch).ptp = s.ptp := rfl
@[simp] theorem State.setChan_dict (s : State) (c : Chan) (ch : Channel) : (s.setChan c ch).dict = s.dict := rfl
@[simp] theorem State.setChan_plca (s : State) (c : Chan) (ch : Channel) : (s.setChan c ch).plca = s.plca := rfl
@[simp] theorem State.setChan_txq (s : State) (c : Chan) (ch : Channel) : (s.setChan c ch).txq = s.txq := rfl
@[simp] theorem State.setChan_tlq (s : State) (c : Chan) (ch : Channel) : (s.setChan c ch).tlq = s.tlq := rfl
@[simp] theorem State.setChan_sessions (s : State) (c : Chan) (ch : Channel) :
    (s.setChan c ch).sessions = s.sessions := rfl
@[simp] theorem State.setChan_nextSid (s : State) (c : Chan) (ch : Channel) :
    (s.setChan c ch).nextSid = s.nextSid := rfl
@[simp] theorem State.setChan_usb (s : State) (c : Chan) (ch : Channel) : (s.setChan c ch).usb = s.usb := rfl
@[simp] theorem State.setChan_reeve (s : State) (c : Chan) (ch : Channel) : (s.setChan c ch).reeve = s.reeve := rfl
@[simp] theorem State.setChan_pins (s : State) (c : Chan) (ch : Channel) : (s.setChan c ch).pins = s.pins := rfl
@[simp] theorem State.setChan_align (s : State) (c : Chan) (ch : Channel) : (s.setChan c ch).align = s.align := rfl
@[simp] theorem State.setChan_perst (s : State) (c : Chan) (ch : Channel) : (s.setChan c ch).perst = s.perst := rfl
@[simp] theorem State.setChan_upLink (s : State) (c : Chan) (ch : Channel) : (s.setChan c ch).upLink = s.upLink := rfl
@[simp] theorem State.setChan_reeveQ (s : State) (c : Chan) (ch : Channel) : (s.setChan c ch).reeveQ = s.reeveQ := rfl
@[simp] theorem State.setChan_ring (s : State) (c : Chan) (ch : Channel) : (s.setChan c ch).ring = s.ring := rfl

@[simp] theorem State.modChan_pending (s : State) (c : Chan) (f : Channel → Channel) :
    (s.modChan c f).pending = s.pending := rfl
@[simp] theorem State.modChan_free (s : State) (c : Chan) (f : Channel → Channel) :
    (s.modChan c f).free = s.free := rfl
@[simp] theorem State.modChan_out (s : State) (c : Chan) (f : Channel → Channel) : (s.modChan c f).out = s.out := rfl
@[simp] theorem State.modChan_tclk (s : State) (c : Chan) (f : Channel → Channel) :
    (s.modChan c f).tclk = s.tclk := rfl
@[simp] theorem State.modChan_time (s : State) (c : Chan) (f : Channel → Channel) :
    (s.modChan c f).time = s.time := rfl
@[simp] theorem State.modChan_ptp (s : State) (c : Chan) (f : Channel → Channel) : (s.modChan c f).ptp = s.ptp := rfl
@[simp] theorem State.modChan_dict (s : State) (c : Chan) (f : Channel → Channel) :
    (s.modChan c f).dict = s.dict := rfl
@[simp] theorem State.modChan_plca (s : State) (c : Chan) (f : Channel → Channel) :
    (s.modChan c f).plca = s.plca := rfl
@[simp] theorem State.modChan_txq (s : State) (c : Chan) (f : Channel → Channel) : (s.modChan c f).txq = s.txq := rfl
@[simp] theorem State.modChan_tlq (s : State) (c : Chan) (f : Channel → Channel) : (s.modChan c f).tlq = s.tlq := rfl
@[simp] theorem State.modChan_sessions (s : State) (c : Chan) (f : Channel → Channel) :
    (s.modChan c f).sessions = s.sessions := rfl
@[simp] theorem State.modChan_nextSid (s : State) (c : Chan) (f : Channel → Channel) :
    (s.modChan c f).nextSid = s.nextSid := rfl
@[simp] theorem State.modChan_usb (s : State) (c : Chan) (f : Channel → Channel) : (s.modChan c f).usb = s.usb := rfl
@[simp] theorem State.modChan_reeve (s : State) (c : Chan) (f : Channel → Channel) :
    (s.modChan c f).reeve = s.reeve := rfl
@[simp] theorem State.modChan_pins (s : State) (c : Chan) (f : Channel → Channel) :
    (s.modChan c f).pins = s.pins := rfl
@[simp] theorem State.modChan_align (s : State) (c : Chan) (f : Channel → Channel) :
    (s.modChan c f).align = s.align := rfl
@[simp] theorem State.modChan_perst (s : State) (c : Chan) (f : Channel → Channel) :
    (s.modChan c f).perst = s.perst := rfl
@[simp] theorem State.modChan_upLink (s : State) (c : Chan) (f : Channel → Channel) :
    (s.modChan c f).upLink = s.upLink := rfl
@[simp] theorem State.modChan_reeveQ (s : State) (c : Chan) (f : Channel → Channel) :
    (s.modChan c f).reeveQ = s.reeveQ := rfl
@[simp] theorem State.modChan_ring (s : State) (c : Chan) (f : Channel → Channel) :
    (s.modChan c f).ring = s.ring := rfl

@[simp] theorem State.mput_pending (s : State) (i j : Nat) (v : Word) : (s.mput i j v).pending = s.pending := rfl
@[simp] theorem State.mput_free (s : State) (i j : Nat) (v : Word) : (s.mput i j v).free = s.free := rfl
@[simp] theorem State.mput_out (s : State) (i j : Nat) (v : Word) : (s.mput i j v).out = s.out := rfl
@[simp] theorem State.mput_tclk (s : State) (i j : Nat) (v : Word) : (s.mput i j v).tclk = s.tclk := rfl
@[simp] theorem State.mput_time (s : State) (i j : Nat) (v : Word) : (s.mput i j v).time = s.time := rfl
@[simp] theorem State.mput_ptp (s : State) (i j : Nat) (v : Word) : (s.mput i j v).ptp = s.ptp := rfl
@[simp] theorem State.mput_plca (s : State) (i j : Nat) (v : Word) : (s.mput i j v).plca = s.plca := rfl
@[simp] theorem State.mput_txq (s : State) (i j : Nat) (v : Word) : (s.mput i j v).txq = s.txq := rfl
@[simp] theorem State.mput_tlq (s : State) (i j : Nat) (v : Word) : (s.mput i j v).tlq = s.tlq := rfl
@[simp] theorem State.mput_sessions (s : State) (i j : Nat) (v : Word) : (s.mput i j v).sessions = s.sessions := rfl
@[simp] theorem State.mput_nextSid (s : State) (i j : Nat) (v : Word) : (s.mput i j v).nextSid = s.nextSid := rfl
@[simp] theorem State.mput_usb (s : State) (i j : Nat) (v : Word) : (s.mput i j v).usb = s.usb := rfl
@[simp] theorem State.mput_reeve (s : State) (i j : Nat) (v : Word) : (s.mput i j v).reeve = s.reeve := rfl
@[simp] theorem State.mput_pins (s : State) (i j : Nat) (v : Word) : (s.mput i j v).pins = s.pins := rfl
@[simp] theorem State.mput_align (s : State) (i j : Nat) (v : Word) : (s.mput i j v).align = s.align := rfl
@[simp] theorem State.mput_perst (s : State) (i j : Nat) (v : Word) : (s.mput i j v).perst = s.perst := rfl
@[simp] theorem State.mput_upLink (s : State) (i j : Nat) (v : Word) : (s.mput i j v).upLink = s.upLink := rfl
@[simp] theorem State.mput_reeveQ (s : State) (i j : Nat) (v : Word) : (s.mput i j v).reeveQ = s.reeveQ := rfl
@[simp] theorem State.mput_ring (s : State) (i j : Nat) (v : Word) : (s.mput i j v).ring = s.ring := rfl
@[simp] theorem State.mput_chans (s : State) (i j : Nat) (v : Word) : (s.mput i j v).chans = s.chans := rfl
@[simp] theorem State.mput_chan (s : State) (i j : Nat) (v : Word) : (s.mput i j v).chan = s.chan := rfl

@[simp] theorem State.emit_pending (s : State) (o : Out) : (s.emit o).pending = s.pending := rfl
@[simp] theorem State.emit_free (s : State) (o : Out) : (s.emit o).free = s.free := rfl
@[simp] theorem State.emit_tclk (s : State) (o : Out) : (s.emit o).tclk = s.tclk := rfl
@[simp] theorem State.emit_time (s : State) (o : Out) : (s.emit o).time = s.time := rfl
@[simp] theorem State.emit_ptp (s : State) (o : Out) : (s.emit o).ptp = s.ptp := rfl
@[simp] theorem State.emit_dict (s : State) (o : Out) : (s.emit o).dict = s.dict := rfl
@[simp] theorem State.emit_plca (s : State) (o : Out) : (s.emit o).plca = s.plca := rfl
@[simp] theorem State.emit_txq (s : State) (o : Out) : (s.emit o).txq = s.txq := rfl
@[simp] theorem State.emit_tlq (s : State) (o : Out) : (s.emit o).tlq = s.tlq := rfl
@[simp] theorem State.emit_sessions (s : State) (o : Out) : (s.emit o).sessions = s.sessions := rfl
@[simp] theorem State.emit_nextSid (s : State) (o : Out) : (s.emit o).nextSid = s.nextSid := rfl
@[simp] theorem State.emit_usb (s : State) (o : Out) : (s.emit o).usb = s.usb := rfl
@[simp] theorem State.emit_reeve (s : State) (o : Out) : (s.emit o).reeve = s.reeve := rfl
@[simp] theorem State.emit_pins (s : State) (o : Out) : (s.emit o).pins = s.pins := rfl
@[simp] theorem State.emit_align (s : State) (o : Out) : (s.emit o).align = s.align := rfl
@[simp] theorem State.emit_perst (s : State) (o : Out) : (s.emit o).perst = s.perst := rfl
@[simp] theorem State.emit_upLink (s : State) (o : Out) : (s.emit o).upLink = s.upLink := rfl
@[simp] theorem State.emit_reeveQ (s : State) (o : Out) : (s.emit o).reeveQ = s.reeveQ := rfl
@[simp] theorem State.emit_ring (s : State) (o : Out) : (s.emit o).ring = s.ring := rfl
@[simp] theorem State.emit_chans (s : State) (o : Out) : (s.emit o).chans = s.chans := rfl
@[simp] theorem State.emit_chan (s : State) (o : Out) : (s.emit o).chan = s.chan := rfl

@[simp] theorem State.drawn_pending (s : State) : (s.drawn).pending = s.pending := rfl
@[simp] theorem State.drawn_out (s : State) : (s.drawn).out = s.out := rfl
@[simp] theorem State.drawn_tclk (s : State) : (s.drawn).tclk = s.tclk := rfl
@[simp] theorem State.drawn_time (s : State) : (s.drawn).time = s.time := rfl
@[simp] theorem State.drawn_ptp (s : State) : (s.drawn).ptp = s.ptp := rfl
@[simp] theorem State.drawn_dict (s : State) : (s.drawn).dict = s.dict := rfl
@[simp] theorem State.drawn_plca (s : State) : (s.drawn).plca = s.plca := rfl
@[simp] theorem State.drawn_txq (s : State) : (s.drawn).txq = s.txq := rfl
@[simp] theorem State.drawn_tlq (s : State) : (s.drawn).tlq = s.tlq := rfl
@[simp] theorem State.drawn_sessions (s : State) : (s.drawn).sessions = s.sessions := rfl
@[simp] theorem State.drawn_nextSid (s : State) : (s.drawn).nextSid = s.nextSid := rfl
@[simp] theorem State.drawn_usb (s : State) : (s.drawn).usb = s.usb := rfl
@[simp] theorem State.drawn_reeve (s : State) : (s.drawn).reeve = s.reeve := rfl
@[simp] theorem State.drawn_pins (s : State) : (s.drawn).pins = s.pins := rfl
@[simp] theorem State.drawn_align (s : State) : (s.drawn).align = s.align := rfl
@[simp] theorem State.drawn_perst (s : State) : (s.drawn).perst = s.perst := rfl
@[simp] theorem State.drawn_upLink (s : State) : (s.drawn).upLink = s.upLink := rfl
@[simp] theorem State.drawn_reeveQ (s : State) : (s.drawn).reeveQ = s.reeveQ := rfl
@[simp] theorem State.drawn_ring (s : State) : (s.drawn).ring = s.ring := rfl
@[simp] theorem State.drawn_chans (s : State) : (s.drawn).chans = s.chans := rfl
@[simp] theorem State.drawn_chan (s : State) : (s.drawn).chan = s.chan := rfl

@[simp] theorem State.setSession_pending (s : State) (k : Fin 32) (x : Session) :
    (s.setSession k x).pending = s.pending := rfl
@[simp] theorem State.setSession_free (s : State) (k : Fin 32) (x : Session) : (s.setSession k x).free = s.free := rfl
@[simp] theorem State.setSession_out (s : State) (k : Fin 32) (x : Session) : (s.setSession k x).out = s.out := rfl
@[simp] theorem State.setSession_tclk (s : State) (k : Fin 32) (x : Session) : (s.setSession k x).tclk = s.tclk := rfl
@[simp] theorem State.setSession_time (s : State) (k : Fin 32) (x : Session) : (s.setSession k x).time = s.time := rfl
@[simp] theorem State.setSession_ptp (s : State) (k : Fin 32) (x : Session) : (s.setSession k x).ptp = s.ptp := rfl
@[simp] theorem State.setSession_dict (s : State) (k : Fin 32) (x : Session) : (s.setSession k x).dict = s.dict := rfl
@[simp] theorem State.setSession_plca (s : State) (k : Fin 32) (x : Session) : (s.setSession k x).plca = s.plca := rfl
@[simp] theorem State.setSession_txq (s : State) (k : Fin 32) (x : Session) : (s.setSession k x).txq = s.txq := rfl
@[simp] theorem State.setSession_tlq (s : State) (k : Fin 32) (x : Session) : (s.setSession k x).tlq = s.tlq := rfl
@[simp] theorem State.setSession_nextSid (s : State) (k : Fin 32) (x : Session) :
    (s.setSession k x).nextSid = s.nextSid := rfl
@[simp] theorem State.setSession_usb (s : State) (k : Fin 32) (x : Session) : (s.setSession k x).usb = s.usb := rfl
@[simp] theorem State.setSession_reeve (s : State) (k : Fin 32) (x : Session) :
    (s.setSession k x).reeve = s.reeve := rfl
@[simp] theorem State.setSession_pins (s : State) (k : Fin 32) (x : Session) : (s.setSession k x).pins = s.pins := rfl
@[simp] theorem State.setSession_align (s : State) (k : Fin 32) (x : Session) :
    (s.setSession k x).align = s.align := rfl
@[simp] theorem State.setSession_perst (s : State) (k : Fin 32) (x : Session) :
    (s.setSession k x).perst = s.perst := rfl
@[simp] theorem State.setSession_upLink (s : State) (k : Fin 32) (x : Session) :
    (s.setSession k x).upLink = s.upLink := rfl
@[simp] theorem State.setSession_reeveQ (s : State) (k : Fin 32) (x : Session) :
    (s.setSession k x).reeveQ = s.reeveQ := rfl
@[simp] theorem State.setSession_ring (s : State) (k : Fin 32) (x : Session) : (s.setSession k x).ring = s.ring := rfl
@[simp] theorem State.setSession_chans (s : State) (k : Fin 32) (x : Session) :
    (s.setSession k x).chans = s.chans := rfl
@[simp] theorem State.setSession_chan (s : State) (k : Fin 32) (x : Session) : (s.setSession k x).chan = s.chan := rfl

/-! ## Fields of Channel under each update -/

@[simp] theorem Channel.put_st (ch : Channel) (i j : Nat) (v : Word) : (ch.put i j v).st = ch.st := rfl
@[simp] theorem Channel.put_reason (ch : Channel) (i j : Nat) (v : Word) : (ch.put i j v).reason = ch.reason := rfl
@[simp] theorem Channel.put_steward (ch : Channel) (i j : Nat) (v : Word) : (ch.put i j v).steward = ch.steward := rfl
@[simp] theorem Channel.put_rebootWanted (ch : Channel) (i j : Nat) (v : Word) :
    (ch.put i j v).rebootWanted = ch.rebootWanted := rfl
@[simp] theorem Channel.put_bank (ch : Channel) (i j : Nat) (v : Word) : (ch.put i j v).bank = ch.bank := rfl
@[simp] theorem Channel.put_image (ch : Channel) (i j : Nat) (v : Word) : (ch.put i j v).image = ch.image := rfl
@[simp] theorem Channel.put_xtsFault (ch : Channel) (i j : Nat) (v : Word) :
    (ch.put i j v).xtsFault = ch.xtsFault := rfl
@[simp] theorem Channel.put_whtFault (ch : Channel) (i j : Nat) (v : Word) :
    (ch.put i j v).whtFault = ch.whtFault := rfl
@[simp] theorem Channel.put_cmp (ch : Channel) (i j : Nat) (v : Word) : (ch.put i j v).cmp = ch.cmp := rfl
@[simp] theorem Channel.put_ports (ch : Channel) (i j : Nat) (v : Word) : (ch.put i j v).ports = ch.ports := rfl
@[simp] theorem Channel.put_plans (ch : Channel) (i j : Nat) (v : Word) : (ch.put i j v).plans = ch.plans := rfl
@[simp] theorem Channel.put_loading (ch : Channel) (i j : Nat) (v : Word) : (ch.put i j v).loading = ch.loading := rfl
@[simp] theorem Channel.put_hatches (ch : Channel) (i j : Nat) (v : Word) : (ch.put i j v).hatches = ch.hatches := rfl
@[simp] theorem Channel.put_looms (ch : Channel) (i j : Nat) (v : Word) : (ch.put i j v).looms = ch.looms := rfl
@[simp] theorem Channel.put_stills (ch : Channel) (i j : Nat) (v : Word) : (ch.put i j v).stills = ch.stills := rfl
@[simp] theorem Channel.put_jobs (ch : Channel) (i j : Nat) (v : Word) : (ch.put i j v).jobs = ch.jobs := rfl
@[simp] theorem Channel.put_jobNum (ch : Channel) (i j : Nat) (v : Word) : (ch.put i j v).jobNum = ch.jobNum := rfl
@[simp] theorem Channel.put_slate (ch : Channel) (i j : Nat) (v : Word) : (ch.put i j v).slate = ch.slate := rfl
@[simp] theorem Channel.put_holds (ch : Channel) (i j : Nat) (v : Word) : (ch.put i j v).holds = ch.holds := rfl
@[simp] theorem Channel.put_fetching (ch : Channel) (i j : Nat) (v : Word) :
    (ch.put i j v).fetching = ch.fetching := rfl
@[simp] theorem Channel.put_served (ch : Channel) (i j : Nat) (v : Word) : (ch.put i j v).served = ch.served := rfl
@[simp] theorem Channel.put_completions (ch : Channel) (i j : Nat) (v : Word) :
    (ch.put i j v).completions = ch.completions := rfl
@[simp] theorem Channel.put_owners (ch : Channel) (i j : Nat) (v : Word) : (ch.put i j v).owners = ch.owners := rfl
@[simp] theorem Channel.put_install (ch : Channel) (i j : Nat) (v : Word) : (ch.put i j v).install = ch.install := rfl
@[simp] theorem Channel.put_chanKey (ch : Channel) (i j : Nat) (v : Word) : (ch.put i j v).chanKey = ch.chanKey := rfl
@[simp] theorem Channel.put_cellar (ch : Channel) (i j : Nat) (v : Word) : (ch.put i j v).cellar = ch.cellar := rfl
@[simp] theorem Channel.put_tags (ch : Channel) (i j : Nat) (v : Word) : (ch.put i j v).tags = ch.tags := rfl
@[simp] theorem Channel.put_tagging (ch : Channel) (i j : Nat) (v : Word) : (ch.put i j v).tagging = ch.tagging := rfl
@[simp] theorem Channel.put_larder (ch : Channel) (i j : Nat) (v : Word) : (ch.put i j v).larder = ch.larder := rfl
@[simp] theorem Channel.put_larderTags (ch : Channel) (i j : Nat) (v : Word) :
    (ch.put i j v).larderTags = ch.larderTags := rfl
@[simp] theorem Channel.put_host (ch : Channel) (i j : Nat) (v : Word) : (ch.put i j v).host = ch.host := rfl
@[simp] theorem Channel.put_chute (ch : Channel) (i j : Nat) (v : Word) : (ch.put i j v).chute = ch.chute := rfl
@[simp] theorem Channel.put_countQ (ch : Channel) (i j : Nat) (v : Word) : (ch.put i j v).countQ = ch.countQ := rfl
@[simp] theorem Channel.put_st0 (ch : Channel) (i j : Nat) (v : Word) : (ch.put i j v).st0 = ch.st0 := rfl
@[simp] theorem Channel.put_daybooks (ch : Channel) (i j : Nat) (v : Word) :
    (ch.put i j v).daybooks = ch.daybooks := rfl
@[simp] theorem Channel.put_stop (ch : Channel) (i j : Nat) (v : Word) : (ch.put i j v).stop = ch.stop := rfl
@[simp] theorem Channel.put_tap (ch : Channel) (i j : Nat) (v : Word) : (ch.put i j v).tap = ch.tap := rfl
@[simp] theorem Channel.put_dbg (ch : Channel) (i j : Nat) (v : Word) : (ch.put i j v).dbg = ch.dbg := rfl
@[simp] theorem Channel.put_gov (ch : Channel) (i j : Nat) (v : Word) : (ch.put i j v).gov = ch.gov := rfl

@[simp] theorem Channel.setOwner_st (ch : Channel) (i : Slot) (o : Owner) : (ch.setOwner i o).st = ch.st := rfl
@[simp] theorem Channel.setOwner_reason (ch : Channel) (i : Slot) (o : Owner) :
    (ch.setOwner i o).reason = ch.reason := rfl
@[simp] theorem Channel.setOwner_steward (ch : Channel) (i : Slot) (o : Owner) :
    (ch.setOwner i o).steward = ch.steward := rfl
@[simp] theorem Channel.setOwner_rebootWanted (ch : Channel) (i : Slot) (o : Owner) :
    (ch.setOwner i o).rebootWanted = ch.rebootWanted := rfl
@[simp] theorem Channel.setOwner_bank (ch : Channel) (i : Slot) (o : Owner) : (ch.setOwner i o).bank = ch.bank := rfl
@[simp] theorem Channel.setOwner_image (ch : Channel) (i : Slot) (o : Owner) :
    (ch.setOwner i o).image = ch.image := rfl
@[simp] theorem Channel.setOwner_xtsFault (ch : Channel) (i : Slot) (o : Owner) :
    (ch.setOwner i o).xtsFault = ch.xtsFault := rfl
@[simp] theorem Channel.setOwner_whtFault (ch : Channel) (i : Slot) (o : Owner) :
    (ch.setOwner i o).whtFault = ch.whtFault := rfl
@[simp] theorem Channel.setOwner_dict (ch : Channel) (i : Slot) (o : Owner) : (ch.setOwner i o).dict = ch.dict := rfl
@[simp] theorem Channel.setOwner_cmp (ch : Channel) (i : Slot) (o : Owner) : (ch.setOwner i o).cmp = ch.cmp := rfl
@[simp] theorem Channel.setOwner_ports (ch : Channel) (i : Slot) (o : Owner) :
    (ch.setOwner i o).ports = ch.ports := rfl
@[simp] theorem Channel.setOwner_plans (ch : Channel) (i : Slot) (o : Owner) :
    (ch.setOwner i o).plans = ch.plans := rfl
@[simp] theorem Channel.setOwner_loading (ch : Channel) (i : Slot) (o : Owner) :
    (ch.setOwner i o).loading = ch.loading := rfl
@[simp] theorem Channel.setOwner_hatches (ch : Channel) (i : Slot) (o : Owner) :
    (ch.setOwner i o).hatches = ch.hatches := rfl
@[simp] theorem Channel.setOwner_looms (ch : Channel) (i : Slot) (o : Owner) :
    (ch.setOwner i o).looms = ch.looms := rfl
@[simp] theorem Channel.setOwner_stills (ch : Channel) (i : Slot) (o : Owner) :
    (ch.setOwner i o).stills = ch.stills := rfl
@[simp] theorem Channel.setOwner_jobs (ch : Channel) (i : Slot) (o : Owner) : (ch.setOwner i o).jobs = ch.jobs := rfl
@[simp] theorem Channel.setOwner_jobNum (ch : Channel) (i : Slot) (o : Owner) :
    (ch.setOwner i o).jobNum = ch.jobNum := rfl
@[simp] theorem Channel.setOwner_slate (ch : Channel) (i : Slot) (o : Owner) :
    (ch.setOwner i o).slate = ch.slate := rfl
@[simp] theorem Channel.setOwner_holds (ch : Channel) (i : Slot) (o : Owner) :
    (ch.setOwner i o).holds = ch.holds := rfl
@[simp] theorem Channel.setOwner_fetching (ch : Channel) (i : Slot) (o : Owner) :
    (ch.setOwner i o).fetching = ch.fetching := rfl
@[simp] theorem Channel.setOwner_served (ch : Channel) (i : Slot) (o : Owner) :
    (ch.setOwner i o).served = ch.served := rfl
@[simp] theorem Channel.setOwner_completions (ch : Channel) (i : Slot) (o : Owner) :
    (ch.setOwner i o).completions = ch.completions := rfl
@[simp] theorem Channel.setOwner_install (ch : Channel) (i : Slot) (o : Owner) :
    (ch.setOwner i o).install = ch.install := rfl
@[simp] theorem Channel.setOwner_chanKey (ch : Channel) (i : Slot) (o : Owner) :
    (ch.setOwner i o).chanKey = ch.chanKey := rfl
@[simp] theorem Channel.setOwner_cellar (ch : Channel) (i : Slot) (o : Owner) :
    (ch.setOwner i o).cellar = ch.cellar := rfl
@[simp] theorem Channel.setOwner_tags (ch : Channel) (i : Slot) (o : Owner) : (ch.setOwner i o).tags = ch.tags := rfl
@[simp] theorem Channel.setOwner_tagging (ch : Channel) (i : Slot) (o : Owner) :
    (ch.setOwner i o).tagging = ch.tagging := rfl
@[simp] theorem Channel.setOwner_larder (ch : Channel) (i : Slot) (o : Owner) :
    (ch.setOwner i o).larder = ch.larder := rfl
@[simp] theorem Channel.setOwner_larderTags (ch : Channel) (i : Slot) (o : Owner) :
    (ch.setOwner i o).larderTags = ch.larderTags := rfl
@[simp] theorem Channel.setOwner_host (ch : Channel) (i : Slot) (o : Owner) : (ch.setOwner i o).host = ch.host := rfl
@[simp] theorem Channel.setOwner_chute (ch : Channel) (i : Slot) (o : Owner) :
    (ch.setOwner i o).chute = ch.chute := rfl
@[simp] theorem Channel.setOwner_countQ (ch : Channel) (i : Slot) (o : Owner) :
    (ch.setOwner i o).countQ = ch.countQ := rfl
@[simp] theorem Channel.setOwner_st0 (ch : Channel) (i : Slot) (o : Owner) : (ch.setOwner i o).st0 = ch.st0 := rfl
@[simp] theorem Channel.setOwner_daybooks (ch : Channel) (i : Slot) (o : Owner) :
    (ch.setOwner i o).daybooks = ch.daybooks := rfl
@[simp] theorem Channel.setOwner_stop (ch : Channel) (i : Slot) (o : Owner) : (ch.setOwner i o).stop = ch.stop := rfl
@[simp] theorem Channel.setOwner_tap (ch : Channel) (i : Slot) (o : Owner) : (ch.setOwner i o).tap = ch.tap := rfl
@[simp] theorem Channel.setOwner_dbg (ch : Channel) (i : Slot) (o : Owner) : (ch.setOwner i o).dbg = ch.dbg := rfl
@[simp] theorem Channel.setOwner_gov (ch : Channel) (i : Slot) (o : Owner) : (ch.setOwner i o).gov = ch.gov := rfl

@[simp] theorem Channel.setPort_st (ch : Channel) (p : Port) (r : RPort) : (ch.setPort p r).st = ch.st := rfl
@[simp] theorem Channel.setPort_reason (ch : Channel) (p : Port) (r : RPort) :
    (ch.setPort p r).reason = ch.reason := rfl
@[simp] theorem Channel.setPort_steward (ch : Channel) (p : Port) (r : RPort) :
    (ch.setPort p r).steward = ch.steward := rfl
@[simp] theorem Channel.setPort_rebootWanted (ch : Channel) (p : Port) (r : RPort) :
    (ch.setPort p r).rebootWanted = ch.rebootWanted := rfl
@[simp] theorem Channel.setPort_bank (ch : Channel) (p : Port) (r : RPort) : (ch.setPort p r).bank = ch.bank := rfl
@[simp] theorem Channel.setPort_image (ch : Channel) (p : Port) (r : RPort) : (ch.setPort p r).image = ch.image := rfl
@[simp] theorem Channel.setPort_xtsFault (ch : Channel) (p : Port) (r : RPort) :
    (ch.setPort p r).xtsFault = ch.xtsFault := rfl
@[simp] theorem Channel.setPort_whtFault (ch : Channel) (p : Port) (r : RPort) :
    (ch.setPort p r).whtFault = ch.whtFault := rfl
@[simp] theorem Channel.setPort_dict (ch : Channel) (p : Port) (r : RPort) : (ch.setPort p r).dict = ch.dict := rfl
@[simp] theorem Channel.setPort_cmp (ch : Channel) (p : Port) (r : RPort) : (ch.setPort p r).cmp = ch.cmp := rfl
@[simp] theorem Channel.setPort_plans (ch : Channel) (p : Port) (r : RPort) : (ch.setPort p r).plans = ch.plans := rfl
@[simp] theorem Channel.setPort_loading (ch : Channel) (p : Port) (r : RPort) :
    (ch.setPort p r).loading = ch.loading := rfl
@[simp] theorem Channel.setPort_hatches (ch : Channel) (p : Port) (r : RPort) :
    (ch.setPort p r).hatches = ch.hatches := rfl
@[simp] theorem Channel.setPort_looms (ch : Channel) (p : Port) (r : RPort) : (ch.setPort p r).looms = ch.looms := rfl
@[simp] theorem Channel.setPort_stills (ch : Channel) (p : Port) (r : RPort) :
    (ch.setPort p r).stills = ch.stills := rfl
@[simp] theorem Channel.setPort_jobs (ch : Channel) (p : Port) (r : RPort) : (ch.setPort p r).jobs = ch.jobs := rfl
@[simp] theorem Channel.setPort_jobNum (ch : Channel) (p : Port) (r : RPort) :
    (ch.setPort p r).jobNum = ch.jobNum := rfl
@[simp] theorem Channel.setPort_slate (ch : Channel) (p : Port) (r : RPort) : (ch.setPort p r).slate = ch.slate := rfl
@[simp] theorem Channel.setPort_holds (ch : Channel) (p : Port) (r : RPort) : (ch.setPort p r).holds = ch.holds := rfl
@[simp] theorem Channel.setPort_fetching (ch : Channel) (p : Port) (r : RPort) :
    (ch.setPort p r).fetching = ch.fetching := rfl
@[simp] theorem Channel.setPort_served (ch : Channel) (p : Port) (r : RPort) :
    (ch.setPort p r).served = ch.served := rfl
@[simp] theorem Channel.setPort_completions (ch : Channel) (p : Port) (r : RPort) :
    (ch.setPort p r).completions = ch.completions := rfl
@[simp] theorem Channel.setPort_owners (ch : Channel) (p : Port) (r : RPort) :
    (ch.setPort p r).owners = ch.owners := rfl
@[simp] theorem Channel.setPort_install (ch : Channel) (p : Port) (r : RPort) :
    (ch.setPort p r).install = ch.install := rfl
@[simp] theorem Channel.setPort_chanKey (ch : Channel) (p : Port) (r : RPort) :
    (ch.setPort p r).chanKey = ch.chanKey := rfl
@[simp] theorem Channel.setPort_cellar (ch : Channel) (p : Port) (r : RPort) :
    (ch.setPort p r).cellar = ch.cellar := rfl
@[simp] theorem Channel.setPort_tags (ch : Channel) (p : Port) (r : RPort) : (ch.setPort p r).tags = ch.tags := rfl
@[simp] theorem Channel.setPort_tagging (ch : Channel) (p : Port) (r : RPort) :
    (ch.setPort p r).tagging = ch.tagging := rfl
@[simp] theorem Channel.setPort_larder (ch : Channel) (p : Port) (r : RPort) :
    (ch.setPort p r).larder = ch.larder := rfl
@[simp] theorem Channel.setPort_larderTags (ch : Channel) (p : Port) (r : RPort) :
    (ch.setPort p r).larderTags = ch.larderTags := rfl
@[simp] theorem Channel.setPort_host (ch : Channel) (p : Port) (r : RPort) : (ch.setPort p r).host = ch.host := rfl
@[simp] theorem Channel.setPort_chute (ch : Channel) (p : Port) (r : RPort) : (ch.setPort p r).chute = ch.chute := rfl
@[simp] theorem Channel.setPort_countQ (ch : Channel) (p : Port) (r : RPort) :
    (ch.setPort p r).countQ = ch.countQ := rfl
@[simp] theorem Channel.setPort_st0 (ch : Channel) (p : Port) (r : RPort) : (ch.setPort p r).st0 = ch.st0 := rfl
@[simp] theorem Channel.setPort_daybooks (ch : Channel) (p : Port) (r : RPort) :
    (ch.setPort p r).daybooks = ch.daybooks := rfl
@[simp] theorem Channel.setPort_stop (ch : Channel) (p : Port) (r : RPort) : (ch.setPort p r).stop = ch.stop := rfl
@[simp] theorem Channel.setPort_tap (ch : Channel) (p : Port) (r : RPort) : (ch.setPort p r).tap = ch.tap := rfl
@[simp] theorem Channel.setPort_dbg (ch : Channel) (p : Port) (r : RPort) : (ch.setPort p r).dbg = ch.dbg := rfl
@[simp] theorem Channel.setPort_gov (ch : Channel) (p : Port) (r : RPort) : (ch.setPort p r).gov = ch.gov := rfl

@[simp] theorem Channel.setPlan_st (ch : Channel) (i : Fin 16) (p : Plan) : (ch.setPlan i p).st = ch.st := rfl
@[simp] theorem Channel.setPlan_reason (ch : Channel) (i : Fin 16) (p : Plan) :
    (ch.setPlan i p).reason = ch.reason := rfl
@[simp] theorem Channel.setPlan_steward (ch : Channel) (i : Fin 16) (p : Plan) :
    (ch.setPlan i p).steward = ch.steward := rfl
@[simp] theorem Channel.setPlan_rebootWanted (ch : Channel) (i : Fin 16) (p : Plan) :
    (ch.setPlan i p).rebootWanted = ch.rebootWanted := rfl
@[simp] theorem Channel.setPlan_bank (ch : Channel) (i : Fin 16) (p : Plan) : (ch.setPlan i p).bank = ch.bank := rfl
@[simp] theorem Channel.setPlan_image (ch : Channel) (i : Fin 16) (p : Plan) :
    (ch.setPlan i p).image = ch.image := rfl
@[simp] theorem Channel.setPlan_xtsFault (ch : Channel) (i : Fin 16) (p : Plan) :
    (ch.setPlan i p).xtsFault = ch.xtsFault := rfl
@[simp] theorem Channel.setPlan_whtFault (ch : Channel) (i : Fin 16) (p : Plan) :
    (ch.setPlan i p).whtFault = ch.whtFault := rfl
@[simp] theorem Channel.setPlan_dict (ch : Channel) (i : Fin 16) (p : Plan) : (ch.setPlan i p).dict = ch.dict := rfl
@[simp] theorem Channel.setPlan_cmp (ch : Channel) (i : Fin 16) (p : Plan) : (ch.setPlan i p).cmp = ch.cmp := rfl
@[simp] theorem Channel.setPlan_ports (ch : Channel) (i : Fin 16) (p : Plan) :
    (ch.setPlan i p).ports = ch.ports := rfl
@[simp] theorem Channel.setPlan_loading (ch : Channel) (i : Fin 16) (p : Plan) :
    (ch.setPlan i p).loading = ch.loading := rfl
@[simp] theorem Channel.setPlan_hatches (ch : Channel) (i : Fin 16) (p : Plan) :
    (ch.setPlan i p).hatches = ch.hatches := rfl
@[simp] theorem Channel.setPlan_looms (ch : Channel) (i : Fin 16) (p : Plan) :
    (ch.setPlan i p).looms = ch.looms := rfl
@[simp] theorem Channel.setPlan_stills (ch : Channel) (i : Fin 16) (p : Plan) :
    (ch.setPlan i p).stills = ch.stills := rfl
@[simp] theorem Channel.setPlan_jobs (ch : Channel) (i : Fin 16) (p : Plan) : (ch.setPlan i p).jobs = ch.jobs := rfl
@[simp] theorem Channel.setPlan_jobNum (ch : Channel) (i : Fin 16) (p : Plan) :
    (ch.setPlan i p).jobNum = ch.jobNum := rfl
@[simp] theorem Channel.setPlan_slate (ch : Channel) (i : Fin 16) (p : Plan) :
    (ch.setPlan i p).slate = ch.slate := rfl
@[simp] theorem Channel.setPlan_holds (ch : Channel) (i : Fin 16) (p : Plan) :
    (ch.setPlan i p).holds = ch.holds := rfl
@[simp] theorem Channel.setPlan_fetching (ch : Channel) (i : Fin 16) (p : Plan) :
    (ch.setPlan i p).fetching = ch.fetching := rfl
@[simp] theorem Channel.setPlan_served (ch : Channel) (i : Fin 16) (p : Plan) :
    (ch.setPlan i p).served = ch.served := rfl
@[simp] theorem Channel.setPlan_completions (ch : Channel) (i : Fin 16) (p : Plan) :
    (ch.setPlan i p).completions = ch.completions := rfl
@[simp] theorem Channel.setPlan_owners (ch : Channel) (i : Fin 16) (p : Plan) :
    (ch.setPlan i p).owners = ch.owners := rfl
@[simp] theorem Channel.setPlan_install (ch : Channel) (i : Fin 16) (p : Plan) :
    (ch.setPlan i p).install = ch.install := rfl
@[simp] theorem Channel.setPlan_chanKey (ch : Channel) (i : Fin 16) (p : Plan) :
    (ch.setPlan i p).chanKey = ch.chanKey := rfl
@[simp] theorem Channel.setPlan_cellar (ch : Channel) (i : Fin 16) (p : Plan) :
    (ch.setPlan i p).cellar = ch.cellar := rfl
@[simp] theorem Channel.setPlan_tags (ch : Channel) (i : Fin 16) (p : Plan) : (ch.setPlan i p).tags = ch.tags := rfl
@[simp] theorem Channel.setPlan_tagging (ch : Channel) (i : Fin 16) (p : Plan) :
    (ch.setPlan i p).tagging = ch.tagging := rfl
@[simp] theorem Channel.setPlan_larder (ch : Channel) (i : Fin 16) (p : Plan) :
    (ch.setPlan i p).larder = ch.larder := rfl
@[simp] theorem Channel.setPlan_larderTags (ch : Channel) (i : Fin 16) (p : Plan) :
    (ch.setPlan i p).larderTags = ch.larderTags := rfl
@[simp] theorem Channel.setPlan_host (ch : Channel) (i : Fin 16) (p : Plan) : (ch.setPlan i p).host = ch.host := rfl
@[simp] theorem Channel.setPlan_chute (ch : Channel) (i : Fin 16) (p : Plan) :
    (ch.setPlan i p).chute = ch.chute := rfl
@[simp] theorem Channel.setPlan_countQ (ch : Channel) (i : Fin 16) (p : Plan) :
    (ch.setPlan i p).countQ = ch.countQ := rfl
@[simp] theorem Channel.setPlan_st0 (ch : Channel) (i : Fin 16) (p : Plan) : (ch.setPlan i p).st0 = ch.st0 := rfl
@[simp] theorem Channel.setPlan_daybooks (ch : Channel) (i : Fin 16) (p : Plan) :
    (ch.setPlan i p).daybooks = ch.daybooks := rfl
@[simp] theorem Channel.setPlan_stop (ch : Channel) (i : Fin 16) (p : Plan) : (ch.setPlan i p).stop = ch.stop := rfl
@[simp] theorem Channel.setPlan_tap (ch : Channel) (i : Fin 16) (p : Plan) : (ch.setPlan i p).tap = ch.tap := rfl
@[simp] theorem Channel.setPlan_dbg (ch : Channel) (i : Fin 16) (p : Plan) : (ch.setPlan i p).dbg = ch.dbg := rfl
@[simp] theorem Channel.setPlan_gov (ch : Channel) (i : Fin 16) (p : Plan) : (ch.setPlan i p).gov = ch.gov := rfl

end Sys2Proof.Machine
end

