-- ==== Sys2Proof/Laws/ChanMem.lean ====
section
/-! SUPPORT. The operations on one channel that leave the bytes of its Cellar and of its Larder, one lemma for each. -/

namespace Sys2Proof.Laws

open Sys2Proof Sys2Proof.Machine

/-- The memories of two channels are the same. -/
def SameMem (a b : Channel) : Prop := b.cellar = a.cellar ∧ b.larder = a.larder

@[simp] theorem sameMem_iff (a b : Channel) : SameMem a b ↔ b.cellar = a.cellar ∧ b.larder = a.larder := Iff.rfl

@[simp] theorem mem_foldl {α : Type} (l : List α) (f : Channel → α → Channel) (h : ∀ ch x, SameMem ch (f ch x))
    (ch : Channel) : (l.foldl f ch).cellar = ch.cellar ∧ (l.foldl f ch).larder = ch.larder := by
  induction l generalizing ch with
  | nil => exact ⟨rfl, rfl⟩
  | cons x r ih => rw [List.foldl_cons, (ih _).1, (ih _).2]; exact h ch x

@[simp] theorem mem_ite (p : Prop) [Decidable p] (a b : Channel) :
    (if p then a else b).cellar = (if p then a.cellar else b.cellar) ∧
    (if p then a else b).larder = if p then a.larder else b.larder := by split <;> exact ⟨rfl, rfl⟩

@[simp] theorem mem_count (ch : Channel) (i j n bits : Nat) :
    (ch.count i j n bits).cellar = ch.cellar ∧ (ch.count i j n bits).larder = ch.larder := ⟨rfl, rfl⟩

@[simp] theorem mem_modOwner (ch : Channel) (s : Slot) (f : Owner → Owner) :
    (ch.modOwner s f).cellar = ch.cellar ∧ (ch.modOwner s f).larder = ch.larder := by
  simp [Channel.modOwner]

@[simp] theorem mem_modPort (ch : Channel) (p : Port) (f : RPort → RPort) :
    (ch.modPort p f).cellar = ch.cellar ∧ (ch.modPort p f).larder = ch.larder := by
  simp [Channel.modPort]

@[simp] theorem mem_orBits (ch : Channel) (off sub : Nat) (m : Word) :
    (ch.orBits off sub m).cellar = ch.cellar ∧ (ch.orBits off sub m).larder = ch.larder := by
  simp [Channel.orBits]

@[simp] theorem mem_clearBits (ch : Channel) (off sub : Nat) (m : Word) :
    (ch.clearBits off sub m).cellar = ch.cellar ∧ (ch.clearBits off sub m).larder = ch.larder := by
  simp [Channel.clearBits]

@[simp] theorem mem_writeDaybook (ch : Channel) (u num : Nat) (t : T64) (pay : Word) :
    (ch.writeDaybook u num t pay).cellar = ch.cellar ∧ (ch.writeDaybook u num t pay).larder = ch.larder := by
  simp [Channel.writeDaybook]

@[simp] theorem mem_pushCount (ch : Channel) (u num : Nat) (t : T64) (n : Nat) :
    (ch.pushCount u num t n).cellar = ch.cellar ∧ (ch.pushCount u num t n).larder = ch.larder := by
  simp [Channel.pushCount]

@[simp] theorem mem_lose (ch : Channel) (now : T64) (s : Slot) (cause : BitVec 16) (n : Nat) (first last : T64) :
    (ch.lose now s cause n first last).cellar = ch.cellar ∧ (ch.lose now s cause n first last).larder = ch.larder := by
  simp [Channel.lose]

@[simp] theorem mem_setQueue (ch : Channel) (u : Byte) (q : List Rec) :
    (ch.setQueue u q).cellar = ch.cellar ∧ (ch.setQueue u q).larder = ch.larder := by
  simp [Channel.setQueue]

@[simp] theorem mem_enqueue (ch : Channel) (now : T64) (r : Rec) :
    (ch.enqueue now r).cellar = ch.cellar ∧ (ch.enqueue now r).larder = ch.larder := by
  unfold Channel.enqueue; (try dsimp only); (repeat' split) <;> simp

@[simp] theorem mem_hand (ch : Channel) (r : Rec) :
    (ch.hand r).cellar = ch.cellar ∧ (ch.hand r).larder = ch.larder := by
  simp [Channel.hand]

@[simp] theorem mem_feedTally (ch : Channel) :
    ch.feedTally.cellar = ch.cellar ∧ ch.feedTally.larder = ch.larder := by
  unfold Channel.feedTally; (try dsimp only); (repeat' split) <;> simp

@[simp] theorem mem_occur (ch : Channel) (now t : T64) (epoch : Nat) (e : Ev) :
    (ch.occur now t epoch e).cellar = ch.cellar ∧ (ch.occur now t epoch e).larder = ch.larder := by
  simp [Channel.occur]

@[simp] theorem mem_loomStart (ch : Channel) (now : T64) (epoch : Nat) :
    (ch.loomStart now epoch).cellar = ch.cellar ∧ (ch.loomStart now epoch).larder = ch.larder := by
  unfold Channel.loomStart; (try dsimp only); (repeat' split) <;> simp

@[simp] theorem mem_sealTrace (ch : Channel) (now : T64) (s : Slot) :
    (ch.sealTrace now s).cellar = ch.cellar ∧ (ch.sealTrace now s).larder = ch.larder := by
  unfold Channel.sealTrace; (try dsimp only); (repeat' split) <;> simp

@[simp] theorem mem_spend (ch : Channel) (s : Slot) :
    (ch.spend s).cellar = ch.cellar ∧ (ch.spend s).larder = ch.larder := by
  unfold Channel.spend; (try dsimp only); (repeat' split) <;> simp

@[simp] theorem mem_appendRec (ch : Channel) (tclk : Nat) (s : Slot) (r : Rec) :
    (ch.appendRec tclk s r).cellar = ch.cellar ∧ (ch.appendRec tclk s r).larder = ch.larder := by
  simp [Channel.appendRec]

@[simp] theorem mem_sealAsFull (ch : Channel) (now : T64) (s : Slot) :
    (ch.sealAsFull now s).cellar = ch.cellar ∧ (ch.sealAsFull now s).larder = ch.larder := by
  simp [Channel.sealAsFull]

@[simp] theorem mem_sealFull (ch : Channel) (now : T64) (s : Slot) :
    (ch.sealFull now s).cellar = ch.cellar ∧ (ch.sealFull now s).larder = ch.larder := by
  simp [Channel.sealFull]

@[simp] theorem mem_refill (ch : Channel) (tclk : Nat) :
    (ch.refill tclk).cellar = ch.cellar ∧ (ch.refill tclk).larder = ch.larder := by
  simp [Channel.refill]

@[simp] theorem mem_putRec (ch : Channel) (now : T64) (tclk : Nat) (s : Slot) (r : Rec) (g : Option Rec) :
    (ch.putRec now tclk s r g).cellar = ch.cellar ∧ (ch.putRec now tclk s r g).larder = ch.larder := by
  unfold Channel.putRec; (try dsimp only); (repeat' split) <;> simp

@[simp] theorem mem_putAll (ch : Channel) (now : T64) (tclk : Nat) (s : Slot) (l : List (Rec × Option Rec)) :
    (ch.putAll now tclk s l).cellar = ch.cellar ∧ (ch.putAll now tclk s l).larder = ch.larder := by
  induction l generalizing ch with
  | nil => exact ⟨rfl, rfl⟩
  | cons x r ih =>
    unfold Channel.putAll
    split
    · rw [(ih _).1, (ih _).2]; simp
    · simp

@[simp] theorem mem_putHeld (ch : Channel) (now : T64) (tclk : Nat) (s : Slot) :
    (ch.putHeld now tclk s).cellar = ch.cellar ∧ (ch.putHeld now tclk s).larder = ch.larder := by
  unfold Channel.putHeld; (try dsimp only); (repeat' split) <;> simp

@[simp] theorem mem_putKept (ch : Channel) (now : T64) (tclk : Nat) (s : Slot) (r : Rec) (g : Option Rec) :
    (ch.putKept now tclk s r g).cellar = ch.cellar ∧ (ch.putKept now tclk s r g).larder = ch.larder := by
  simp [Channel.putKept]

@[simp] theorem mem_deliver (ch : Channel) (now : T64) (tclk : Nat) (r : Rec) (s : Slot) :
    (ch.deliver now tclk r s).cellar = ch.cellar ∧ (ch.deliver now tclk r s).larder = ch.larder := by
  unfold Channel.deliver; (try dsimp only); (repeat' split) <;> simp

@[simp] theorem mem_withhold (ch : Channel) (r : Rec) (s : Slot) :
    (ch.withhold r s).cellar = ch.cellar ∧ (ch.withhold r s).larder = ch.larder := by
  simp [Channel.withhold]

@[simp] theorem mem_route (ch : Channel) (now : T64) (tclk : Nat) (r : Rec) :
    (ch.route now tclk r).cellar = ch.cellar ∧ (ch.route now tclk r).larder = ch.larder := by
  simp [Channel.route]

@[simp] theorem mem_admitHeld (ch : Channel) (u : Byte) :
    (ch.admitHeld u).cellar = ch.cellar ∧ (ch.admitHeld u).larder = ch.larder := by
  unfold Channel.admitHeld; (try dsimp only); (repeat' split) <;> simp

@[simp] theorem mem_watchFull (ch : Channel) (tclk : Nat) :
    (ch.watchFull tclk).cellar = ch.cellar ∧ (ch.watchFull tclk).larder = ch.larder := by
  simp [Channel.watchFull]

@[simp] theorem mem_routeStep (ch : Channel) (now : T64) (tclk : Nat) (r : Option Rec) (base : T64) :
    (ch.routeStep now tclk r base).cellar = ch.cellar ∧ (ch.routeStep now tclk r base).larder = ch.larder := by
  unfold Channel.routeStep
  refine mem_foldl _ _ ?_ _
  intro ch x
  (repeat' split) <;> simp

@[simp] theorem mem_stepShown (ch : Channel) :
    ch.stepShown.cellar = ch.cellar ∧ ch.stepShown.larder = ch.larder := ⟨rfl, rfl⟩

@[simp] theorem mem_putWaiting (ch : Channel) (now : T64) (tclk : Nat) (l : List Slot) :
    (l.foldl (fun (ch : Channel) s => if (ch.owner s).ts.wait.isEmpty then ch else ch.putHeld now tclk s) ch).cellar =
      ch.cellar ∧
    (l.foldl (fun (ch : Channel) s => if (ch.owner s).ts.wait.isEmpty then ch else ch.putHeld now tclk s) ch).larder =
      ch.larder := by
  refine mem_foldl _ _ ?_ _
  intro ch x
  split <;> simp

@[simp] theorem mem_mergeOne (ch : Channel) (now : T64) (tclk : Nat) (edge : Option T64) :
    (ch.mergeOne now tclk edge).cellar = ch.cellar ∧ (ch.mergeOne now tclk edge).larder = ch.larder := by
  unfold Channel.mergeOne; (try dsimp only); (repeat' split) <;> simp

@[simp] theorem mem_mergeAll (ch : Channel) (now : T64) (tclk n : Nat) :
    (ch.mergeAll now tclk n).cellar = ch.cellar ∧ (ch.mergeAll now tclk n).larder = ch.larder := by
  induction n generalizing ch with
  | zero => exact ⟨rfl, rfl⟩
  | succ k ih =>
    unfold Channel.mergeAll
    (try dsimp only)
    (repeat' split) <;> simp [ih]

@[simp] theorem mem_releaseSources (ch : Channel) (now : T64) (cause : BitVec 16) :
    (ch.releaseSources now cause).cellar = ch.cellar ∧ (ch.releaseSources now cause).larder = ch.larder := by
  unfold Channel.releaseSources
  refine (mem_foldl _ _ ?_ _)
  intro ch r
  split
  · simp
  · exact mem_foldl _ _ (by intro ch i; simp) _

@[simp] theorem mem_fallSilent (ch : Channel) (now : T64) (cause : BitVec 16) :
    (ch.fallSilent now cause).cellar = ch.cellar ∧ (ch.fallSilent now cause).larder = ch.larder := by
  simp [Channel.fallSilent]

@[simp] theorem mem_resumeTrace (ch : Channel) (now : T64) (tclk : Nat) :
    (ch.resumeTrace now tclk).cellar = ch.cellar ∧ (ch.resumeTrace now tclk).larder = ch.larder := by
  unfold Channel.resumeTrace
  rw [(mem_foldl _ _ ?_ _).1, (mem_foldl _ _ ?_ _).2]
  · simp
  all_goals
    intro ch x
    (try dsimp only)
    (repeat' split) <;> simp

@[simp] theorem mem_sealEvery (ch : Channel) (now : T64) (tclk : Nat) :
    (ch.sealEvery now tclk).cellar = ch.cellar ∧ (ch.sealEvery now tclk).larder = ch.larder := by
  simp [Channel.sealEvery]

@[simp] theorem mem_settleMode (ch : Channel) :
    (ch.settleMode).cellar = ch.cellar ∧ (ch.settleMode).larder = ch.larder := by
  unfold Channel.settleMode; (try dsimp only); (repeat' split) <;> simp

@[simp] theorem mem_loseTrace (ch : Channel) (now : T64) (s : Slot) (cause : BitVec 16) :
    (ch.loseTrace now s cause).cellar = ch.cellar ∧ (ch.loseTrace now s cause).larder = ch.larder := by
  simp [Channel.loseTrace]

@[simp] theorem mem_closeTrace (ch : Channel) (now : T64) (tclk : Nat) (cause : BitVec 16) (written : Bool) :
    (ch.closeTrace now tclk cause written).cellar = ch.cellar ∧ (ch.closeTrace now tclk cause written).larder = ch.larder := by
  unfold Channel.closeTrace; (try dsimp only); (repeat' split) <;> simp

@[simp] theorem mem_wrote (ch : Channel) (k : RingKind) :
    (ch.wrote k).cellar = ch.cellar ∧ (ch.wrote k).larder = ch.larder := by
  exact ⟨rfl, rfl⟩

@[simp] theorem mem_discardTrace (ch : Channel) (now : T64) (s : Slot) :
    (ch.discardTrace now s).cellar = ch.cellar ∧ (ch.discardTrace now s).larder = ch.larder := by
  simp [Channel.discardTrace]

@[simp] theorem mem_periodic (ch : Channel) (now t : T64) (tclk : Nat) :
    (ch.periodic now t tclk).cellar = ch.cellar ∧ (ch.periodic now t tclk).larder = ch.larder := by
  unfold Channel.periodic
  split
  · rw [(mem_foldl _ _ ?_ _).1, (mem_foldl _ _ ?_ _).2]
    · simp
    all_goals
      intro ch x
      (try dsimp only)
      (repeat' split) <;> simp
  · simp

@[simp] theorem mem_loseStaged (ch : Channel) (now : T64) (i : Slot) :
    (ch.loseStaged now i).cellar = ch.cellar ∧ (ch.loseStaged now i).larder = ch.larder := by
  simp [Channel.loseStaged]

@[simp] theorem mem_disableTrace (ch : Channel) (now : T64) (tclk : Nat) (i : Slot) :
    (ch.disableTrace now tclk i).cellar = ch.cellar ∧ (ch.disableTrace now tclk i).larder = ch.larder := by
  unfold Channel.disableTrace; (try dsimp only); (repeat' split) <;> simp

@[simp] theorem mem_stillReport (ch : Channel) (n : Fin 2) (f : StillFlags) :
    (ch.stillReport n f).cellar = ch.cellar ∧ (ch.stillReport n f).larder = ch.larder := by
  simp [Channel.stillReport]

@[simp] theorem mem_sealStream (ch : Channel) (k : StreamKind) (i : Slot) :
    (ch.sealStream k i).cellar = ch.cellar ∧ (ch.sealStream k i).larder = ch.larder := by
  unfold Channel.sealStream; (try dsimp only); (repeat' split) <;> simp

@[simp] theorem mem_pushPieces (ch : Channel) (k : StreamKind) (i : Slot) (tclk n : Nat) (head : Bool) (data : Bytes) :
    (ch.pushPieces k i tclk n head data).cellar = ch.cellar ∧ (ch.pushPieces k i tclk n head data).larder = ch.larder := by
  induction n generalizing ch head data with
  | zero => exact ⟨rfl, rfl⟩
  | succ m ih =>
    unfold Channel.pushPieces
    split
    · exact ⟨rfl, rfl⟩
    · dsimp only
      rw [(ih _ _ _).1, (ih _ _ _).2]
      split <;> simp

@[simp] theorem mem_pushRecord (ch : Channel) (k : StreamKind) (i : Slot) (tclk : Nat) (data : Bytes) :
    (ch.pushRecord k i tclk data).cellar = ch.cellar ∧ (ch.pushRecord k i tclk data).larder = ch.larder := by
  simp [Channel.pushRecord]

@[simp] theorem mem_writeCompletion (ch : Channel) (now : T64) (tclk : Nat) (x : Completion) :
    (ch.writeCompletion now tclk x).cellar = ch.cellar ∧ (ch.writeCompletion now tclk x).larder = ch.larder := by
  simp [Channel.writeCompletion]

@[simp] theorem mem_disableStream (ch : Channel) (k : StreamKind) (i : Slot) (irq : Bool) :
    (ch.disableStream k i irq).cellar = ch.cellar ∧ (ch.disableStream k i irq).larder = ch.larder := by
  simp [Channel.disableStream]

@[simp] theorem mem_setPoint (ch : Channel) (p : Fin 8) (d : DecantPt) :
    (ch.setPoint p d).cellar = ch.cellar ∧ (ch.setPoint p d).larder = ch.larder := by
  simp [Channel.setPoint]

@[simp] theorem mem_armPoint (ch : Channel) (view : View) (s : Slot) (p : Fin 8) (v : BitVec 32) :
    (ch.armPoint view s p v).cellar = ch.cellar ∧ (ch.armPoint view s p v).larder = ch.larder := by
  simp [Channel.armPoint]

@[simp] theorem mem_disarmPoint (ch : Channel) (view : View) (s : Slot) (p : Fin 8) (v : BitVec 32) :
    (ch.disarmPoint view s p v).cellar = ch.cellar ∧ (ch.disarmPoint view s p v).larder = ch.larder := by
  simp [Channel.disarmPoint]

@[simp] theorem mem_takeDecSeq (ch : Channel) (i : Slot) :
    (ch.takeDecSeq i).2.cellar = ch.cellar ∧ (ch.takeDecSeq i).2.larder = ch.larder := by
  simp [Channel.takeDecSeq]

@[simp] theorem mem_putDecRecord (ch : Channel) (tclk : Nat) (p : Fin 8) (r : DecRec) :
    (ch.putDecRecord tclk p r).cellar = ch.cellar ∧ (ch.putDecRecord tclk p r).larder = ch.larder := by
  simp [Channel.putDecRecord]

@[simp] theorem mem_drain (ch : Channel) (now : T64) (tclk : Nat) (l : Fin 2) (cap : Capture) (bad : Bool) :
    (ch.drain now tclk l cap bad).cellar = ch.cellar ∧ (ch.drain now tclk l cap bad).larder = ch.larder := by
  simp [Channel.drain]

@[simp] theorem mem_addFixed (ch : Channel) (j n : Nat) :
    (ch.addFixed j n).1.cellar = ch.cellar ∧ (ch.addFixed j n).1.larder = ch.larder := by
  unfold Channel.addFixed; (try dsimp only); (repeat' split) <;> simp

@[simp] theorem mem_addProg (ch : Channel) (u i n : Nat) :
    (ch.addProg u i n).1.cellar = ch.cellar ∧ (ch.addProg u i n).1.larder = ch.larder := by
  unfold Channel.addProg; (try dsimp only); (repeat' split) <;> simp

@[simp] theorem mem_releaseStocktake (ch : Channel) :
    ch.releaseStocktake.cellar = ch.cellar ∧ ch.releaseStocktake.larder = ch.larder := by
  simp [Channel.releaseStocktake]

@[simp] theorem mem_maskMoved (ch : Channel) :
    ch.maskMoved.cellar = ch.cellar ∧ ch.maskMoved.larder = ch.larder := by
  simp [Channel.maskMoved]

@[simp] theorem mem_armT64 (ch : Channel) (now v : T64) :
    (ch.armT64 now v).cellar = ch.cellar ∧ (ch.armT64 now v).larder = ch.larder := by
  simp [Channel.armT64]

@[simp] theorem mem_pendFreeze (ch : Channel) (at_ : Nat) (forced : Bool) :
    (ch.pendFreeze at_ forced).cellar = ch.cellar ∧ (ch.pendFreeze at_ forced).larder = ch.larder := by
  exact ⟨rfl, rfl⟩

@[simp] theorem mem_noteBefore (ch : Channel) (tclk off sub : Nat) (mask : Word) :
    (ch.noteBefore tclk off sub mask).cellar = ch.cellar ∧ (ch.noteBefore tclk off sub mask).larder = ch.larder := by
  exact ⟨rfl, rfl⟩

@[simp] theorem mem_clearCounters (ch : Channel) :
    ch.clearCounters.cellar = ch.cellar ∧ ch.clearCounters.larder = ch.larder := by
  simp [Channel.clearCounters]

@[simp] theorem mem_modCmp (ch : Channel) (k : Fin 5) (f : Cmp → Cmp) :
    (ch.modCmp k f).cellar = ch.cellar ∧ (ch.modCmp k f).larder = ch.larder := by
  simp [Channel.modCmp]

@[simp] theorem mem_disarm (ch : Channel) (k : Fin 5) :
    (ch.disarm k).cellar = ch.cellar ∧ (ch.disarm k).larder = ch.larder := by
  simp [Channel.disarm]

@[simp] theorem mem_startArming (ch : Channel) (tclk : Nat) (k : Fin 5) :
    (ch.startArming tclk k).cellar = ch.cellar ∧ (ch.startArming tclk k).larder = ch.larder := by
  simp [Channel.startArming]

@[simp] theorem mem_restartCounts (ch : Channel) (k : Fin 5) :
    (ch.restartCounts k).cellar = ch.cellar ∧ (ch.restartCounts k).larder = ch.larder := by
  simp [Channel.restartCounts]

@[simp] theorem mem_tickHeld (ch : Channel) (tclk : Nat) :
    (ch.tickHeld tclk).cellar = ch.cellar ∧ (ch.tickHeld tclk).larder = ch.larder := by
  simp [Channel.tickHeld]

@[simp] theorem mem_crossLoad (ch : Channel) (before after_ : T64) (tclk : Nat) :
    (ch.crossLoad before after_ tclk).cellar = ch.cellar ∧ (ch.crossLoad before after_ tclk).larder = ch.larder := by
  simp [Channel.crossLoad]

@[simp] theorem mem_portReset (ch : Channel) (tclk : Nat) (p : Port) :
    (ch.portReset tclk p).cellar = ch.cellar ∧ (ch.portReset tclk p).larder = ch.larder := by
  simp [Channel.portReset]

@[simp] theorem mem_setTag (ch : Channel) (page tag : Nat) :
    (ch.setTag page tag).cellar = ch.cellar ∧ (ch.setTag page tag).larder = ch.larder := by
  simp [Channel.setTag]

@[simp] theorem mem_modRunning (ch : Channel) (f : Job → Job) :
    (ch.modRunning f).cellar = ch.cellar ∧ (ch.modRunning f).larder = ch.larder := by
  simp [Channel.modRunning]

@[simp] theorem mem_removeJob (ch : Channel) (j : Job) :
    (ch.removeJob j).cellar = ch.cellar ∧ (ch.removeJob j).larder = ch.larder := by
  simp [Channel.removeJob]

@[simp] theorem mem_putHatch (ch : Channel) (h : Fin 16) (data : Bytes) :
    (ch.putHatch h data).cellar = ch.cellar ∧ (ch.putHatch h data).larder = ch.larder := by
  simp [Channel.putHatch]

@[simp] theorem mem_takeHatch (ch : Channel) (h : Fin 16) (n : Nat) :
    (ch.takeHatch h n).cellar = ch.cellar ∧ (ch.takeHatch h n).larder = ch.larder := by
  simp [Channel.takeHatch]

@[simp] theorem mem_takePayload (ch : Channel) (d : TxData) (n : Nat) :
    (ch.takePayload d n).cellar = ch.cellar ∧ (ch.takePayload d n).larder = ch.larder := by
  unfold Channel.takePayload; (try dsimp only); (repeat' split) <;> simp

@[simp] theorem mem_setStill (ch : Channel) (n : Fin 2) (x : Still) :
    (ch.setStill n x).cellar = ch.cellar ∧ (ch.setStill n x).larder = ch.larder := by
  exact ⟨rfl, rfl⟩

@[simp] theorem mem_keepWork (ch : Channel) (k : Nat) (left : List TileOp) :
    (ch.keepWork k left).cellar = ch.cellar ∧ (ch.keepWork k left).larder = ch.larder := by
  exact ⟨rfl, rfl⟩

@[simp] theorem mem_clearUnits (ch : Channel) :
    (ch.clearUnits).cellar = ch.cellar ∧ (ch.clearUnits).larder = ch.larder := by
  exact ⟨rfl, rfl⟩

@[simp] theorem mem_drainSlot (ch : Channel) (q : Port) (j : Job) (h : Fin 16) :
    (ch.drainSlot q j h).cellar = ch.cellar ∧ (ch.drainSlot q j h).larder = ch.larder := by
  unfold Channel.drainSlot; (try dsimp only); (repeat' split) <;> simp

@[simp] theorem mem_drainPad (ch : Channel) (j : Job) (h : Fin 16) :
    (ch.drainPad j h).cellar = ch.cellar ∧ (ch.drainPad j h).larder = ch.larder := by
  simp [Channel.drainPad]

@[simp] theorem mem_sendTensor (ch : Channel) (j : Job) (q : Port) (stream h : Fin 16) (fmt : Byte) (tensor : BitVec 16) (count : BitVec 32) :
    (ch.sendTensor j q stream h fmt tensor count).cellar = ch.cellar ∧ (ch.sendTensor j q stream h fmt tensor count).larder = ch.larder := by
  unfold Channel.sendTensor; (try dsimp only); (repeat' split) <;> simp

@[simp] theorem mem_setLoom (ch : Channel) (l : Fin 2) (x : Loom) :
    (ch.setLoom l x).cellar = ch.cellar ∧ (ch.setLoom l x).larder = ch.larder := by
  simp [Channel.setLoom]

@[simp] theorem mem_sendProbe (ch : Channel) (p : Port) (b : Bytes) :
    (ch.sendProbe p b).cellar = ch.cellar ∧ (ch.sendProbe p b).larder = ch.larder := by
  simp [Channel.sendProbe]

@[simp] theorem mem_writeTagCmd (ch : Channel) (v : Nat) :
    (ch.writeTagCmd v).cellar = ch.cellar ∧ (ch.writeTagCmd v).larder = ch.larder := by
  simp [Channel.writeTagCmd]

@[simp] theorem mem_tagRun (ch : Channel) (first count tag : Nat) :
    (ch.tagRun first count tag).cellar = ch.cellar ∧ (ch.tagRun first count tag).larder = ch.larder := by
  simp [Channel.tagRun]

@[simp] theorem mem_modRx (ch : Channel) (p : Port) (f : RxFrame → RxFrame) :
    (ch.modRx p f).cellar = ch.cellar ∧ (ch.modRx p f).larder = ch.larder := by
  simp [Channel.modRx]

@[simp] theorem mem_resumeChute (ch : Channel) (now : T64) (tclk : Nat) :
    (ch.resumeChute now tclk).cellar = ch.cellar ∧ (ch.resumeChute now tclk).larder = ch.larder := by
  simp [Channel.resumeChute]

@[simp] theorem mem_clearCompute (ch : Channel) :
    ch.clearCompute.cellar = ch.cellar ∧ ch.clearCompute.larder = ch.larder := by
  simp [Channel.clearCompute]

@[simp] theorem mem_selectInstruction (ch : Channel) (op : Byte) :
    (ch.selectInstruction op).cellar = ch.cellar ∧ (ch.selectInstruction op).larder = ch.larder := by
  simp [Channel.selectInstruction]

@[simp] theorem mem_tapMove (ch : Channel) (n : TapSt) :
    (ch.tapMove n).cellar = ch.cellar ∧ (ch.tapMove n).larder = ch.larder := by
  unfold Channel.tapMove; (try dsimp only); (repeat' split) <;> simp

@[simp] theorem mem_clearDaybooks (ch : Channel) :
    ch.clearDaybooks.cellar = ch.cellar ∧ ch.clearDaybooks.larder = ch.larder := by
  simp [Channel.clearDaybooks]

@[simp] theorem mem_clearMask (ch : Channel) (off : Nat) (i : Slot) :
    (ch.clearMask off i).cellar = ch.cellar ∧ (ch.clearMask off i).larder = ch.larder := by
  simp [Channel.clearMask]

@[simp] theorem mem_clearPermissions (ch : Channel) (i : Slot) :
    (ch.clearPermissions i).cellar = ch.cellar ∧ (ch.clearPermissions i).larder = ch.larder := by
  simp [Channel.clearPermissions]

@[simp] theorem mem_disarmOwner (ch : Channel) (i : Slot) :
    (ch.disarmOwner i).cellar = ch.cellar ∧ (ch.disarmOwner i).larder = ch.larder := by
  simp [Channel.disarmOwner]

@[simp] theorem mem_discardQueued (ch : Channel) (i : Slot) :
    (ch.discardQueued i).cellar = ch.cellar ∧ (ch.discardQueued i).larder = ch.larder := by
  exact ⟨rfl, rfl⟩

@[simp] theorem mem_orphanLoad (ch : Channel) (c : Chan) (i : Slot) :
    (ch.orphanLoad c i).cellar = ch.cellar ∧ (ch.orphanLoad c i).larder = ch.larder := by
  unfold Channel.orphanLoad; (try dsimp only); (repeat' split) <;> simp

@[simp] theorem mem_installKey (ch : Channel) (c : Chan) (i : Slot) (k : Key) :
    (ch.installKey c i k).cellar = ch.cellar ∧ (ch.installKey c i k).larder = ch.larder := by
  simp [Channel.installKey]

@[simp] theorem mem_discardStaged (ch : Channel) (i : Slot) :
    (ch.discardStaged i).cellar = ch.cellar ∧ (ch.discardStaged i).larder = ch.larder := by
  simp [Channel.discardStaged]

@[simp] theorem mem_darkTrace (ch : Channel) (now : T64) (tclk : Nat) :
    (ch.darkTrace now tclk).cellar = ch.cellar ∧ (ch.darkTrace now tclk).larder = ch.larder := by
  simp [Channel.darkTrace]

@[simp] theorem mem_tablesPassed (ch : Channel) :
    (ch.tablesPassed).cellar = ch.cellar ∧ (ch.tablesPassed).larder = ch.larder := by
  simp [Channel.tablesPassed]

@[simp] theorem mem_warm (ch : Channel) (now : T64) :
    (ch.warm now).cellar = ch.cellar ∧ (ch.warm now).larder = ch.larder := by
  simp [Channel.warm]

@[simp] theorem mem_raise (ch : Channel) (now : T64) (tclk draw : Nat) :
    (ch.raise now tclk draw).cellar = ch.cellar ∧ (ch.raise now tclk draw).larder = ch.larder := by
  simp [Channel.raise]

@[simp] theorem mem_setFreq (ch : Channel) (f : Nat) :
    (ch.setFreq f).cellar = ch.cellar ∧ (ch.setFreq f).larder = ch.larder := by
  simp [Channel.setFreq]

@[simp] theorem mem_startCore (ch : Channel) :
    ch.startCore.cellar = ch.cellar ∧ ch.startCore.larder = ch.larder := by
  simp [Channel.startCore]

@[simp] theorem mem_wake (ch : Channel) (now : T64) (tclk : Nat) :
    (ch.wake now tclk).cellar = ch.cellar ∧ (ch.wake now tclk).larder = ch.larder := by
  simp [Channel.wake]

@[simp] theorem mem_setImage (ch : Channel) (b : Bool) (h : Option ImageHdr) :
    (ch.setImage b h).cellar = ch.cellar ∧ (ch.setImage b h).larder = ch.larder := by
  simp [Channel.setImage]

@[simp] theorem mem_setHang (ch : Channel) (h : Option Hang) :
    (ch.setHang h).cellar = ch.cellar ∧ (ch.setHang h).larder = ch.larder := by
  simp [Channel.setHang]

@[simp] theorem mem_dueLate (ch : Channel) (now : T64) :
    (ch.dueLate now).cellar = ch.cellar ∧ (ch.dueLate now).larder = ch.larder := by
  exact ⟨rfl, rfl⟩

@[simp] theorem mem_beginChange (ch : Channel) (tclk f : Nat) :
    (ch.beginChange tclk f).cellar = ch.cellar ∧ (ch.beginChange tclk f).larder = ch.larder := by
  simp [Channel.beginChange]

@[simp] theorem mem_startChange (ch : Channel) (tclk f : Nat) :
    (ch.startChange tclk f).cellar = ch.cellar ∧ (ch.startChange tclk f).larder = ch.larder := by
  simp [Channel.startChange]

@[simp] theorem mem_steer (ch : Channel) (tclk target : Nat) :
    (ch.steer tclk target).cellar = ch.cellar ∧ (ch.steer tclk target).larder = ch.larder := by
  unfold Channel.steer; (try dsimp only); (repeat' split) <;> simp

@[simp] theorem mem_afterChange (ch : Channel) (tclk : Nat) :
    (ch.afterChange tclk).cellar = ch.cellar ∧ (ch.afterChange tclk).larder = ch.larder := by
  simp [Channel.afterChange]

@[simp] theorem mem_countDuty (ch : Channel) (now : T64) :
    (ch.countDuty now).cellar = ch.cellar ∧ (ch.countDuty now).larder = ch.larder := by
  simp [Channel.countDuty]

@[simp] theorem mem_storeTemps (ch : Channel) (die : List (BitVec 16)) (hbm : BitVec 16) :
    (ch.storeTemps die hbm).cellar = ch.cellar ∧ (ch.storeTemps die hbm).larder = ch.larder := by
  rw [Channel.storeTemps.eq_def]
  dsimp only
  rw [Channel.put_cellar, Channel.put_larder]
  exact mem_foldl _ _ (by intro ch x; exact ⟨rfl, rfl⟩) _

@[simp] theorem mem_cooling (ch : Channel) (tclk : Nat) (die : List (BitVec 16)) (hbm : BitVec 16) :
    (ch.cooling tclk die hbm).cellar = ch.cellar ∧ (ch.cooling tclk die hbm).larder = ch.larder := by
  simp [Channel.cooling]

@[simp] theorem mem_functionReset (ch : Channel) (now : T64) :
    (ch.functionReset now).cellar = ch.cellar ∧ (ch.functionReset now).larder = ch.larder := by
  unfold Channel.functionReset
  dsimp only
  exact mem_foldl _ _ (by intro ch i; simp) _

@[simp] theorem mem_clearWrapped (ch : Channel) (r : CounterReg) :
    (ch.clearWrapped r).cellar = ch.cellar ∧ (ch.clearWrapped r).larder = ch.larder := by
  unfold Channel.clearWrapped; (try dsimp only); (repeat' split) <;> simp

@[simp] theorem mem_writePoint (ch : Channel) (view : View) (i : Slot) (off : Nat) (v : BitVec 32) :
    (ch.writePoint view i off v).cellar = ch.cellar ∧ (ch.writePoint view i off v).larder = ch.larder := by
  simp [Channel.writePoint]

@[simp] theorem mem_setBase (ch : Channel) (i : Slot) (k : RingKind) (v : Nat) :
    (ch.setBase i k v).cellar = ch.cellar ∧ (ch.setBase i k v).larder = ch.larder := by
  simp [Channel.setBase]

@[simp] theorem mem_writeBase (ch : Channel) (view : View) (i : Slot) (k : RingKind) (key : Nat) (hi : Bool) (v : BitVec 32) :
    (ch.writeBase view i k key hi v).cellar = ch.cellar ∧ (ch.writeBase view i k key hi v).larder = ch.larder := by
  simp [Channel.writeBase]

@[simp] theorem mem_clearStocktake (ch : Channel) (v : BitVec 32) :
    (ch.clearStocktake v).cellar = ch.cellar ∧ (ch.clearStocktake v).larder = ch.larder := by
  simp [Channel.clearStocktake]

end Sys2Proof.Laws
end

