-- ==== Sys2Proof/Laws/Pending.lean ====
section
/-! SUPPORT. No shared operation changes the queue of waiting commands: one lemma for each. -/

namespace Sys2Proof.Laws

open Sys2Proof Sys2Proof.Machine

@[simp] theorem pending_foldl {α : Type} (l : List α) (f : State → α → State)
    (h : ∀ s x, (f s x).pending = s.pending) (s : State) : (l.foldl f s).pending = s.pending := by
  induction l generalizing s with
  | nil => rfl
  | cons x r ih => rw [List.foldl_cons, ih, h]

@[simp] theorem pending_eachChan (s : State) (f : State → Chan → State)
    (h : ∀ s x, (f s x).pending = s.pending) : (s.eachChan f).pending = s.pending := pending_foldl _ f h s

@[simp] theorem pending_ite (p : Prop) [Decidable p] (a b : State) :
    (if p then a else b).pending = if p then a.pending else b.pending := apply_ite _ _ _ _

theorem pending_iteOf {p : Prop} [Decidable p] {a b s : State} (ha : a.pending = s.pending) (hb : b.pending = s.pending) :
    (if p then a else b).pending = s.pending := by split <;> assumption

theorem pending_commitIte {p : Prop} [Decidable p] {f g : Commit} {s : State} (hf : (f s).2.pending = s.pending)
    (hg : (g s).2.pending = s.pending) : ((if p then f else g) s).2.pending = s.pending := by
  split <;> assumption

@[simp] theorem pending_morBits (s : State) (idx sub : Nat) (m : Word) :
    (s.morBits idx sub m).pending = s.pending := by
  simp [State.morBits]

@[simp] theorem pending_mclearBits (s : State) (idx sub : Nat) (m : Word) :
    (s.mclearBits idx sub m).pending = s.pending := by
  simp [State.mclearBits]

@[simp] theorem pending_mcount (s : State) (i j n bits : Nat) : (s.mcount i j n bits).pending = s.pending := rfl

@[simp] theorem pending_cput (s : State) (c : Chan) (off sub : Nat) (v : Word) :
    (s.cput c off sub v).pending = s.pending := by
  simp [State.cput]

@[simp] theorem pending_corBits (s : State) (c : Chan) (off sub : Nat) (m : Word) :
    (s.corBits c off sub m).pending = s.pending := by
  simp [State.corBits]

@[simp] theorem pending_cclearBits (s : State) (c : Chan) (off sub : Nat) (m : Word) :
    (s.cclearBits c off sub m).pending = s.pending := by
  simp [State.cclearBits]

@[simp] theorem pending_ccount (s : State) (c : Chan) (i j n bits : Nat) :
    (s.ccount c i j n bits).pending = s.pending := rfl

@[simp] theorem pending_markSaved (s : State) : s.markSaved.pending = s.pending := by
  simp [State.markSaved]

@[simp] theorem pending_mputSaved (s : State) (idx sub : Nat) (v : Word) :
    (s.mputSaved idx sub v).pending = s.pending := by
  simp [State.mputSaved]

@[simp] theorem pending_cputSaved (s : State) (c : Chan) (off sub : Nat) (v : Word) :
    (s.cputSaved c off sub v).pending = s.pending := by
  simp [State.cputSaved]

@[simp] theorem pending_answer (s : State) (code : BitVec 32) : (s.answer code).pending = s.pending := by
  simp [State.answer]

@[simp] theorem pending_raiseVector (s : State) (c : Chan) (v : Nat) : (s.raiseVector c v).pending = s.pending := by
  unfold State.raiseVector; (try dsimp only); (repeat' split) <;> simp

@[simp] theorem pending_raiseIrq (s : State) (c : Chan) (b : Fin 7) : (s.raiseIrq c b).pending = s.pending := by
  simp [State.raiseIrq]

@[simp] theorem pending_stamp (s : State) (c : Chan) (u : Nat) : (s.stamp c u).2.pending = s.pending := by
  unfold State.stamp; (try dsimp only); (repeat' split) <;> simp

@[simp] theorem pending_event (s : State) (c : Chan) (e : Ev) : (s.event c e).pending = s.pending := by
  unfold State.event; (try dsimp only); (repeat' split) <;> simp

@[simp] theorem pending_moduleEvent (s : State) (e : Ev) : (s.moduleEvent e).pending = s.pending := by
  simp [State.moduleEvent]

@[simp] theorem pending_access (s : State) (view : View) (c : Chan) (off : Nat) (write : Bool) :
    (s.access view c off write).pending = s.pending := by
  unfold State.access; (try dsimp only); (repeat' split) <;> simp

@[simp] theorem pending_changeTraceMode (s : State) (c : Chan) (m reason : Nat) (silentCause : BitVec 16) (written : Bool) :
    (s.changeTraceMode c m reason silentCause written).pending = s.pending := by
  simp [State.changeTraceMode]

@[simp] theorem pending_tailWritten (s : State) (r : Ring) (v : BitVec 32) :
    (s.tailWritten r v).2.pending = s.pending := by
  unfold State.tailWritten; (try dsimp only); (repeat' split) <;> simp

@[simp] theorem pending_traceBlockDone (s : State) (c : Chan) (i : Slot) (b : Block) (rest : List Block) :
    (s.traceBlockDone c i b rest).pending = s.pending := by
  simp [State.traceBlockDone]

@[simp] theorem pending_traceBlockFailed (s : State) (c : Chan) (i : Slot) :
    (s.traceBlockFailed c i).pending = s.pending := by
  simp [State.traceBlockFailed]

@[simp] theorem pending_abandonFaithful (s : State) (c : Chan) (f : Slot) :
    (s.abandonFaithful c f).pending = s.pending := by
  simp [State.abandonFaithful]

@[simp] theorem pending_setLeap (s : State) (p : Int) : (s.setLeap p).pending = s.pending := by
  simp [State.setLeap]

@[simp] theorem pending_setTaiOffset (s : State) (off : Int) : (s.setTaiOffset off).pending = s.pending := by
  simp [State.setTaiOffset]

@[simp] theorem pending_leap (s : State) : s.leap.pending = s.pending := by
  unfold State.leap; (try dsimp only); (repeat' split) <;> simp

@[simp] theorem pending_setCalendar (s : State) (sec : Nat) : (s.setCalendar sec).pending = s.pending := by
  simp [State.setCalendar]

@[simp] theorem pending_commitOk (f : State → State) (s : State) (h : ∀ s, (f s).pending = s.pending) :
    (commitOk f s).2.pending = s.pending := h s

@[simp] theorem pending_touched (s : State) (idx sub : Nat) : (s.touched idx sub).pending = s.pending := by
  simp [State.touched]

@[simp] theorem pending_committed (s : State) (pl : Place) (m : Member) (idx sub : Nat) :
    (s.committed pl m idx sub).pending = s.pending := by
  unfold State.committed; (try dsimp only); (repeat' split) <;> simp

theorem pending_write (s : State) (p : Path) (i j : Nat) (b : Bytes) (f : Commit) (h : ∀ s, (f s).2.pending = s.pending) :
    (s.write p i j b f).2.pending = s.pending := by
  unfold State.write
  split
  · rfl
  · dsimp only; split <;> simp [h]

@[simp] theorem pending_stageOne (s : State) (c : Chan) (room : Nat) (x : Completion) :
    (s.stageOne c room x).2.pending = s.pending := by
  unfold State.stageOne; (try dsimp only); (repeat' split) <;> simp

@[simp] theorem pending_stageAll (s : State) (c : Chan) (used : Nat) (l : List Completion) :
    ((s.stageAll c used l).2).pending = s.pending := by
  induction l generalizing s used with
  | nil => rfl
  | cons x r ih =>
    unfold State.stageAll
    (try dsimp only)
    split
    · rw [ih, pending_stageOne]
    · exact ih _ _

@[simp] theorem pending_trimStaging (s : State) (c : Chan) :
    (s.trimStaging c).pending = s.pending := by
  unfold State.trimStaging; (try dsimp only); (repeat' split) <;> simp

@[simp] theorem pending_complete (s : State) (c : Chan) (x : Completion) : (s.complete c x).pending = s.pending := by
  simp [State.complete]

@[simp] theorem pending_blockDone (s : State) (c : Chan) (k : StreamKind) (i : Slot) (b : Block) (rest : List Block) :
    (s.blockDone c k i b rest).pending = s.pending := by
  unfold State.blockDone; (try dsimp only); (repeat' split) <;> simp

@[simp] theorem pending_blockFailed (s : State) (c : Chan) (k : StreamKind) (i : Slot) :
    (s.blockFailed c k i).pending = s.pending := by
  cases k <;> simp [State.blockFailed]

@[simp] theorem pending_streamBlock (s : State) (c : Chan) (k : StreamKind) (i : Slot) (ok : Bool) :
    (s.streamBlock c k i ok).pending = s.pending := by
  unfold State.streamBlock; (try dsimp only); (repeat' split) <;> simp

@[simp] theorem pending_streamTail (s : State) (c : Chan) (k : StreamKind) (i : Slot) (v : BitVec 32) :
    (s.streamTail c k i v).pending = s.pending := by
  unfold State.streamTail; (try dsimp only); (repeat' split) <;> simp

@[simp] theorem pending_unreached (s : State) (c : Chan) (p : Fin 8) (j : Job) (flags : Nat) :
    (s.unreached c p j flags).pending = s.pending := by
  simp [State.unreached]

@[simp] theorem pending_reportUnreached (s : State) (c : Chan) (j : Job) (flags : Nat) :
    (s.reportUnreached c j flags).pending = s.pending := by
  simp [State.reportUnreached]

@[simp] theorem pending_startCapture (s : State) (c : Chan) (p : Fin 8) :
    (s.startCapture c p).pending = s.pending := by
  unfold State.startCapture; (try dsimp only); (repeat' split) <;> simp

@[simp] theorem pending_feedPoint (s : State) (c : Chan) (j : Job) (tensor : BitVec 16) (at_ : Nat) (data : Bytes) (p : Fin 8) :
    (s.feedPoint c j tensor at_ data p).pending = s.pending := by
  unfold State.feedPoint; (try dsimp only); (repeat' split) <;> simp

@[simp] theorem pending_feedPoints (s : State) (c : Chan) (j : Job) (tensor : BitVec 16) (data : Bytes) :
    (s.feedPoints c j tensor data).pending = s.pending := by
  unfold State.feedPoints; (try dsimp only); (repeat' split) <;> simp

@[simp] theorem pending_capture (s : State) (c : Chan) (p : Fin 8) (j : Job) (flags : Nat) :
    (s.capture c p j flags).pending = s.pending := by
  unfold State.capture; (try dsimp only); (repeat' split) <;> simp

@[simp] theorem pending_settlePoint (s : State) (c : Chan) (j : Job) (done stopped : Bool) (p : Fin 8) :
    (s.settlePoint c j done stopped p).pending = s.pending := by
  unfold State.settlePoint; (try dsimp only); (repeat' split) <;> simp

@[simp] theorem pending_settleCaptures (s : State) (c : Chan) (j : Job) (done stopped : Bool) :
    (s.settleCaptures c j done stopped).pending = s.pending := by
  unfold State.settleCaptures; (try dsimp only); (repeat' split) <;> simp

@[simp] theorem pending_finish (s : State) (c : Chan) (j : Job) (status code : Nat) :
    (s.finish c j status code).pending = s.pending := by
  simp [State.finish]

@[simp] theorem pending_noteHold (s : State) (c : Chan) (h : Fin 16) (full : Bool) :
    (s.noteHold c h full).pending = s.pending := by
  unfold State.noteHold; (try dsimp only); (repeat' split) <;> simp

@[simp] theorem pending_tellHold (s : State) (c : Chan) (x : Hold) :
    (s.tellHold c x).pending = s.pending := by
  unfold State.tellHold; (try dsimp only); (repeat' split) <;> simp

@[simp] theorem pending_unhold (s : State) (c : Chan) (h : Fin 16) (full : Bool) :
    (s.unhold c h full).pending = s.pending := by
  unfold State.unhold; (try dsimp only); (repeat' split) <;> simp

@[simp] theorem pending_endHolds (s : State) (c : Chan) (keep : Bool) :
    (s.endHolds c keep).pending = s.pending := by
  unfold State.endHolds; (try dsimp only); (repeat' split) <;> simp

@[simp] theorem pending_endJob (s : State) (c : Chan) (j : Job) (st d : Nat) :
    (s.endJob c j st d).pending = s.pending := by
  unfold State.endJob; (try dsimp only)
  (repeat' split) <;> simp

@[simp] theorem pending_countReject (s : State) (c : Chan) (owner : Slot) (plan tag code : Nat) :
    (s.countReject c owner plan tag code).pending = s.pending := by
  simp [State.countReject]

@[simp] theorem pending_rejectJob (s : State) (c : Chan) (j : Job) (code : Nat) :
    (s.rejectJob c j code).pending = s.pending := by
  simp [State.rejectJob]

@[simp] theorem pending_endJobs (s : State) (c : Chan) (p : Job → Bool) (st d : Nat) :
    (s.endJobs c p st d).pending = s.pending := pending_foldl _ _ (fun s j => by simp) s

@[simp] theorem pending_failRunning (s : State) (c : Chan) (status : Nat) (p : Job → Bool) :
    (s.failRunning c status p).pending = s.pending := by
  unfold State.failRunning; (try dsimp only); (repeat' split) <;> simp

@[simp] theorem pending_land (s : State) (c : Chan) (u num n : Nat) : (s.land c u num n).pending = s.pending := by
  unfold State.land; (try dsimp only); (repeat' split) <;> simp

@[simp] theorem pending_landItem (s : State) (c : Chan) (it : CountItem) : (s.landItem c it).pending = s.pending := by
  simp [State.landItem]

@[simp] theorem pending_landDue (s : State) (c : Chan) : (s.landDue c).pending = s.pending := by
  simp [State.landDue]

@[simp] theorem pending_gather (s : State) (c : Chan) :
    (s.gather c).pending = s.pending := by
  unfold State.gather; (try dsimp only); (repeat' split) <;> simp

@[simp] theorem pending_amount (s : State) (c : Chan) (u num n : Nat) :
    (s.amount c u num n).pending = s.pending := by
  unfold State.amount; (try dsimp only); (repeat' split) <;> simp

@[simp] theorem pending_tickHatch (s : State) (c : Chan) (h : Fin 16) :
    (s.tickHatch c h).pending = s.pending := by
  unfold State.tickHatch; (try dsimp only); (repeat' split) <;> simp

@[simp] theorem pending_tickCounts (s : State) (c : Chan) :
    (s.tickCounts c).pending = s.pending := by
  unfold State.tickCounts; (try dsimp only); (repeat' split) <;> simp

@[simp] theorem pending_counterSelectCommit (c : Chan) (u i : Nat) (v : Word) (s : State) :
    (counterSelectCommit c u i v s).2.pending = s.pending := by
  unfold counterSelectCommit; (try dsimp only); (repeat' split) <;> simp

@[simp] theorem pending_freeze (s : State) (c : Chan) (code trig : Nat) (e : Edge) :
    (s.freeze c code trig e).pending = s.pending := by
  simp [State.freeze]

@[simp] theorem pending_missTrigger (s : State) (c : Chan) (code : Nat) :
    (s.missTrigger c code).pending = s.pending := by
  simp [State.missTrigger]

@[simp] theorem pending_mergeTrigger (s : State) (c : Chan) (code trig : Nat) :
    (s.mergeTrigger c code trig).pending = s.pending := by
  simp [State.mergeTrigger]

@[simp] theorem pending_trigger (s : State) (c : Chan) (code trig : Nat) (e : Edge) :
    (s.trigger c code trig e).pending = s.pending := by
  unfold State.trigger; (try dsimp only); (repeat' split) <;> simp

@[simp] theorem pending_stocktake (s : State) (c : Chan) (code trig : Nat) :
    (s.stocktake c code trig).pending = s.pending := by
  simp [State.stocktake]

@[simp] theorem pending_forceFreeze (s : State) (c : Chan) :
    (s.forceFreeze c).pending = s.pending := by
  unfold State.forceFreeze; (try dsimp only); (repeat' split) <;> simp

@[simp] theorem pending_landFreezes (s : State) (c : Chan) :
    (s.landFreezes c).pending = s.pending := by
  unfold State.landFreezes
  dsimp only
  split
  · rfl
  · rw [pending_foldl _ _ (by intro s x; split <;> simp)]
    simp

@[simp] theorem pending_powerObservatory (s : State) (c : Chan) (on : Bool) :
    (s.powerObservatory c on).pending = s.pending := by
  simp [State.powerObservatory]

@[simp] theorem pending_traceModeCommit (c : Chan) (m : Nat) (s : State) :
    (traceModeCommit c m s).2.pending = s.pending := by
  unfold traceModeCommit; (try dsimp only); (repeat' split) <;> simp

@[simp] theorem pending_triggerMaskCommit (c : Chan) (v : Nat) (s : State) :
    (triggerMaskCommit c v s).2.pending = s.pending := by
  unfold triggerMaskCommit; exact pending_commitOk _ _ (by intro s; (try dsimp only); (repeat' split) <;> simp)

@[simp] theorem pending_registerTrigger (s : State) (c : Chan) : (s.registerTrigger c).pending = s.pending := by
  simp [State.registerTrigger]

@[simp] theorem pending_t64TriggerCommit (c : Chan) (v : T64) (s : State) :
    (t64TriggerCommit c v s).2.pending = s.pending := by
  unfold t64TriggerCommit; (try dsimp only); (repeat' split) <;> simp

@[simp] theorem pending_syncOut (s : State) (level : Bool) : (s.syncOut level).pending = s.pending := by
  simp [State.syncOut]

@[simp] theorem pending_provisional (s : State) : s.provisional.pending = s.pending := by
  simp [State.provisional]

@[simp] theorem pending_dropProvisional (s : State) : s.dropProvisional.pending = s.pending := by
  unfold State.dropProvisional; exact pending_eachChan _ _ (by intro s c; (try dsimp only); (repeat' split) <;> simp)

@[simp] theorem pending_commitSync (s : State) : s.commitSync.pending = s.pending := by
  unfold State.commitSync
  simp only [pending_dropProvisional]
  exact pending_eachChan _ _ (by intro s c; (repeat' split) <;> simp)

@[simp] theorem pending_classifySync (s : State) (width : Nat) : (s.classifySync width).pending = s.pending := by
  simp [State.classifySync]

@[simp] theorem pending_freezeTimeCommit (v : T64) (s : State) : (freezeTimeCommit v s).2.pending = s.pending := by
  unfold freezeTimeCommit; (try dsimp only); (repeat' split) <;> simp

@[simp] theorem pending_originate (s : State) (n : Nat) :
    (s.originate n).pending = s.pending := by
  simp [State.originate]

@[simp] theorem pending_landPulse (s : State) :
    s.landPulse.pending = s.pending := by
  unfold State.landPulse; (try dsimp only); (repeat' split) <;> simp

@[simp] theorem pending_freezeNowCommit (s : State) :
    ((freezeNowCommit s).2).pending = s.pending := by
  unfold freezeNowCommit; dsimp only
  rw [pending_landPulse, pending_eachChan _ _ (by intro s c; simp)]
  split <;> exact pending_eachChan _ _ (fun s c => by simp)

@[simp] theorem pending_trigPin (s : State) (c : Chan) (n : Nat) (active : Bool) :
    (s.trigPin c n active).pending = s.pending := by
  simp [State.trigPin]

@[simp] theorem pending_pulse (s : State) (c : Chan) (n : Fin 4) : (s.pulse c n).pending = s.pending := by
  simp [State.pulse]

@[simp] theorem pending_nextTarget (s : State) (c : Chan) (k : Fin 5) (late : Nat) :
    (s.nextTarget c k late).pending = s.pending := by
  simp [State.nextTarget]

@[simp] theorem pending_cycleTick (s : State) (c : Chan) : (s.cycleTick c).pending = s.pending := by
  unfold State.cycleTick; (try dsimp only); (repeat' split) <;> simp

@[simp] theorem pending_fireCmp (s : State) (c : Chan) (k : Fin 5) (late : Nat) (isLate : Bool) :
    (s.fireCmp c k late isLate).pending = s.pending := by
  unfold State.fireCmp; (try dsimp only); (repeat' split) <;> simp

@[simp] theorem pending_trigTargetCommit (c : Chan) (n : Fin 4) (v : T32) (s : State) :
    (trigTargetCommit c n v s).2.pending = s.pending := by
  unfold trigTargetCommit; (try dsimp only); (repeat' split) <;> simp

@[simp] theorem pending_completeArming (s : State) (c : Chan) (k : Fin 5) :
    (s.completeArming c k).pending = s.pending := by
  simp [State.completeArming]

@[simp] theorem pending_trigModeCommit (c : Chan) (n : Fin 4) (v : Nat) (s : State) :
    (trigModeCommit c n v s).2.pending = s.pending := by
  unfold trigModeCommit; (try dsimp only); (repeat' split) <;> simp

@[simp] theorem pending_trigShapeCommit (c : Chan) (n : Fin 4) (width : Bool) (v : Nat) (s : State) :
    (trigShapeCommit c n width v s).2.pending = s.pending := by
  unfold trigShapeCommit; (try dsimp only); (repeat' split) <;> simp

@[simp] theorem pending_cycleEnableCommit (c : Chan) (v : Nat) (s : State) :
    (cycleEnableCommit c v s).2.pending = s.pending := by
  simp [cycleEnableCommit]

@[simp] theorem pending_firstTickCommit (c : Chan) (v : Nat) (s : State) :
    (firstTickCommit c v s).2.pending = s.pending := by
  unfold firstTickCommit; exact pending_commitOk _ _ (by intro s; (try dsimp only); (repeat' split) <;> simp)

@[simp] theorem pending_stepCmp (s : State) (c : Chan) (k : Fin 5) (before : T32) (step : Int) :
    (s.stepCmp c k before step).pending = s.pending := by
  simp [State.stepCmp]

@[simp] theorem pending_timeFlag (s : State) (b : Word) : (s.timeFlag b).pending = s.pending := by
  simp [State.timeFlag]

@[simp] theorem pending_tickChan (s : State) (c : Chan) :
    (s.tickChan c).pending = s.pending := by
  unfold State.tickChan; (try dsimp only); (repeat' split) <;> simp

@[simp] theorem pending_tick (s : State) : s.tick.pending = s.pending := by
  simp [State.tick]

@[simp] theorem pending_setTimeState (s : State) (ts : TimeState) : (s.setTimeState ts).pending = s.pending := by
  simp [State.setTimeState]

@[simp] theorem pending_acquire (s : State) (allowance : Bool) : (s.acquire allowance).pending = s.pending := by
  simp [State.acquire]

@[simp] theorem pending_enterHoldover (s : State) (bits : Word) : (s.enterHoldover bits).pending = s.pending := by
  simp [State.enterHoldover]

@[simp] theorem pending_servoRate (s : State) (off : Int) (interval : Nat) :
    (s.servoRate off interval).pending = s.pending := by
  simp [State.servoRate]

@[simp] theorem pending_servoDecide (s : State) : s.servoDecide.1.pending = s.pending := by
  unfold State.servoDecide; (try dsimp only); (repeat' split) <;> simp

@[simp] theorem pending_servo (s : State) (off : Int) (interval : Nat) :
    (s.servo off interval).pending = s.pending := by
  unfold State.servo
  split
  · simp
  · split
    · rfl
    · dsimp only
      split
      · rfl
      · have h := pending_servoDecide { s with time := { s.time with meas := s.time.meas ++ [off] } }
        revert h
        generalize State.servoDecide _ = r
        obtain ⟨t, b⟩ := r
        intro h
        cases b <;> simpa using h

@[simp] theorem pending_measure (s : State) (off : Int) (id : BitVec 64) :
    (s.measure off id).pending = s.pending := by
  simp [State.measure]

@[simp] theorem pending_useReference (s : State) (r : Nat) : (s.useReference r).pending = s.pending := by
  simp [State.useReference]

@[simp] theorem pending_ref10mCommit (v : Nat) (s : State) : (ref10mCommit v s).2.pending = s.pending := by
  simp [ref10mCommit]

@[simp] theorem pending_incrementCommit (v : Word) (s : State) : (incrementCommit v s).2.pending = s.pending := by
  unfold incrementCommit; (try dsimp only); (repeat' split) <;> simp

@[simp] theorem pending_timeStepCommit (v : Word) (s : State) : (timeStepCommit v s).2.pending = s.pending := by
  unfold timeStepCommit; (try dsimp only); (repeat' split) <;> simp

@[simp] theorem pending_ppsLoadCommit (v : BitVec 80) (s : State) : (ppsLoadCommit v s).2.pending = s.pending := by
  unfold ppsLoadCommit; (try dsimp only); (repeat' split) <;> simp

@[simp] theorem pending_strobe (s : State) (l : Load) :
    (s.strobe l).pending = s.pending := by
  unfold State.strobe; dsimp only
  rw [pending_eachChan _ _ (by intro s c; simp)]
  simp only [pending_moduleEvent, pending_timeFlag, pending_mcount]
  rw [pending_eachChan _ _ (by intro s c; simp)]

@[simp] theorem pending_ppsMeasure (s : State) (phase : Int) : (s.ppsMeasure phase).pending = s.pending := by
  unfold State.ppsMeasure; (try dsimp only); (repeat' split) <;> simp

@[simp] theorem pending_reacquireConfig (s : State) : s.reacquireConfig.pending = s.pending := by
  unfold State.reacquireConfig; (try dsimp only); (repeat' split) <;> simp

@[simp] theorem pending_correctionCommit (sub v : Nat) (s : State) :
    (correctionCommit sub v s).2.pending = s.pending := by
  simp [correctionCommit]

@[simp] theorem pending_reacquireCommit  (s : State) : (reacquireCommit s).2.pending = s.pending := by
  simp [reacquireCommit]

@[simp] theorem pending_calendarCommit (v : BitVec 80) (s : State) : (calendarCommit v s).2.pending = s.pending := by
  unfold calendarCommit; (try dsimp only); (repeat' split) <;> simp

@[simp] theorem pending_setChanSt (s : State) (c : Chan) (st : ChanSt) (reason : Byte) :
    (s.setChanSt c st reason).pending = s.pending := by
  simp [State.setChanSt]

@[simp] theorem pending_disableCompute (s : State) (c : Chan) (reason : Byte) :
    (s.disableCompute c reason).pending = s.pending := by
  simp [State.disableCompute]

@[simp] theorem pending_endDown (s : State) (c : Chan) (p : Port) (cause : Nat) :
    (s.endDown c p cause).pending = s.pending := by
  unfold State.endDown; (try dsimp only); (repeat' split) <;> simp

@[simp] theorem pending_failUsers (s : State) (c : Chan) (uses : Job → Bool) :
    (s.failUsers c uses).pending = s.pending := by
  unfold State.failUsers; (try dsimp only); (repeat' split) <;> simp

@[simp] theorem pending_peerDown (s : State) (c : Chan) (p : Port) :
    (s.peerDown c p).pending = s.pending := by
  unfold State.peerDown; (try dsimp only); (repeat' split) <;> simp

@[simp] theorem pending_portDown (s : State) (c : Chan) (p : Port) (cause : Nat) :
    (s.portDown c p cause).pending = s.pending := by
  simp [State.portDown]

@[simp] theorem pending_portsDown (s : State) (c : Chan) : (s.portsDown c).pending = s.pending := by
  simp [State.portsDown]

@[simp] theorem pending_requestStop (s : State) (c : Chan) (code : Nat) :
    (s.requestStop c code).pending = s.pending := by
  simp [State.requestStop]

@[simp] theorem pending_planLoadCommit (c : Chan) (s : State) : (planLoadCommit c s).2.pending = s.pending := by
  unfold planLoadCommit; (try dsimp only); (repeat' split) <;> simp

@[simp] theorem pending_planLoaded (s : State) (c : Chan) (r : LoadReq) (b : Bytes) (facts : ProgramFacts) :
    (s.planLoaded c r b facts).pending = s.pending := by
  rw [State.planLoaded.eq_def]
  exact (pending_event _ _ _).trans rfl

@[simp] theorem pending_unloadPlan (s : State) (c : Chan) (i : Fin 16) : (s.unloadPlan c i).pending = s.pending := by
  simp [State.unloadPlan]

@[simp] theorem pending_planUnloadCommit (c : Chan) (s : State) : (planUnloadCommit c s).2.pending = s.pending := by
  unfold planUnloadCommit; (try dsimp only); (repeat' split) <;> simp

@[simp] theorem pending_admitDesc (s : State) (c : Chan) (i : Slot) (b : Bytes) :
    (s.admitDesc c i b).pending = s.pending := by
  unfold State.admitDesc; (try dsimp only); (repeat' split) <;> simp

@[simp] theorem pending_fillSlate (s : State) (c : Chan) : (s.fillSlate c).pending = s.pending := by
  unfold State.fillSlate; (try dsimp only); (repeat' split) <;> simp

@[simp] theorem pending_launchJob (s : State) (c : Chan) (j : Job) (late : Bool) (base : T64) (off jitter : Nat) :
    (s.launchJob c j late base off jitter).pending = s.pending := by
  simp [State.launchJob]

@[simp] theorem pending_launchDue (s : State) (c : Chan) (j : Job) (t : T64) :
    (s.launchDue c j t).pending = s.pending := by
  simp [State.launchDue]

@[simp] theorem pending_drainPort (s : State) (c : Chan) (q : Port) :
    (s.drainPort c q).pending = s.pending := by
  unfold State.drainPort; (try dsimp only); (repeat' split) <;> simp

@[simp] theorem pending_drainRx (s : State) (c : Chan) :
    (s.drainRx c).pending = s.pending := by
  unfold State.drainRx; (try dsimp only); (repeat' split) <;> simp

@[simp] theorem pending_larderRead (s : State) (c : Chan) (j : Job) (line : Nat) :
    (s.larderRead c j line).pending = s.pending := by
  simp [State.larderRead]

@[simp] theorem pending_readLines (s : State) (c : Chan) (j : Job) (lines : List Nat) :
    (s.readLines c j lines).pending = s.pending := by
  unfold State.readLines; (try dsimp only); (repeat' split) <;> simp

@[simp] theorem pending_cellarFor (s : State) (c : Chan) (j : Job) (off n : Nat) :
    (s.cellarFor c j off n).2.pending = s.pending := by
  unfold State.cellarFor; (try dsimp only); (repeat' split) <;> simp

@[simp] theorem pending_waitEmpty (s : State) (c : Chan) (h : Fin 16) (op : TileOp) :
    (s.waitEmpty c h op).1.pending = s.pending := by
  unfold State.waitEmpty; (try dsimp only); (repeat' split) <;> simp

@[simp] theorem pending_waitFull (s : State) (c : Chan) (h : Fin 16) (op : TileOp) :
    (s.waitFull c h op).1.pending = s.pending := by
  unfold State.waitFull; (try dsimp only); (repeat' split) <;> simp

@[simp] theorem pending_vectorStep (s : State) (c : Chan) (j : Job) (l : Fin 2) (src : ActSrc) (f : Fmt) (n : Nat) :
    (s.vectorStep c j l src f n).1.pending = s.pending := by
  unfold State.vectorStep; (try dsimp only); (repeat' split) <;> simp

@[simp] theorem pending_macStep (s : State) (c : Chan) (j : Job) (l : Fin 2) (wf : Fmt) (sg : Bool) (src : WeightSrc) (onto : Option (Fin 512)) :
    (s.macStep c j l wf sg src onto).pending = s.pending := by
  unfold State.macStep; (try dsimp only); (repeat' split) <;> simp

@[simp] theorem pending_stillNote (s : State) (c : Chan) (j : Job) (u : RowUse) (x : Nat × StillStep) :
    (s.stillNote c j u x).pending = s.pending := by
  unfold State.stillNote; (try dsimp only); (repeat' split) <;> simp

@[simp] theorem pending_rowCommit (s : State) (c : Chan) (j : Job) (u : RowUse) (y : Still × List (Nat × StillStep)) :
    (s.rowCommit c j u y).pending = s.pending := by
  unfold State.rowCommit; (try dsimp only); (repeat' split) <;> simp

@[simp] theorem pending_rowStep (s : State) (c : Chan) (j : Job) (use : Nat) (r : Recipe) (u : RowUse) (vs : List (BitVec 32)) (op : TileOp) :
    (s.rowStep c j use r u vs op).1.pending = s.pending := by
  unfold State.rowStep; (try dsimp only); (repeat' split) <;> simp

@[simp] theorem pending_simpleStep (s : State) (c : Chan) (j : Job) (l : Fin 2) (r : SimpleRow) (dst : SimpleDst) :
    (s.simpleStep c j l r dst).1.pending = s.pending := by
  unfold State.simpleStep; (try dsimp only); (repeat' split) <;> simp

@[simp] theorem pending_stillStep (s : State) (c : Chan) (j : Job) (use n : Nat) :
    (s.stillStep c j use n).1.pending = s.pending := by
  unfold State.stillStep; (try dsimp only); (repeat' split) <;> simp

@[simp] theorem pending_resultStep (s : State) (c : Chan) (j : Job) (h : Fin 16) (n : Nat) :
    (s.resultStep c j h n).1.pending = s.pending := by
  unfold State.resultStep; (try dsimp only); (repeat' split) <;> simp

@[simp] theorem pending_tileStep (s : State) (c : Chan) (j : Job) (op : TileOp) :
    (s.tileStep c j op).1.pending = s.pending := by
  unfold State.tileStep; (try dsimp only); (repeat' split) <;> simp

@[simp] theorem pending_flow (s : State) (c : Chan) (work : List TileOp) :
    ((s.flow c work).1).pending = s.pending := by
  induction work generalizing s with
  | nil => rfl
  | cons x r ih =>
    unfold State.flow
    (try dsimp only)
    split
    · simp
    · have h := pending_tileStep (s.drainRx c) c
      rename_i j _
      specialize h j x
      revert h
      cases (s.drainRx c).tileStep c j x with
      | mk a b =>
        intro h
        cases b with
        | none => dsimp only at h ⊢; rw [ih, h]; simp
        | some y => dsimp only at h ⊢; rw [h]; simp

@[simp] theorem pending_breachJob (s : State) (c : Chan) (j : Job) (t : Tile) (cause : Nat) :
    (s.breachJob c j t cause).pending = s.pending := by
  simp [State.breachJob]

@[simp] theorem pending_missTile (s : State) (c : Chan) (j : Job) (t : Tile) (cause : Nat) :
    (s.missTile c j t cause).pending = s.pending := by
  simp [State.missTile]

@[simp] theorem pending_judgeTile (s : State) (c : Chan) (j : Job) (t : Tile) (cellar : Bool) :
    (s.judgeTile c j t cellar).pending = s.pending := by
  unfold State.judgeTile; (try dsimp only); (repeat' split) <;> simp

@[simp] theorem pending_retire (s : State) (c : Chan) (k : Nat) : (s.retire c k).pending = s.pending := by
  simp [State.retire]

@[simp] theorem pending_runTile (s : State) (c : Chan) (j : Job) (k : Nat) (work : List TileOp) :
    (s.runTile c j k work).pending = s.pending := by
  unfold State.runTile; (try dsimp only); (repeat' split) <;> simp

@[simp] theorem pending_startMeasure (s : State) : s.startMeasure.pending = s.pending := by
  simp [State.startMeasure]

@[simp] theorem pending_concludeMeasure (s : State) : s.concludeMeasure.pending = s.pending := by
  simp [State.concludeMeasure]

@[simp] theorem pending_exchangeOver (s : State) : s.exchangeOver.pending = s.pending := by
  simp [State.exchangeOver]

@[simp] theorem pending_measureCommit  (s : State) : (measureCommit s).2.pending = s.pending := by
  unfold measureCommit; (try dsimp only); (repeat' split) <;> simp

@[simp] theorem pending_answerProbe (s : State) (c : Chan) (p : Port) (b : Bytes) :
    (s.answerProbe c p b).pending = s.pending := by
  simp [State.answerProbe]

@[simp] theorem pending_takeEcho (s : State) (b : Bytes) : (s.takeEcho b).pending = s.pending := by
  unfold State.takeEcho; (try dsimp only); (repeat' split) <;> simp

@[simp] theorem pending_bar4Access (s : State) (c : Chan) (addr : Nat) (write : Bool) :
    (s.bar4Access c addr write).pending = s.pending := by
  simp [State.bar4Access]

@[simp] theorem pending_setPlca (s : State) (n : Nat) : (s.setPlca n).pending = s.pending := by
  simp [State.setPlca]

@[simp] theorem pending_plcaFlag (s : State) (b : Word) : (s.plcaFlag b).pending = s.pending := by
  simp [State.plcaFlag]

@[simp] theorem pending_enterListenOnly (s : State) (cause : Nat) :
    (s.enterListenOnly cause).pending = s.pending := by
  simp [State.enterListenOnly]

@[simp] theorem pending_pushTsq (s : State) (e : TsqEntry) : (s.pushTsq e).pending = s.pending := by
  simp [State.pushTsq]

@[simp] theorem pending_sfdStamp (s : State) : s.sfdStamp.2.pending = s.pending := by
  simp [State.sfdStamp]

@[simp] theorem pending_putFrame (s : State) (b : Bytes) (event : Option (Byte × BitVec 16)) :
    (s.putFrame b event).pending = s.pending := by
  unfold State.putFrame; (try dsimp only); (repeat' split) <;> simp

theorem pending_sendNext (s t : State) (b : Nat) (h : s.sendNext = some (t, b)) : t.pending = s.pending := by
  unfold State.sendNext at h
  repeat' split at h
  all_goals first | (cases h; done) | (simp only [Option.some.injEq, Prod.mk.injEq] at h; obtain ⟨rfl, -⟩ := h; simp)

@[simp] theorem pending_sendFrames (s : State) (n : Nat) : (s.sendFrames n).1.pending = s.pending := by
  induction n generalizing s with
  | zero => rfl
  | succ k ih =>
    unfold State.sendFrames
    split
    · rfl
    · rename_i t b e
      have h := ih t
      have g := pending_sendNext s _ _ e
      split <;> simp_all

@[simp] theorem pending_missReleased (s : State) : s.missReleased.pending = s.pending := by
  simp [State.missReleased]

@[simp] theorem pending_sendLate (s : State) : s.sendLate.pending = s.pending := by
  have h := pending_sendFrames s s.plca.framesMax
  unfold State.sendLate; (try dsimp only)
  (repeat' split) <;> simp_all

@[simp] theorem pending_enqueueTx (s : State) (f : TxFrame) : (s.enqueueTx f).pending = s.pending := by
  simp [State.enqueueTx]

@[simp] theorem pending_startPlca (s : State) : s.startPlca.pending = s.pending := by
  simp [State.startPlca]

@[simp] theorem pending_nodeIdCommit (v : Nat) (s : State) : (nodeIdCommit v s).2.pending = s.pending := by
  simp [nodeIdCommit]

@[simp] theorem pending_newCycle (s : State) (seen end_ : Nat) : (s.newCycle seen end_).pending = s.pending := by
  simp [State.newCycle]

@[simp] theorem pending_sample (s : State) (silentLocal : Nat) : (s.sample silentLocal).pending = s.pending := by
  simp [State.sample]

@[simp] theorem pending_judgeCycle (s : State) : s.judgeCycle.pending = s.pending := by
  simp [State.judgeCycle]

@[simp] theorem pending_edgeYield (s : State) : s.edgeYield.pending = s.pending := by
  simp [State.edgeYield]

@[simp] theorem pending_cleanStart (s : State) : s.cleanStart.pending = s.pending := by
  unfold State.cleanStart; (try dsimp only); (repeat' split) <;> simp

@[simp] theorem pending_endOpp (s : State) (end_ : Nat) (silent : Bool) :
    (s.endOpp end_ silent).pending = s.pending := by
  simp [State.endOpp]

@[simp] theorem pending_otherOpp (s : State) (start : Nat) (f : OppFacts) :
    (s.otherOpp start f).pending = s.pending := by
  unfold State.otherOpp; (try dsimp only); (repeat' split) <;> simp

@[simp] theorem pending_dropPtp (s : State) : s.dropPtp.pending = s.pending := by
  simp [State.dropPtp]

@[simp] theorem pending_ownOpp (s : State) (start : Nat) (f : OppFacts) : (s.ownOpp start f).pending = s.pending := by
  have h := pending_sendFrames s.cleanStart s.cleanStart.plca.framesMax
  have g := pending_cleanStart s
  unfold State.ownOpp; (try dsimp only)
  (repeat' split) <;> simp_all

@[simp] theorem pending_tlQueueCommit  (s : State) : (tlQueueCommit s).2.pending = s.pending := by
  unfold tlQueueCommit; (try dsimp only); (repeat' split) <;> simp

@[simp] theorem pending_tlDiscardCommit  (s : State) : (tlDiscardCommit s).2.pending = s.pending := by
  simp [tlDiscardCommit]

@[simp] theorem pending_linkFault (s : State) (c : Chan) (p : Port) (cause : Nat) :
    (s.linkFault c p cause).pending = s.pending := by
  simp [State.linkFault]

@[simp] theorem pending_portModeCommit (c : Chan) (p : Port) (v : Nat) (s : State) :
    (portModeCommit c p v s).2.pending = s.pending := by
  unfold portModeCommit; (try dsimp only); (repeat' split) <;> simp

@[simp] theorem pending_sendBlocks (s : State) (c : Chan) (p : Port) (kind : Byte) :
    (s.sendBlocks c p kind).pending = s.pending := by
  unfold State.sendBlocks; (try dsimp only); (repeat' split) <;> simp

@[simp] theorem pending_linkUp (s : State) (c : Chan) (p : Port) (b : TrainingBlock) :
    (s.linkUp c p b).pending = s.pending := by
  simp [State.linkUp]

@[simp] theorem pending_trainStep (s : State) (c : Chan) (p : Port) (lanes : List TrainingBlock) (skewNs : Nat) :
    (s.trainStep c p lanes skewNs).pending = s.pending := by
  simp [State.trainStep]

@[simp] theorem pending_confirmStep (s : State) (c : Chan) (p : Port) (lanes : List TrainingBlock) :
    (s.confirmStep c p lanes).pending = s.pending := by
  unfold State.confirmStep; (try dsimp only); (repeat' split) <;> simp

@[simp] theorem pending_sendFlit (s : State) (c : Chan) (p : Port) (f : Flit) :
    (s.sendFlit c p f).pending = s.pending := by
  unfold State.sendFlit; (try dsimp only); (repeat' split) <;> simp

@[simp] theorem pending_linkRecord (s : State) (c : Chan) (p : Port) (type : Byte) (seq : BitVec 16) (t : T64) (word stream : Nat) (kind : Byte) (frameBytes : Nat) (owner : Option Slot) :
    (s.linkRecord c p type seq t word stream kind frameBytes owner).pending = s.pending := by
  simp [State.linkRecord]

@[simp] theorem pending_sendData (s : State) (c : Chan) (p : Port) (d : TxData) (rest : List TxData) (pay : Bytes) :
    (s.sendData c p d rest pay).pending = s.pending := by
  unfold State.sendData; (try dsimp only); (repeat' split) <;> simp

@[simp] theorem pending_resendFlit (s : State) (c : Chan) (p : Port) (f : Flit) (rest : List Flit) :
    (s.resendFlit c p f rest).pending = s.pending := by
  unfold State.resendFlit; (try dsimp only); (repeat' split) <;> simp

@[simp] theorem pending_replay (s : State) (c : Chan) (p : Port) : (s.replay c p).pending = s.pending := by
  unfold State.replay; (try dsimp only); (repeat' split) <;> simp

@[simp] theorem pending_malformed (s : State) (c : Chan) (p : Port) (stream seq : Nat) :
    (s.malformed c p stream seq).pending = s.pending := by
  simp [State.malformed]

@[simp] theorem pending_dropFrame (s : State) (c : Chan) (p : Port) (stream seq : Nat) :
    (s.dropFrame c p stream seq).pending = s.pending := by
  simp [State.dropFrame]

@[simp] theorem pending_takeFrame (s : State) (c : Chan) (p : Port) (j : Job) (h : Bytes) (t : T64) (stream : Nat) :
    (s.takeFrame c p j h t stream).pending = s.pending := by
  simp [State.takeFrame]

@[simp] theorem pending_firstFlit (s : State) (c : Chan) (p : Port) (stream : Fin 16) (seq : BitVec 16) (h : Bytes) :
    (s.firstFlit c p stream seq h).pending = s.pending := by
  unfold State.firstFlit; (try dsimp only); (repeat' split) <;> simp

@[simp] theorem pending_countFrame (s : State) (c : Chan) (p : Port) (n : Nat) (last : Bool) :
    (s.countFrame c p n last).pending = s.pending := by
  unfold State.countFrame; (try dsimp only); (repeat' split) <;> simp

@[simp] theorem pending_keepData (s : State) (c : Chan) (p : Port) (data : Bytes) (last : Bool) :
    (s.keepData c p data last).pending = s.pending := by
  unfold State.keepData; (try dsimp only); (repeat' split) <;> simp

@[simp] theorem pending_probeFrame (s : State) (c : Chan) (p : Port) (b : Bytes) :
    (s.probeFrame c p b).pending = s.pending := by
  simp [State.probeFrame]

@[simp] theorem pending_breakFrame (s : State) (c : Chan) (p : Port) :
    (s.breakFrame c p).pending = s.pending := by
  unfold State.breakFrame; (try dsimp only); (repeat' split) <;> simp

@[simp] theorem pending_acceptData (s : State) (c : Chan) (p : Port) (f : Flit) :
    (s.acceptData c p f).pending = s.pending := by
  simp [State.acceptData]

@[simp] theorem pending_forbidden (s : State) (c : Chan) (p : Port) :
    (s.forbidden c p).pending = s.pending := by
  unfold State.forbidden; (try dsimp only); (repeat' split) <;> simp

@[simp] theorem pending_takeData (s : State) (c : Chan) (p : Port) (f : Flit) :
    (s.takeData c p f).pending = s.pending := by
  unfold State.takeData; (try dsimp only); (repeat' split) <;> simp

@[simp] theorem pending_takeFlit (s : State) (c : Chan) (p : Port) (f : Flit) :
    (s.takeFlit c p f).pending = s.pending := by
  unfold State.takeFlit; (try dsimp only); (repeat' split) <;> simp

@[simp] theorem pending_releaseStop (s : State) (c : Chan) : (s.releaseStop c).pending = s.pending := by
  simp [State.releaseStop]

@[simp] theorem pending_channelStopCommit (c : Chan) (v : Nat) (s : State) :
    (channelStopCommit c v s).2.pending = s.pending := by
  unfold channelStopCommit; (try dsimp only); (repeat' split) <;> simp

@[simp] theorem pending_stopNEdge (s : State) : s.stopNEdge.pending = s.pending := by
  simp [State.stopNEdge]

@[simp] theorem pending_driveStopN (s : State) : s.driveStopN.pending = s.pending := by
  unfold State.driveStopN; (try dsimp only); (repeat' split) <;> simp

@[simp] theorem pending_recordSpread (s : State) (cause : Nat) : (s.recordSpread cause).pending = s.pending := by
  simp [State.recordSpread]

@[simp] theorem pending_spread (s : State) (c : Chan) : (s.spread c).pending = s.pending := by
  simp [State.spread]

@[simp] theorem pending_moduleStopCommit (v : Nat) (s : State) : (moduleStopCommit v s).2.pending = s.pending := by
  unfold moduleStopCommit; (try dsimp only); (repeat' split) <;> simp

@[simp] theorem pending_stopTimeCommit (c : Chan) (v : T64) (s : State) :
    (stopTimeCommit c v s).2.pending = s.pending := by
  simp [stopTimeCommit]

@[simp] theorem pending_halted (s : State) (c : Chan) : (s.halted c).pending = s.pending := by
  simp [State.halted]

@[simp] theorem pending_syncStop (s : State) : s.syncStop.pending = s.pending := by
  simp [State.syncStop]

@[simp] theorem pending_tapEdge (s : State) (c : Chan) (tdi : Bool) :
    (s.tapEdge c tdi).pending = s.pending := by
  unfold State.tapEdge; (try dsimp only); (repeat' split) <;> simp

@[simp] theorem pending_sealGuardCommit (c : Chan) (s : State) : (sealGuardCommit c s).2.pending = s.pending := by
  unfold sealGuardCommit; exact pending_commitOk _ _ (by intro s; (try dsimp only); (repeat' split) <;> simp)

@[simp] theorem pending_sealBlowCommit (c : Chan) (s : State) : (sealBlowCommit c s).2.pending = s.pending := by
  unfold sealBlowCommit; (try dsimp only); (repeat' split) <;> simp

@[simp] theorem pending_startRetirement (s : State) (c : Chan) (i : Slot) :
    (s.startRetirement c i).pending = s.pending := by
  simp [State.startRetirement]

@[simp] theorem pending_dropKey (s : State) (c : Chan) (i : Slot) : (s.dropKey c i).pending = s.pending := by
  simp [State.dropKey]

@[simp] theorem pending_acceptBlob (s : State) (c : Chan) (i : Slot) (k : BitVec 256) (gen : BitVec 32) :
    (s.acceptBlob c i k gen).pending = s.pending := by
  simp [State.acceptBlob]

@[simp] theorem pending_keyBlobCommit (c : Chan) (i : Slot) (blob : Bytes) (s : State) :
    (keyBlobCommit c i blob s).2.pending = s.pending := by
  unfold keyBlobCommit; (try dsimp only); (repeat' split) <;> simp

theorem pending_writeBlob (s : State) (p : Path) (i j : Nat) (f : Commit) (h : ∀ s, (f s).2.pending = s.pending) :
    (s.writeBlob p i j f).2.pending = s.pending := by
  unfold State.writeBlob
  split
  · rfl
  · dsimp only; split <;> simp [h]

@[simp] theorem pending_keyDestroyCommit (c : Chan) (i : Slot) (s : State) :
    (keyDestroyCommit c i s).2.pending = s.pending := by
  simp [keyDestroyCommit]

@[simp] theorem pending_serviceKeyCommit (blob : Bytes) (s : State) :
    (serviceKeyCommit blob s).2.pending = s.pending := by
  unfold serviceKeyCommit; (try dsimp only); (repeat' split) <;> simp

@[simp] theorem pending_rxStamp (s : State) : s.rxStamp.2.pending = s.pending := by
  simp [State.rxStamp]

@[simp] theorem pending_queuePtp (s : State) (bytes : Bytes) (event : Option (Byte × BitVec 16)) :
    (s.queuePtp bytes event).pending = s.pending := by
  simp [State.queuePtp]

@[simp] theorem pending_becomeMaster (s : State) : s.becomeMaster.pending = s.pending := by
  simp [State.becomeMaster]

@[simp] theorem pending_selected (s : State) (old : BitVec 64) (gm : BitVec 64) :
    (s.selected old gm).pending = s.pending := by
  unfold State.selected; (try dsimp only); (repeat' split) <;> simp

@[simp] theorem pending_follow (s : State) (a : Announce) : (s.follow a).pending = s.pending := by
  simp [State.follow]

@[simp] theorem pending_bmca (s : State) (a : Announce) : (s.bmca a).pending = s.pending := by
  unfold State.bmca; (try dsimp only); (repeat' split) <;> simp

@[simp] theorem pending_copyUtc (s : State) (a : Announce) : (s.copyUtc a).pending = s.pending := by
  simp [State.copyUtc]

@[simp] theorem pending_ptpEnableCommit (v : Nat) (s : State) : (ptpEnableCommit v s).2.pending = s.pending := by
  simp [ptpEnableCommit]

@[simp] theorem pending_completeExchange (s : State) : s.completeExchange.pending = s.pending := by
  unfold State.completeExchange; (try dsimp only); (repeat' split) <;> simp

@[simp] theorem pending_polaritiesReset (s : State) (c : Chan) : (s.polaritiesReset c).pending = s.pending := by
  unfold State.polaritiesReset
  rw [pending_foldl _ _ (by intro s n; split <;> simp)]

@[simp] theorem pending_warmNow (s : State) (c : Chan) : (s.warmNow c).pending = s.pending := by
  simp [State.warmNow]

@[simp] theorem pending_warmReset (s : State) (c : Chan) : (s.warmReset c).pending = s.pending := by
  simp [State.warmReset]

@[simp] theorem pending_warmIf (s : State) (c : Chan) : (s.warmIf c).pending = s.pending := by
  simp [State.warmIf]

@[simp] theorem pending_powerDown (s : State) (c : Chan) (reason : Byte) :
    (s.powerDown c reason).pending = s.pending := by
  simp [State.powerDown]

@[simp] theorem pending_modMbx (s : State) (c : Chan) (f : Mailbox → Mailbox) :
    (s.modMbx c f).pending = s.pending := by
  simp [State.modMbx]

@[simp] theorem pending_modMirror (s : State) (c : Chan) (i : Slot) (f : Mirror → Mirror) :
    (s.modMirror c i f).pending = s.pending := by
  simp [State.modMirror]

@[simp] theorem pending_finishMbx (s : State) (c : Chan) (code : AbortCode) :
    (s.finishMbx c code).pending = s.pending := by
  simp [State.finishMbx]

@[simp] theorem pending_finishMirror (s : State) (c : Chan) (i : Slot) (code : AbortCode) :
    (s.finishMirror c i code).pending = s.pending := by
  simp [State.finishMirror]

@[simp] theorem pending_endForwarded (s : State) :
    (s.endForwarded).pending = s.pending := by
  unfold State.endForwarded; dsimp only
  refine pending_eachChan _ _ ?_
  intro s c
  (try dsimp only)
  rw [pending_foldl _ _ (by intro s i; split <;> simp)]
  split
  · split <;> simp
  · rfl

@[simp] theorem pending_reeveRestart (s : State) (cause : Nat) : (s.reeveRestart cause).pending = s.pending := by
  simp [State.reeveRestart]

@[simp] theorem pending_reviewPairs (s : State) : s.reviewPairs.pending = s.pending := by
  unfold State.reviewPairs; exact pending_eachChan _ _ (by intro s c; (try dsimp only); (repeat' split) <;> simp)

@[simp] theorem pending_readSelector (s : State) (bad : Bool) :
    (s.readSelector bad).pending = s.pending := by
  unfold State.readSelector; (try dsimp only); (repeat' split) <;> simp

@[simp] theorem pending_profileStatus (s : State) :
    s.profileStatus.pending = s.pending := by
  unfold State.profileStatus; (try dsimp only); (repeat' split) <;> simp

@[simp] theorem pending_runReeve (s : State) (b : Bool) : (s.runReeve b).pending = s.pending := by
  simp [State.runReeve]

@[simp] theorem pending_enterRecovery (s : State) : s.enterRecovery.pending = s.pending := by
  simp [State.enterRecovery]

@[simp] theorem pending_startField (s : State) : s.startField.pending = s.pending := by
  simp [State.startField]

@[simp] theorem pending_pairFallback (s : State) : s.pairFallback.pending = s.pending := by
  simp [State.pairFallback]

@[simp] theorem pending_reserveDump (s : State) (c : Chan) : (s.reserveDump c).pending = s.pending := by
  unfold State.reserveDump; (try dsimp only); (repeat' split) <;> simp

@[simp] theorem pending_runSteward (s : State) (c : Chan) (b : Bool) : (s.runSteward c b).pending = s.pending := by
  simp [State.runSteward]

@[simp] theorem pending_quarantine (s : State) (c : Chan) (b : Bool) (code : Byte) :
    (s.quarantine c b code).pending = s.pending := by
  simp [State.quarantine]

@[simp] theorem pending_restartIfDue (s : State) : s.restartIfDue.pending = s.pending := by
  simp [State.restartIfDue]

@[simp] theorem pending_bootEnded (s : State) (c : Chan) : (s.bootEnded c).pending = s.pending := by
  simp [State.bootEnded]

@[simp] theorem pending_tableReport (s : State) (c : Chan) (n : Nat) :
    (s.tableReport c n).pending = s.pending := by
  unfold State.tableReport; (try dsimp only); (repeat' split) <;> simp

@[simp] theorem pending_selfTestReport (s : State) (c : Chan) (r : Byte) :
    (s.selfTestReport c r).pending = s.pending := by
  simp [State.selfTestReport]

@[simp] theorem pending_bankRequestCommit (c : Chan) (v : Nat) (s : State) :
    (bankRequestCommit c v s).2.pending = s.pending := by
  unfold bankRequestCommit; (try dsimp only); (repeat' split) <;> simp

@[simp] theorem pending_afterBankRequest (s : State) (c : Chan) (code : AbortCode) :
    (s.afterBankRequest c code).pending = s.pending := by
  simp [State.afterBankRequest]

@[simp] theorem pending_unpowered (s : State) : s.unpowered.pending = s.pending := by
  simp [State.unpowered]

@[simp] theorem pending_calendarBack (s : State) : s.calendarBack.pending = s.pending := by
  simp [State.calendarBack]

@[simp] theorem pending_startTime (s : State) : s.startTime.pending = s.pending := by
  unfold State.startTime; rfl

@[simp] theorem pending_powered (s : State) (lost : List Nat) : (s.powered lost).pending = s.pending := by
  simp [State.powered]

@[simp] theorem pending_setUpd (s : State) (n : Nat) : (s.setUpd n).pending = s.pending := by
  simp [State.setUpd]

@[simp] theorem pending_imageTargetCommit (v : Nat) (s : State) : (imageTargetCommit v s).2.pending = s.pending := by
  unfold imageTargetCommit; (try dsimp only); (repeat' split) <;> simp

@[simp] theorem pending_imageCommit (b : Bytes) (s : State) : (imageCommit b s).2.pending = s.pending := by
  unfold imageCommit; (try dsimp only); (repeat' split) <;> simp

@[simp] theorem pending_setInactive (s : State) (k : Bank) : (s.setInactive k).pending = s.pending := by
  simp [State.setInactive]

@[simp] theorem pending_bankWriteCommit  (s : State) : (bankWriteCommit s).2.pending = s.pending := by
  unfold bankWriteCommit; (try dsimp only); (repeat' split) <;> simp

@[simp] theorem pending_restartStewards (s : State) : s.restartStewards.pending = s.pending := by
  simp [State.restartStewards]

@[simp] theorem pending_activate (s : State) (cause : Nat) : (s.activate cause).pending = s.pending := by
  simp [State.activate]

@[simp] theorem pending_restartCommit (ok : State → Bool) (s : State) :
    (restartCommit ok s).2.pending = s.pending := by
  unfold restartCommit; split <;> rfl

@[simp] theorem pending_afterActivate (s : State) (code : AbortCode) (cause : Nat) :
    (s.afterActivate code cause).pending = s.pending := by
  simp [State.afterActivate]

@[simp] theorem pending_countHang (s : State) (c : Chan) (cause : Nat) :
    (s.countHang c cause).pending = s.pending := by
  simp [State.countHang]

@[simp] theorem pending_declareHang (s : State) (c : Chan) (cause : Nat) (unit : Byte) :
    (s.declareHang c cause unit).pending = s.pending := by
  simp [State.declareHang]

@[simp] theorem pending_recover (s : State) (c : Chan) : (s.recover c).pending = s.pending := by
  simp [State.recover]

@[simp] theorem pending_storeDump (s : State) (c : Chan) (h : Hang) (page : Nat) :
    (s.storeDump c h page).pending = s.pending := by
  simp [State.storeDump]

@[simp] theorem pending_abandonDump (s : State) (c : Chan) : (s.abandonDump c).pending = s.pending := by
  simp [State.abandonDump]

@[simp] theorem pending_judgeFloor (s : State) (c : Chan) (rung : Nat) :
    (s.judgeFloor c rung).pending = s.pending := by
  simp [State.judgeFloor]

@[simp] theorem pending_endRelock (s : State) (c : Chan) (fOld fNew start : Nat) :
    (s.endRelock c fOld fNew start).pending = s.pending := by
  simp [State.endRelock]

@[simp] theorem pending_measurePower (s : State) (c : Chan) (mw : Nat) :
    (s.measurePower c mw).pending = s.pending := by
  simp [State.measurePower]

@[simp] theorem pending_tellThrottle (s : State) (c : Chan) (was : Bool) :
    (s.tellThrottle c was).pending = s.pending := by
  simp [State.tellThrottle]

@[simp] theorem pending_traceCapCommit (c : Chan) (v : Nat) (s : State) :
    (traceCapCommit c v s).2.pending = s.pending := by
  simp [traceCapCommit]

@[simp] theorem pending_ladder (s : State) (c : Chan) : (s.ladder c).pending = s.pending := by
  simp [State.ladder]

@[simp] theorem pending_floorCommit (c : Chan) (v : Nat) (s : State) : (floorCommit c v s).2.pending = s.pending := by
  simp [floorCommit]

@[simp] theorem pending_sendShare (s : State) (c : Chan) (share : Nat) :
    (s.sendShare c share).pending = s.pending := by
  simp [State.sendShare]

@[simp] theorem pending_thermalEvent (s : State) (c : Chan) (sensor : Nat) (t : Int) :
    (s.thermalEvent c sensor t).pending = s.pending := by
  simp [State.thermalEvent]

@[simp] theorem pending_dieThrottle (s : State) (c : Chan) : (s.dieThrottle c).pending = s.pending := by
  unfold State.dieThrottle; (try dsimp only); (repeat' split) <;> simp

@[simp] theorem pending_hbmThrottle (s : State) (c : Chan) : (s.hbmThrottle c).pending = s.pending := by
  unfold State.hbmThrottle; (try dsimp only); (repeat' split) <;> simp

@[simp] theorem pending_hotRefresh (s : State) (c : Chan) : (s.hotRefresh c).pending = s.pending := by
  unfold State.hotRefresh; (try dsimp only); (repeat' split) <;> simp

@[simp] theorem pending_trip (s : State) (c : Chan) (sensor : Nat) (t : Int) (reason : Byte) :
    (s.trip c sensor t reason).pending = s.pending := by
  simp [State.trip]

@[simp] theorem pending_tripIfHot (s : State) (c : Chan) : (s.tripIfHot c).pending = s.pending := by
  unfold State.tripIfHot; (try dsimp only); (repeat' split) <;> simp

@[simp] theorem pending_judgeTemps (s : State) (c : Chan) : (s.judgeTemps c).pending = s.pending := by
  simp [State.judgeTemps]

@[simp] theorem pending_worstGuard (s : State) : s.worstGuard.pending = s.pending := by
  simp [State.worstGuard]

@[simp] theorem pending_profileCommit (b : Bytes) (s : State) : (profileCommit b s).2.pending = s.pending := by
  unfold profileCommit; (try dsimp only); (repeat' split) <;> simp

@[simp] theorem pending_saveWear (s : State) (c : Chan) : (s.saveWear c).pending = s.pending := by
  simp [State.saveWear]

@[simp] theorem pending_predict (s : State) (today : Int) : (s.predict today).pending = s.pending := by
  simp [State.predict]

@[simp] theorem pending_journalStored (s : State) : s.journalStored.pending = s.pending := by
  simp [State.journalStored]

@[simp] theorem pending_journalFailed (s : State) : s.journalFailed.pending = s.pending := by
  simp [State.journalFailed]

@[simp] theorem pending_restoreCommit (v : Nat) (s : State) : (restoreCommit v s).2.pending = s.pending := by
  simp [restoreCommit]

@[simp] theorem pending_persistCommit (v : Nat) (s : State) : (persistCommit v s).2.pending = s.pending := by
  simp [persistCommit]

@[simp] theorem pending_closeSessions (s : State) : s.closeSessions.pending = s.pending := by
  simp [State.closeSessions]

@[simp] theorem pending_accessKeyCommit (key : Bytes) (s : State) :
    (accessKeyCommit key s).2.pending = s.pending := by
  simp [accessKeyCommit]

@[simp] theorem pending_afterAccessKey (s : State) (code : AbortCode) :
    (s.afterAccessKey code).pending = s.pending := by
  simp [State.afterAccessKey]

@[simp] theorem pending_functionReset (s : State) (c : Chan) (code : Nat) :
    (s.functionReset c code).pending = s.pending := by
  simp [State.functionReset]

@[simp] theorem pending_resetAll (s : State) : s.resetAll.pending = s.pending := by
  simp [State.resetAll]

@[simp] theorem pending_writeIrqEnable (s : State) (c : Chan) (v : Nat) :
    (s.writeIrqEnable c v).pending = s.pending := by
  simp [State.writeIrqEnable]

@[simp] theorem pending_plainModule (idx sub : Nat) (v : Word) (s : State) :
    (plainModule idx sub v s).2.pending = s.pending := by
  unfold plainModule; exact pending_commitOk _ _ (by intro s; (try dsimp only); (repeat' split) <;> simp)

@[simp] theorem pending_plainChannel (c : Chan) (off sub : Nat) (v : Word) (s : State) :
    (plainChannel c off sub v s).2.pending = s.pending := by
  simp [plainChannel]

@[simp] theorem pending_stickyModule (idx sub : Nat) (v : Word) (s : State) :
    (stickyModule idx sub v s).2.pending = s.pending := by
  simp [stickyModule]

@[simp] theorem pending_stickyChannel (c : Chan) (off sub : Nat) (v : Word) (s : State) :
    (stickyChannel c off sub v s).2.pending = s.pending := by
  simp [stickyChannel]

@[simp] theorem pending_tlFrameCommit (b : Bytes) (s : State) : (tlFrameCommit b s).2.pending = s.pending := by
  unfold tlFrameCommit; (try dsimp only); (repeat' split) <;> simp

@[simp] theorem pending_slaveOnlyCommit (v : Word) (s : State) : (slaveOnlyCommit v s).2.pending = s.pending := by
  simp [slaveOnlyCommit]

@[simp] theorem pending_polarityCommit (c : Chan) (n : Nat) (v : Word) (s : State) :
    (polarityCommit c n v s).2.pending = s.pending := by
  simp [polarityCommit]

@[simp] theorem pending_stopEventCommit (c : Chan) (v : Word) (s : State) :
    (stopEventCommit c v s).2.pending = s.pending := by
  unfold stopEventCommit; (try dsimp only); (repeat' split) <;> simp

@[simp] theorem pending_daybookSelectCommit (c : Chan) (v : Word) (s : State) :
    (daybookSelectCommit c v s).2.pending = s.pending := by
  unfold daybookSelectCommit; (try dsimp only); (repeat' split) <;> simp

@[simp] theorem pending_dumpEnableCommit (c : Chan) (v : Word) (s : State) :
    (dumpEnableCommit c v s).2.pending = s.pending := by
  simp [dumpEnableCommit]

@[simp] theorem pending_moduleCommit (idx sub : Nat) (v : Word) (data : Bytes) (s : State) :
    (moduleCommit idx sub v data s).2.pending = s.pending := by
  unfold moduleCommit
  (repeat' with_reducible apply pending_commitIte) <;> first
    | (simp only [pending_stickyModule, pending_restoreCommit, pending_persistCommit, pending_imageTargetCommit,
        pending_imageCommit, pending_bankWriteCommit, pending_restartCommit, pending_tlFrameCommit,
        pending_tlQueueCommit, pending_tlDiscardCommit, pending_plainModule, pending_nodeIdCommit,
        pending_accessKeyCommit, pending_calendarCommit, pending_profileCommit, pending_ref10mCommit,
        pending_correctionCommit, pending_incrementCommit, pending_timeStepCommit, pending_reacquireCommit,
        pending_ppsLoadCommit, pending_ptpEnableCommit, pending_slaveOnlyCommit, pending_freezeTimeCommit,
        pending_freezeNowCommit, pending_moduleStopCommit, pending_measureCommit, pending_serviceKeyCommit]; done)
    | exact pending_setTaiOffset _ _
    | exact pending_setLeap _ _

@[simp] theorem pending_trigCommit (c : Chan) (off sub : Nat) (v : Word) (s : State) :
    (trigCommit c off sub v s).2.pending = s.pending := by
  rw [trigCommit.eq_def]
  (repeat' with_reducible apply pending_commitIte) <;>
    simp only [pending_cycleEnableCommit, pending_firstTickCommit, pending_plainChannel, pending_trigModeCommit,
      pending_trigTargetCommit, pending_trigShapeCommit, pending_polarityCommit]

@[simp] theorem pending_observeCommit (c : Chan) (off sub : Nat) (v : Word) (s : State) :
    (observeCommit c off sub v s).2.pending = s.pending := by
  unfold observeCommit
  (repeat' split) <;> first | (simp; done) | exact pending_commitOk _ _ (by intro s; simp)

@[simp] theorem pending_debugCommit (c : Chan) (off sub : Nat) (v : Word) (s : State) :
    (debugCommit c off sub v s).2.pending = s.pending := by
  unfold debugCommit
  (repeat' split) <;> first | (simp; done) | exact pending_commitOk _ _ (by intro s; simp)

@[simp] theorem pending_channelCommit (c : Chan) (off sub : Nat) (v : Word) (data : Bytes) (s : State) :
    (channelCommit c off sub v data s).2.pending = s.pending := by
  rw [channelCommit.eq_def]
  (repeat' with_reducible apply pending_commitIte) <;>
    simp only [pending_stickyChannel, pending_bankRequestCommit, pending_trigCommit, pending_observeCommit,
      pending_debugCommit, pending_planLoadCommit, pending_planUnloadCommit, pending_portModeCommit,
      pending_keyBlobCommit, pending_keyDestroyCommit, pending_floorCommit, pending_plainChannel]

@[simp] theorem pending_memberCommit (pl : Place) (m : Member) (sub : Nat) (data : Bytes) (s : State) :
    (memberCommit pl m sub data s).2.pending = s.pending := by
  unfold memberCommit; (try dsimp only); (repeat' split) <;> simp

@[simp] theorem pending_dictWrite (s : State) (p : Path) (idx sub : Nat) (data : Bytes) :
    (s.dictWrite p idx sub data).2.pending = s.pending := by
  unfold State.dictWrite
  split
  · rfl
  · split
    · exact pending_write _ _ _ _ _ _ (by intro s; rfl)
    · split
      · exact pending_writeBlob _ _ _ _ _ (by intro s; simp)
      · exact pending_write _ _ _ _ _ _ (by intro s; simp)

@[simp] theorem pending_afterWrite (s : State) (idx sub : Nat) (data : Bytes) (code : AbortCode) :
    (s.afterWrite idx sub data code).pending = s.pending := by
  unfold State.afterWrite; (try dsimp only); (repeat' split) <;> simp

@[simp] theorem pending_busyError (s : State) (c : Chan) : (s.busyError c).pending = s.pending := by
  simp [State.busyError]

@[simp] theorem pending_measured (s : State) (idx sub : Nat) : (s.measured idx sub).pending = s.pending := by
  simp [State.measured]

@[simp] theorem pending_answerMbx (s : State) (c : Chan) (write : Bool) (code : AbortCode) :
    (s.answerMbx c write code).pending = s.pending := by
  simp [State.answerMbx]

@[simp] theorem pending_serveMbxRead (s : State) (c : Chan) : (s.serveMbxRead c).pending = s.pending := by
  unfold State.serveMbxRead; (try dsimp only); (repeat' split) <;> simp

@[simp] theorem pending_failMbxWrite (s : State) (c : Chan) (code : AbortCode) :
    (s.failMbxWrite c code).pending = s.pending := by
  simp [State.failMbxWrite]

@[simp] theorem pending_serveMbxWrite (s : State) (c : Chan) : (s.serveMbxWrite c).pending = s.pending := by
  simp [State.serveMbxWrite]

@[simp] theorem pending_serveMbxNow (s : State) (c : Chan) (write : Bool) :
    (s.serveMbxNow c write).pending = s.pending := by
  unfold State.serveMbxNow; (try dsimp only); (repeat' split) <;> simp

@[simp] theorem pending_serveMirrorNow (s : State) (c : Chan) (i : Slot) :
    (s.serveMirrorNow c i).pending = s.pending := by
  unfold State.serveMirrorNow; (try dsimp only); (repeat' split) <;> simp

@[simp] theorem pending_queueReeve (s : State) (c : Chan) (i : Option Slot) :
    (s.queueReeve c i).pending = s.pending := by
  rfl

@[simp] theorem pending_serveWaiting (s : State) (x : Chan × Option Slot) :
    (s.serveWaiting x).pending = s.pending := by
  unfold State.serveWaiting; (try dsimp only); (repeat' split) <;> simp

@[simp] theorem pending_serveReeve (s : State) :
    s.serveReeve.pending = s.pending := by
  unfold State.serveReeve; (try dsimp only); (repeat' split) <;> simp

@[simp] theorem pending_serveMbx (s : State) (c : Chan) (write : Bool) :
    (s.serveMbx c write).pending = s.pending := by
  simp [State.serveMbx]

@[simp] theorem pending_mailboxAccess (s : State) (c : Chan) (m : Mailbox) :
    (s.mailboxAccess c m).pending = s.pending := by
  simp [State.mailboxAccess]

@[simp] theorem pending_startMbx (s : State) (c : Chan) : (s.startMbx c).pending = s.pending := by
  simp [State.startMbx]

@[simp] theorem pending_writeMbxCtrl (s : State) (c : Chan) (v : Nat) : (s.writeMbxCtrl c v).pending = s.pending := by
  simp [State.writeMbxCtrl]

@[simp] theorem pending_serveMirror (s : State) (c : Chan) (i : Slot) : (s.serveMirror c i).pending = s.pending := by
  unfold State.serveMirror; (try dsimp only); (repeat' split) <;> simp

@[simp] theorem pending_startMirror (s : State) (c : Chan) (i : Slot) : (s.startMirror c i).pending = s.pending := by
  simp [State.startMirror]

@[simp] theorem pending_sendTlx (s : State) (src : TlxSrc) (cls : TxClass) (k : Option (Fin 32)) (pdu : Bytes) :
    (s.sendTlx src cls k pdu).pending = s.pending := by
  unfold State.sendTlx; (try dsimp only); (repeat' split) <;> simp

@[simp] theorem pending_modSession (s : State) (k : Fin 32) (f : Session → Session) :
    (s.modSession k f).pending = s.pending := by
  simp [State.modSession]

@[simp] theorem pending_renew (s : State) (k : Fin 32) : (s.renew k).pending = s.pending := by
  simp [State.renew]

@[simp] theorem pending_respond (s : State) (k : Fin 32) (service : Nat) (tid : BitVec 16) (status : AbortCode) (body : Bytes) :
    (s.respond k service tid status body).pending = s.pending := by
  simp [State.respond]

@[simp] theorem pending_respondFree (s : State) (src : TlxSrc) (service : Nat) (sid tid : BitVec 16) (status : AbortCode) (body : Bytes) :
    (s.respondFree src service sid tid status body).pending = s.pending := by
  simp [State.respondFree]

theorem pending_inSession (s : State) (src : TlxSrc) (svc : Nat) (sid tid : BitVec 16) (ok : SessSt → Bool)
    (serve : State → Fin 32 → State) (h : ∀ s k, (serve s k).pending = s.pending) :
    (s.inSession src svc sid tid ok serve).pending = s.pending := by
  unfold State.inSession; (try dsimp only)
  (repeat' split) <;> simp [h]

@[simp] theorem pending_closeSession (s : State) (k : Fin 32) : (s.closeSession k).pending = s.pending := by
  simp [State.closeSession]

@[simp] theorem pending_serveIdentify (s : State) (src : TlxSrc) (tid : BitVec 16) :
    (s.serveIdentify src tid).pending = s.pending := by
  simp [State.serveIdentify]

@[simp] theorem pending_openIn (s : State) (k : Fin 32) (src : TlxSrc) (tid : BitVec 16) (r : Role) (proof : Bool) :
    (s.openIn k src tid r proof).pending = s.pending := by
  simp [State.openIn]

@[simp] theorem pending_serveOpen (s : State) (src : TlxSrc) (tid : BitVec 16) (role : Byte) :
    (s.serveOpen src tid role).pending = s.pending := by
  unfold State.serveOpen; (try dsimp only); (repeat' split) <;> simp

@[simp] theorem pending_serveAuth (s : State) (src : TlxSrc) (sid tid : BitVec 16) (proof : BitVec 128) :
    (s.serveAuth src sid tid proof).pending = s.pending := by
  unfold State.serveAuth; exact pending_inSession _ _ _ _ _ _ _ (by intro s k; (try dsimp only); (repeat' split) <;> simp)

@[simp] theorem pending_serveRenew (s : State) (src : TlxSrc) (sid tid : BitVec 16) :
    (s.serveRenew src sid tid).pending = s.pending := by
  unfold State.serveRenew; exact pending_inSession _ _ _ _ _ _ _ (by intro s k; (try dsimp only); (repeat' split) <;> simp)

@[simp] theorem pending_serveClose (s : State) (src : TlxSrc) (sid tid : BitVec 16) :
    (s.serveClose src sid tid).pending = s.pending := by
  unfold State.serveClose; exact pending_inSession _ _ _ _ _ _ _ (by intro s k; (try dsimp only); (repeat' split) <;> simp)

@[simp] theorem pending_serveUnknown (s : State) (src : TlxSrc) (sid tid : BitVec 16) (service : Nat) :
    (s.serveUnknown src sid tid service).pending = s.pending := by
  unfold State.serveUnknown
  (repeat' split) <;> first | (simp; done) | exact pending_inSession _ _ _ _ _ _ _ (by intro s k; simp)

@[simp] theorem pending_serveRead (s : State) (src : TlxSrc) (sid tid : BitVec 16) (idx sub : Nat) :
    (s.serveRead src sid tid idx sub).pending = s.pending := by
  unfold State.serveRead; exact pending_inSession _ _ _ _ _ _ _ (by intro s k; (try dsimp only); (repeat' split) <;> simp)

@[simp] theorem pending_serveReadSegment (s : State) (src : TlxSrc) (sid tid : BitVec 16) (off : Nat) :
    (s.serveReadSegment src sid tid off).pending = s.pending := by
  unfold State.serveReadSegment; exact pending_inSession _ _ _ _ _ _ _ (by intro s k; (try dsimp only); (repeat' split) <;> simp)

@[simp] theorem pending_dropPend (s : State) (k : Fin 32) : (s.dropPend k).pending = s.pending := by
  simp [State.dropPend]

@[simp] theorem pending_serveSegment (s : State) (k : Fin 32) (tid : BitVec 16) (idx sub : Nat) (last : Bool) (off : Nat) (data : Bytes) :
    (s.serveSegment k tid idx sub last off data).pending = s.pending := by
  simp [State.serveSegment]

@[simp] theorem pending_serveWrite (s : State) (src : TlxSrc) (sid tid : BitVec 16) (idx sub : Nat) (last : Bool) (off : Nat) (data : Bytes) :
    (s.serveWrite src sid tid idx sub last off data).pending = s.pending := by
  unfold State.serveWrite; exact pending_inSession _ _ _ _ _ _ _ (by intro s k; (try dsimp only); (repeat' split) <;> simp)

@[simp] theorem pending_serveWriteCancel (s : State) (src : TlxSrc) (sid tid : BitVec 16) :
    (s.serveWriteCancel src sid tid).pending = s.pending := by
  unfold State.serveWriteCancel; exact pending_inSession _ _ _ _ _ _ _ (by intro s k; (try dsimp only); (repeat' split) <;> simp)

@[simp] theorem pending_serveSubscribe (s : State) (src : TlxSrc) (sid tid : BitVec 16) (idx sub : Nat) (mode : Byte) (minMs periodMs : Nat) :
    (s.serveSubscribe src sid tid idx sub mode minMs periodMs).pending = s.pending := by
  unfold State.serveSubscribe; exact pending_inSession _ _ _ _ _ _ _ (by intro s k; (try dsimp only); (repeat' split) <;> simp)

@[simp] theorem pending_serveUnsubscribe (s : State) (src : TlxSrc) (sid tid : BitVec 16) (handle : Byte) :
    (s.serveUnsubscribe src sid tid handle).pending = s.pending := by
  unfold State.serveUnsubscribe; exact pending_inSession _ _ _ _ _ _ _ (by intro s k; (try dsimp only); (repeat' split) <;> simp)

@[simp] theorem pending_notify (s : State) (k : Fin 32) (u : Sub) (value : Bytes) :
    (s.notify k u value).pending = s.pending := by
  simp [State.notify]

@[simp] theorem pending_serveAck (s : State) (src : TlxSrc) (sid seq : BitVec 16) :
    (s.serveAck src sid seq).pending = s.pending := by
  unfold State.serveAck; (try dsimp only); (repeat' split) <;> simp

@[simp] theorem pending_lapse (s : State) (k : Fin 32) : (s.lapse k).pending = s.pending := by
  simp [State.lapse]

@[simp] theorem pending_runRequest (s : State) (src : TlxSrc) (service : Nat) (sid tid : BitVec 16) (b : Bytes) :
    (s.runRequest src service sid tid b).pending = s.pending := by
  rw [State.runRequest.eq_def]
  dsimp only
  (repeat' with_reducible apply pending_iteOf) <;> simp

theorem pending_runPdu {s t : State} {src : TlxSrc} {b : Bytes} {p : Bool} (h : s.runPdu src b p = some t) :
    t.pending = s.pending := by
  unfold State.runPdu at h
  (repeat' split at h) <;> cases h <;> simp

@[simp] theorem pending_usbStall (s : State) : s.usbStall.pending = s.pending := by
  simp [State.usbStall]

@[simp] theorem pending_usbPdu (s : State) (src : TlxSrc) (b : Bytes) : (s.usbPdu src b).pending = s.pending := by
  unfold State.usbPdu
  cases h : s.runPdu src b false with
  | none => rfl
  | some t => exact pending_runPdu h

@[simp] theorem pending_usbReply (s : State) (r : Option Bytes) : (s.usbReply r).pending = s.pending := by
  unfold State.usbReply; (try dsimp only); (repeat' split) <;> simp

@[simp] theorem pending_usbDone (s : State) (u : Usb) : (s.usbDone u).pending = s.pending := by
  simp [State.usbDone]

@[simp] theorem pending_usbStandard (s : State) (requestType request value index : Nat) :
    (s.usbStandard requestType request value index).pending = s.pending := by
  simp [State.usbStandard]

@[simp] theorem pending_discardFrame (s : State) : s.discardFrame.pending = s.pending := by
  simp [State.discardFrame]

@[simp] theorem pending_writeMbxReg (s : State) (c : Chan) (off : Nat) (v : BitVec 32) :
    (s.writeMbxReg c off v).pending = s.pending := by
  simp [State.writeMbxReg]

@[simp] theorem pending_writeMirReg (s : State) (c : Chan) (i : Slot) (off : Nat) (v : BitVec 32) :
    (s.writeMirReg c i off v).pending = s.pending := by
  simp [State.writeMirReg]

@[simp] theorem pending_storeVec (s : State) (c : Chan) (n : Nat) (e : Vec) :
    (s.storeVec c n e).pending = s.pending := by
  simp [State.storeVec]

@[simp] theorem pending_writeMsix (s : State) (c : Chan) (off : Nat) (v : BitVec 32) :
    (s.writeMsix c off v).pending = s.pending := by
  rw [State.writeMsix.eq_def]
  cases (s.chan c).host.msix[msixEntry off]? with
  | none => rfl
  | some e => exact pending_storeVec _ _ _ _

@[simp] theorem pending_readReg (s : State) (view : View) (c : Chan) (i : Slot) (off : Nat) :
    (s.readReg view c i off).pending = s.pending := by
  simp [State.readReg]

@[simp] theorem pending_readSized (s : State) (view : View) (c : Chan) (i : Slot) (off size : Nat) :
    (s.readSized view c i off size).pending = s.pending := by
  simp [State.readSized]

@[simp] theorem pending_accessError (s : State) (c : Chan) (bit : Nat) :
    (s.accessError c bit).pending = s.pending := by
  simp [State.accessError]

@[simp] theorem pending_writeRingReg (s : State) (view : View) (c : Chan) (i : Slot) (k : RingKind) (off key : Nat) (v : BitVec 32) :
    (s.writeRingReg view c i k off key v).pending = s.pending := by
  simp [State.writeRingReg]

@[simp] theorem pending_writeStocktake (s : State) (c : Chan) (v : BitVec 32) :
    (s.writeStocktake c v).pending = s.pending := by
  simp [State.writeStocktake]

@[simp] theorem pending_writeLow (s : State) (c : Chan) (off : Nat) (v : BitVec 32) :
    (s.writeLow c off v).pending = s.pending := by
  simp [State.writeLow]

@[simp] theorem pending_writeBasePair (s : State) (view : View) (c : Chan) (i : Slot) (k : RingKind) (key : Nat) (v : Word) :
    (s.writeBasePair view c i k key v).pending = s.pending := by
  simp [State.writeBasePair]

end Sys2Proof.Laws
end

