-- ==== Sys2Proof/Laws/Cells.lean ====
section
/-! SUPPORT. The shared operations that leave the bytes of every Cellar and Larder: one lemma for each. -/

namespace Sys2Proof.Laws

open Sys2Proof Sys2Proof.Machine


/-- The two memories of a channel. -/
def mem (ch : Channel) : List Host.Cell × List Host.Cell := (ch.cellar, ch.larder)

@[simp] theorem mem_eq_iff (a b : Channel) : mem a = mem b ↔ a.cellar = b.cellar ∧ a.larder = b.larder := by
  simp [mem]

/-- Two states hold the same memories, channel by channel. -/
def SameCells (s t : State) : Prop := t.chans.map mem = s.chans.map mem

@[simp] theorem sameCells_iff (s t : State) : SameCells s t ↔ t.chans.map mem = s.chans.map mem := Iff.rfl

theorem mem_chan_of {s t : State} (h : t.chans.map mem = s.chans.map mem) (c : Chan) :
    mem (t.chan c) = mem (s.chan c) := by
  have := congrArg (fun v => v[c.val]) h
  simpa [State.chan] using this

@[simp] theorem cells_setChan (s : State) (c : Chan) (ch : Channel) (h : mem ch = mem (s.chan c)) :
    (s.setChan c ch).chans.map mem = s.chans.map mem := by
  apply Vector.ext
  intro i hi
  simp only [State.setChan, Vector.getElem_map, Vector.getElem_set]
  split
  · rename_i e; subst e; exact h
  · rfl

@[simp] theorem cells_modChan (s : State) (c : Chan) (f : Channel → Channel) (h : mem (f (s.chan c)) = mem (s.chan c)) :
    (s.modChan c f).chans.map mem = s.chans.map mem := cells_setChan s c _ h

@[simp] theorem cells_foldl {α : Type} (l : List α) (f : State → α → State) (h : ∀ s x, SameCells s (f s x))
    (s : State) : (l.foldl f s).chans.map mem = s.chans.map mem := by
  induction l generalizing s with
  | nil => rfl
  | cons x r ih => rw [List.foldl_cons, ih]; exact h s x

@[simp] theorem cells_eachChan (s : State) (f : State → Chan → State) (h : ∀ s x, SameCells s (f s x)) :
    (s.eachChan f).chans.map mem = s.chans.map mem := cells_foldl _ f h s

@[simp] theorem cells_ite (p : Prop) [Decidable p] (a b : State) :
    (if p then a else b).chans.map mem = if p then a.chans.map mem else b.chans.map mem := by split <;> rfl

theorem cells_iteOf {p : Prop} [Decidable p] {a b s : State} (ha : a.chans.map mem = s.chans.map mem)
    (hb : b.chans.map mem = s.chans.map mem) : (if p then a else b).chans.map mem = s.chans.map mem := by
  split <;> assumption

theorem cells_commitIte {p : Prop} [Decidable p] {f g : Commit} {s : State}
    (hf : (f s).2.chans.map mem = s.chans.map mem) (hg : (g s).2.chans.map mem = s.chans.map mem) :
    ((if p then f else g) s).2.chans.map mem = s.chans.map mem := by split <;> assumption

@[simp] theorem cells_morBits (s : State) (idx sub : Nat) (m : Word) :
    (s.morBits idx sub m).chans.map mem = s.chans.map mem := by
  unfold State.morBits; (try dsimp only); (repeat' split) <;> simp

@[simp] theorem cells_mclearBits (s : State) (idx sub : Nat) (m : Word) :
    (s.mclearBits idx sub m).chans.map mem = s.chans.map mem := by
  unfold State.mclearBits; (try dsimp only); (repeat' split) <;> simp

@[simp] theorem cells_mcount (s : State) (idx sub n : Nat) (bits : Nat) :
    (s.mcount idx sub n bits).chans.map mem = s.chans.map mem := by
  unfold State.mcount; (try dsimp only); (repeat' split) <;> simp

@[simp] theorem cells_cput (s : State) (c : Chan) (off sub : Nat) (v : Word) :
    (s.cput c off sub v).chans.map mem = s.chans.map mem := by
  unfold State.cput; (try dsimp only); (repeat' split) <;> simp

@[simp] theorem cells_corBits (s : State) (c : Chan) (off sub : Nat) (m : Word) :
    (s.corBits c off sub m).chans.map mem = s.chans.map mem := by
  unfold State.corBits; (try dsimp only); (repeat' split) <;> simp

@[simp] theorem cells_cclearBits (s : State) (c : Chan) (off sub : Nat) (m : Word) :
    (s.cclearBits c off sub m).chans.map mem = s.chans.map mem := by
  unfold State.cclearBits; (try dsimp only); (repeat' split) <;> simp

@[simp] theorem cells_ccount (s : State) (c : Chan) (off sub n : Nat) (bits : Nat) :
    (s.ccount c off sub n bits).chans.map mem = s.chans.map mem := by
  unfold State.ccount; (try dsimp only); (repeat' split) <;> simp

@[simp] theorem cells_markSaved (s : State) : s.markSaved.chans.map mem = s.chans.map mem := by
  unfold State.markSaved; (try dsimp only); (repeat' split) <;> simp

@[simp] theorem cells_mputSaved (s : State) (idx sub : Nat) (v : Word) :
    (s.mputSaved idx sub v).chans.map mem = s.chans.map mem := by
  unfold State.mputSaved; (try dsimp only); (repeat' split) <;> simp

@[simp] theorem cells_cputSaved (s : State) (c : Chan) (off sub : Nat) (v : Word) :
    (s.cputSaved c off sub v).chans.map mem = s.chans.map mem := by
  unfold State.cputSaved; (try dsimp only); (repeat' split) <;> simp

@[simp] theorem cells_answer (s : State) (code : BitVec 32) : (s.answer code).chans.map mem = s.chans.map mem := by
  unfold State.answer; (try dsimp only); (repeat' split) <;> simp

@[simp] theorem cells_raiseVector (s : State) (c : Chan) (v : Nat) :
    (s.raiseVector c v).chans.map mem = s.chans.map mem := by
  unfold State.raiseVector; (try dsimp only); (repeat' split) <;> simp

@[simp] theorem cells_raiseIrq (s : State) (c : Chan) (b : Fin 7) :
    (s.raiseIrq c b).chans.map mem = s.chans.map mem := by
  unfold State.raiseIrq; (try dsimp only); (repeat' split) <;> simp

@[simp] theorem cells_stamp (s : State) (c : Chan) (u : Nat) : (s.stamp c u).2.chans.map mem = s.chans.map mem := by
  unfold State.stamp
  split
  · rfl
  · dsimp only
    exact (cells_setChan _ _ _ (by rfl)).trans rfl

@[simp] theorem cells_event (s : State) (c : Chan) (e : Ev) : (s.event c e).chans.map mem = s.chans.map mem := by
  unfold State.event; (try dsimp only); (repeat' split) <;> simp

@[simp] theorem cells_moduleEvent (s : State) (e : Ev) : (s.moduleEvent e).chans.map mem = s.chans.map mem := by
  unfold State.moduleEvent; (try dsimp only); (repeat' split) <;> simp

@[simp] theorem cells_access (s : State) (view : View) (c : Chan) (off : Nat) (write : Bool) :
    (s.access view c off write).chans.map mem = s.chans.map mem := by
  unfold State.access; (try dsimp only); (repeat' split) <;> simp

@[simp] theorem cells_changeTraceMode (s : State) (c : Chan) (m reason : Nat) (silentCause : BitVec 16) (written : Bool) :
    (s.changeTraceMode c m reason silentCause written).chans.map mem = s.chans.map mem := by
  unfold State.changeTraceMode; (try dsimp only); (repeat' split) <;> simp

@[simp] theorem cells_tailWritten (s : State) (r : Ring) (v : BitVec 32) :
    (s.tailWritten r v).2.chans.map mem = s.chans.map mem := by
  unfold State.tailWritten; (try dsimp only); (repeat' split) <;> simp

@[simp] theorem cells_traceBlockDone (s : State) (c : Chan) (i : Slot) (b : Block) (rest : List Block) :
    (s.traceBlockDone c i b rest).chans.map mem = s.chans.map mem := by
  unfold State.traceBlockDone
  dsimp only
  split
  · rw [cells_raiseVector]; exact (cells_modChan _ _ _ (by simp)).trans rfl
  · exact (cells_modChan _ _ _ (by simp)).trans rfl

@[simp] theorem cells_traceBlockFailed (s : State) (c : Chan) (i : Slot) :
    (s.traceBlockFailed c i).chans.map mem = s.chans.map mem := by
  unfold State.traceBlockFailed; (try dsimp only); (repeat' split) <;> simp

@[simp] theorem cells_abandonFaithful (s : State) (c : Chan) (f : Slot) :
    (s.abandonFaithful c f).chans.map mem = s.chans.map mem := by
  unfold State.abandonFaithful
  dsimp only
  rw [cells_markSaved, cells_event]
  refine cells_modChan _ _ _ ?_
  (repeat' split) <;> simp

@[simp] theorem cells_setLeap (s : State) (p : Int) : (s.setLeap p).chans.map mem = s.chans.map mem := by
  unfold State.setLeap; (try dsimp only); (repeat' split) <;> simp

@[simp] theorem cells_setTaiOffset (s : State) (off : Int) :
    (s.setTaiOffset off).chans.map mem = s.chans.map mem := by
  unfold State.setTaiOffset; (try dsimp only); (repeat' split) <;> simp

@[simp] theorem cells_leap (s : State) : s.leap.chans.map mem = s.chans.map mem := by
  unfold State.leap; (try dsimp only); (repeat' split) <;> simp

@[simp] theorem cells_setCalendar (s : State) (sec : Nat) : (s.setCalendar sec).chans.map mem = s.chans.map mem := by
  unfold State.setCalendar; rfl

@[simp] theorem cells_commitOk (f : State → State) (s : State) (h : ∀ s, SameCells s (f s)) :
    (commitOk f s).2.chans.map mem = s.chans.map mem := h s

@[simp] theorem cells_touched (s : State) (idx sub : Nat) : (s.touched idx sub).chans.map mem = s.chans.map mem := by
  unfold State.touched; rfl

@[simp] theorem cells_committed (s : State) (pl : Place) (m : Member) (idx sub : Nat) :
    (s.committed pl m idx sub).chans.map mem = s.chans.map mem := by
  unfold State.committed; (try dsimp only); (repeat' split) <;> simp

theorem cells_write (s : State) (p : Path) (i j : Nat) (b : Bytes) (f : Commit)
    (h : ∀ s, (f s).2.chans.map mem = s.chans.map mem) : (s.write p i j b f).2.chans.map mem = s.chans.map mem := by
  unfold State.write
  split
  · rfl
  · dsimp only; split <;> simp [h]

@[simp] theorem cells_stageOne (s : State) (c : Chan) (room : Nat) (x : Completion) :
    (s.stageOne c room x).2.chans.map mem = s.chans.map mem := by
  unfold State.stageOne; (try dsimp only); (repeat' split) <;> simp

@[simp] theorem cells_stageAll (s : State) (c : Chan) (used : Nat) (l : List Completion) :
    ((s.stageAll c used l).2).chans.map mem = s.chans.map mem := by
  induction l generalizing s used with
  | nil => rfl
  | cons x r ih =>
    unfold State.stageAll
    (try dsimp only)
    split
    · rw [ih, cells_stageOne]
    · exact ih _ _

@[simp] theorem cells_trimStaging (s : State) (c : Chan) :
    (s.trimStaging c).chans.map mem = s.chans.map mem := by
  unfold State.trimStaging; (try dsimp only); (repeat' split) <;> simp

@[simp] theorem cells_complete (s : State) (c : Chan) (x : Completion) :
    (s.complete c x).chans.map mem = s.chans.map mem := by
  unfold State.complete; (try dsimp only); (repeat' split) <;> simp

@[simp] theorem cells_blockDone (s : State) (c : Chan) (k : StreamKind) (i : Slot) (b : Block) (rest : List Block) :
    (s.blockDone c k i b rest).chans.map mem = s.chans.map mem := by
  unfold State.blockDone
  cases k
  · dsimp only
    rw [cells_trimStaging]
    split
    · rw [cells_raiseVector]; exact (cells_modChan _ _ _ (by simp)).trans rfl
    · exact (cells_modChan _ _ _ (by simp)).trans rfl
  · dsimp only
    split
    · rw [cells_raiseVector]; exact (cells_modChan _ _ _ (by simp)).trans rfl
    · exact (cells_modChan _ _ _ (by simp)).trans rfl

@[simp] theorem cells_blockFailed (s : State) (c : Chan) (k : StreamKind) (i : Slot) :
    (s.blockFailed c k i).chans.map mem = s.chans.map mem := by
  cases k <;> simp [State.blockFailed]

@[simp] theorem cells_streamBlock (s : State) (c : Chan) (k : StreamKind) (i : Slot) (ok : Bool) :
    (s.streamBlock c k i ok).chans.map mem = s.chans.map mem := by
  unfold State.streamBlock; (try dsimp only); (repeat' split) <;> simp

@[simp] theorem cells_streamTail (s : State) (c : Chan) (k : StreamKind) (i : Slot) (v : BitVec 32) :
    (s.streamTail c k i v).chans.map mem = s.chans.map mem := by
  unfold State.streamTail; (try dsimp only); (repeat' split) <;> simp

@[simp] theorem cells_unreached (s : State) (c : Chan) (p : Fin 8) (j : Job) (flags : Nat) :
    (s.unreached c p j flags).chans.map mem = s.chans.map mem := by
  unfold State.unreached; (try dsimp only); (repeat' split) <;> simp

@[simp] theorem cells_reportUnreached (s : State) (c : Chan) (j : Job) (flags : Nat) :
    (s.reportUnreached c j flags).chans.map mem = s.chans.map mem := by
  unfold State.reportUnreached; (try dsimp only); (repeat' split) <;> simp

@[simp] theorem cells_startCapture (s : State) (c : Chan) (p : Fin 8) :
    (s.startCapture c p).chans.map mem = s.chans.map mem := by
  unfold State.startCapture; (try dsimp only); (repeat' split) <;> simp

@[simp] theorem cells_feedPoint (s : State) (c : Chan) (j : Job) (tensor : BitVec 16) (at_ : Nat) (data : Bytes) (p : Fin 8) :
    (s.feedPoint c j tensor at_ data p).chans.map mem = s.chans.map mem := by
  unfold State.feedPoint; (try dsimp only); (repeat' split) <;> simp

@[simp] theorem cells_feedPoints (s : State) (c : Chan) (j : Job) (tensor : BitVec 16) (data : Bytes) :
    (s.feedPoints c j tensor data).chans.map mem = s.chans.map mem := by
  unfold State.feedPoints; (try dsimp only); (repeat' split) <;> simp

@[simp] theorem cells_capture (s : State) (c : Chan) (p : Fin 8) (j : Job) (flags : Nat) :
    (s.capture c p j flags).chans.map mem = s.chans.map mem := by
  unfold State.capture; (try dsimp only); (repeat' split) <;> simp

@[simp] theorem cells_settlePoint (s : State) (c : Chan) (j : Job) (done stopped : Bool) (p : Fin 8) :
    (s.settlePoint c j done stopped p).chans.map mem = s.chans.map mem := by
  unfold State.settlePoint; (try dsimp only); (repeat' split) <;> simp

@[simp] theorem cells_settleCaptures (s : State) (c : Chan) (j : Job) (done stopped : Bool) :
    (s.settleCaptures c j done stopped).chans.map mem = s.chans.map mem := by
  unfold State.settleCaptures; (try dsimp only); (repeat' split) <;> simp

@[simp] theorem cells_finish (s : State) (c : Chan) (j : Job) (status code : Nat) :
    (s.finish c j status code).chans.map mem = s.chans.map mem := by
  unfold State.finish; (try dsimp only); (repeat' split) <;> simp

@[simp] theorem cells_noteHold (s : State) (c : Chan) (h : Fin 16) (full : Bool) :
    (s.noteHold c h full).chans.map mem = s.chans.map mem := by
  unfold State.noteHold; (try dsimp only); (repeat' split) <;> simp

@[simp] theorem cells_tellHold (s : State) (c : Chan) (x : Hold) :
    (s.tellHold c x).chans.map mem = s.chans.map mem := by
  unfold State.tellHold; (try dsimp only); (repeat' split) <;> simp

@[simp] theorem cells_unhold (s : State) (c : Chan) (h : Fin 16) (full : Bool) :
    (s.unhold c h full).chans.map mem = s.chans.map mem := by
  unfold State.unhold; (try dsimp only); (repeat' split) <;> simp

@[simp] theorem cells_endHolds (s : State) (c : Chan) (keep : Bool) :
    (s.endHolds c keep).chans.map mem = s.chans.map mem := by
  unfold State.endHolds; (try dsimp only); (repeat' split) <;> simp

@[simp] theorem cells_endJob (s : State) (c : Chan) (j : Job) (status : Nat) (decFlags : Nat) :
    (s.endJob c j status decFlags).chans.map mem = s.chans.map mem := by
  unfold State.endJob; (try dsimp only); (repeat' split) <;> simp

@[simp] theorem cells_countReject (s : State) (c : Chan) (owner : Slot) (plan tag code : Nat) :
    (s.countReject c owner plan tag code).chans.map mem = s.chans.map mem := by
  unfold State.countReject; (try dsimp only); (repeat' split) <;> simp

@[simp] theorem cells_rejectJob (s : State) (c : Chan) (j : Job) (code : Nat) :
    (s.rejectJob c j code).chans.map mem = s.chans.map mem := by
  unfold State.rejectJob; (try dsimp only); (repeat' split) <;> simp

@[simp] theorem cells_endJobs (s : State) (c : Chan) (p : Job → Bool) (status : Nat) (decFlags : Nat) :
    (s.endJobs c p status decFlags).chans.map mem = s.chans.map mem := by
  unfold State.endJobs; (try dsimp only); (repeat' split) <;> simp

@[simp] theorem cells_failRunning (s : State) (c : Chan) (status : Nat) (p : Job → Bool) :
    (s.failRunning c status p).chans.map mem = s.chans.map mem := by
  unfold State.failRunning; (try dsimp only); (repeat' split) <;> simp

@[simp] theorem cells_land (s : State) (c : Chan) (u num n : Nat) :
    (s.land c u num n).chans.map mem = s.chans.map mem := by
  unfold State.land; (try dsimp only); (repeat' split) <;> simp

@[simp] theorem cells_landItem (s : State) (c : Chan) (it : CountItem) :
    (s.landItem c it).chans.map mem = s.chans.map mem := by
  unfold State.landItem; (try dsimp only); (repeat' split) <;> simp

@[simp] theorem cells_landDue (s : State) (c : Chan) : (s.landDue c).chans.map mem = s.chans.map mem := by
  unfold State.landDue; (try dsimp only); (repeat' split) <;> simp

@[simp] theorem cells_gather (s : State) (c : Chan) :
    (s.gather c).chans.map mem = s.chans.map mem := by
  unfold State.gather; (try dsimp only); (repeat' split) <;> simp

@[simp] theorem cells_amount (s : State) (c : Chan) (u num n : Nat) :
    (s.amount c u num n).chans.map mem = s.chans.map mem := by
  unfold State.amount; (try dsimp only); (repeat' split) <;> simp

@[simp] theorem cells_tickHatch (s : State) (c : Chan) (h : Fin 16) :
    (s.tickHatch c h).chans.map mem = s.chans.map mem := by
  unfold State.tickHatch; (try dsimp only); (repeat' split) <;> simp

@[simp] theorem cells_tickCounts (s : State) (c : Chan) :
    (s.tickCounts c).chans.map mem = s.chans.map mem := by
  unfold State.tickCounts; (try dsimp only); (repeat' split) <;> simp

@[simp] theorem cells_counterSelectCommit (c : Chan) (u i : Nat) (v : Word) (s : State) :
    (counterSelectCommit c u i v s).2.chans.map mem = s.chans.map mem := by
  unfold counterSelectCommit; (try dsimp only); (repeat' split) <;> simp

@[simp] theorem cells_freeze (s : State) (c : Chan) (code trig : Nat) (e : Edge) :
    (s.freeze c code trig e).chans.map mem = s.chans.map mem := by
  unfold State.freeze; (try dsimp only); (repeat' split) <;> simp

@[simp] theorem cells_missTrigger (s : State) (c : Chan) (code : Nat) :
    (s.missTrigger c code).chans.map mem = s.chans.map mem := by
  unfold State.missTrigger; (try dsimp only); (repeat' split) <;> simp

@[simp] theorem cells_mergeTrigger (s : State) (c : Chan) (code trig : Nat) :
    (s.mergeTrigger c code trig).chans.map mem = s.chans.map mem := by
  unfold State.mergeTrigger; (try dsimp only); (repeat' split) <;> simp

@[simp] theorem cells_trigger (s : State) (c : Chan) (code trig : Nat) (e : Edge) :
    (s.trigger c code trig e).chans.map mem = s.chans.map mem := by
  unfold State.trigger; (try dsimp only); (repeat' split) <;> simp

@[simp] theorem cells_stocktake (s : State) (c : Chan) (code trig : Nat) :
    (s.stocktake c code trig).chans.map mem = s.chans.map mem := by
  simp [State.stocktake]

@[simp] theorem cells_forceFreeze (s : State) (c : Chan) :
    (s.forceFreeze c).chans.map mem = s.chans.map mem := by
  unfold State.forceFreeze; (try dsimp only); (repeat' split) <;> simp

@[simp] theorem cells_landFreezes (s : State) (c : Chan) :
    (s.landFreezes c).chans.map mem = s.chans.map mem := by
  unfold State.landFreezes
  dsimp only
  split
  · rfl
  · rw [cells_foldl _ _ (by intro s x; simp only [sameCells_iff]; split <;> simp)]
    simp

@[simp] theorem cells_powerObservatory (s : State) (c : Chan) (on : Bool) :
    (s.powerObservatory c on).chans.map mem = s.chans.map mem := by
  unfold State.powerObservatory; (try dsimp only); (repeat' split) <;> simp

@[simp] theorem cells_traceModeCommit (c : Chan) (m : Nat) (s : State) :
    (traceModeCommit c m s).2.chans.map mem = s.chans.map mem := by
  unfold traceModeCommit; (try dsimp only); (repeat' split) <;> simp

@[simp] theorem cells_triggerMaskCommit (c : Chan) (v : Nat) (s : State) :
    (triggerMaskCommit c v s).2.chans.map mem = s.chans.map mem := by
  unfold triggerMaskCommit; (try dsimp only); (repeat' split) <;> simp

@[simp] theorem cells_registerTrigger (s : State) (c : Chan) :
    (s.registerTrigger c).chans.map mem = s.chans.map mem := by
  unfold State.registerTrigger; (try dsimp only); (repeat' split) <;> simp

@[simp] theorem cells_t64TriggerCommit (c : Chan) (v : T64) (s : State) :
    (t64TriggerCommit c v s).2.chans.map mem = s.chans.map mem := by
  unfold t64TriggerCommit; (try dsimp only); (repeat' split) <;> simp

@[simp] theorem cells_syncOut (s : State) (level : Bool) : (s.syncOut level).chans.map mem = s.chans.map mem := by
  unfold State.syncOut; (try dsimp only); (repeat' split) <;> simp

@[simp] theorem cells_provisional (s : State) : s.provisional.chans.map mem = s.chans.map mem := by
  unfold State.provisional; (try dsimp only); (repeat' split) <;> simp

@[simp] theorem cells_dropProvisional (s : State) : s.dropProvisional.chans.map mem = s.chans.map mem := by
  unfold State.dropProvisional; (try dsimp only); (repeat' split) <;> simp

@[simp] theorem cells_commitSync (s : State) : s.commitSync.chans.map mem = s.chans.map mem := by
  unfold State.commitSync
  rw [cells_dropProvisional]
  exact cells_eachChan _ _ (by intro s c; (repeat' split) <;> simp)

@[simp] theorem cells_classifySync (s : State) (width : Nat) :
    (s.classifySync width).chans.map mem = s.chans.map mem := by
  unfold State.classifySync; (try dsimp only); (repeat' split) <;> simp

@[simp] theorem cells_freezeTimeCommit (v : T64) (s : State) :
    (freezeTimeCommit v s).2.chans.map mem = s.chans.map mem := by
  unfold freezeTimeCommit; (try dsimp only); (repeat' split) <;> simp

@[simp] theorem cells_originate (s : State) (n : Nat) :
    (s.originate n).chans.map mem = s.chans.map mem := by
  simp [State.originate]

@[simp] theorem cells_landPulse (s : State) :
    s.landPulse.chans.map mem = s.chans.map mem := by
  unfold State.landPulse; (try dsimp only); (repeat' split) <;> simp

@[simp] theorem cells_freezeNowCommit (s : State) :
    ((freezeNowCommit s).2).chans.map mem = s.chans.map mem := by
  unfold freezeNowCommit; dsimp only
  rw [cells_landPulse, cells_eachChan _ _ (by intro s c; simp)]
  split <;> exact cells_eachChan _ _ (fun s c => by simp)

@[simp] theorem cells_trigPin (s : State) (c : Chan) (n : Nat) (active : Bool) :
    (s.trigPin c n active).chans.map mem = s.chans.map mem := by
  unfold State.trigPin; (try dsimp only); (repeat' split) <;> simp

@[simp] theorem cells_pulse (s : State) (c : Chan) (n : Fin 4) : (s.pulse c n).chans.map mem = s.chans.map mem := by
  unfold State.pulse; (try dsimp only); (repeat' split) <;> simp

@[simp] theorem cells_nextTarget (s : State) (c : Chan) (k : Fin 5) (late : Nat) :
    (s.nextTarget c k late).chans.map mem = s.chans.map mem := by
  unfold State.nextTarget; (try dsimp only); (repeat' split) <;> simp

@[simp] theorem cells_cycleTick (s : State) (c : Chan) : (s.cycleTick c).chans.map mem = s.chans.map mem := by
  unfold State.cycleTick; (try dsimp only); (repeat' split) <;> simp

@[simp] theorem cells_fireCmp (s : State) (c : Chan) (k : Fin 5) (late : Nat) (isLate : Bool) :
    (s.fireCmp c k late isLate).chans.map mem = s.chans.map mem := by
  unfold State.fireCmp; (try dsimp only); (repeat' split) <;> simp

@[simp] theorem cells_trigTargetCommit (c : Chan) (n : Fin 4) (v : T32) (s : State) :
    (trigTargetCommit c n v s).2.chans.map mem = s.chans.map mem := by
  unfold trigTargetCommit; (try dsimp only); (repeat' split) <;> simp

@[simp] theorem cells_completeArming (s : State) (c : Chan) (k : Fin 5) :
    (s.completeArming c k).chans.map mem = s.chans.map mem := by
  unfold State.completeArming; (try dsimp only); (repeat' split) <;> simp

@[simp] theorem cells_trigModeCommit (c : Chan) (n : Fin 4) (v : Nat) (s : State) :
    (trigModeCommit c n v s).2.chans.map mem = s.chans.map mem := by
  unfold trigModeCommit; (try dsimp only); (repeat' split) <;> simp

@[simp] theorem cells_trigShapeCommit (c : Chan) (n : Fin 4) (width : Bool) (v : Nat) (s : State) :
    (trigShapeCommit c n width v s).2.chans.map mem = s.chans.map mem := by
  unfold trigShapeCommit; (try dsimp only); (repeat' split) <;> simp

@[simp] theorem cells_cycleEnableCommit (c : Chan) (v : Nat) (s : State) :
    (cycleEnableCommit c v s).2.chans.map mem = s.chans.map mem := by
  unfold cycleEnableCommit; (try dsimp only); (repeat' split) <;> simp

@[simp] theorem cells_firstTickCommit (c : Chan) (v : Nat) (s : State) :
    (firstTickCommit c v s).2.chans.map mem = s.chans.map mem := by
  unfold firstTickCommit; (try dsimp only); (repeat' split) <;> simp

@[simp] theorem cells_stepCmp (s : State) (c : Chan) (k : Fin 5) (before : T32) (step : Int) :
    (s.stepCmp c k before step).chans.map mem = s.chans.map mem := by
  unfold State.stepCmp; (try dsimp only); (repeat' split) <;> simp

@[simp] theorem cells_timeFlag (s : State) (b : Word) : (s.timeFlag b).chans.map mem = s.chans.map mem := by
  unfold State.timeFlag; (try dsimp only); (repeat' split) <;> simp

@[simp] theorem cells_tickChan (s : State) (c : Chan) :
    (s.tickChan c).chans.map mem = s.chans.map mem := by
  unfold State.tickChan; (try dsimp only); (repeat' split) <;> simp

@[simp] theorem cells_tick (s : State) : s.tick.chans.map mem = s.chans.map mem := by
  unfold State.tick; (try dsimp only); (repeat' split) <;> simp

@[simp] theorem cells_setTimeState (s : State) (ts : TimeState) :
    (s.setTimeState ts).chans.map mem = s.chans.map mem := by
  unfold State.setTimeState; (try dsimp only); (repeat' split) <;> simp

@[simp] theorem cells_acquire (s : State) (allowance : Bool) :
    (s.acquire allowance).chans.map mem = s.chans.map mem := by
  unfold State.acquire; (try dsimp only); (repeat' split) <;> simp

@[simp] theorem cells_enterHoldover (s : State) (bits : Word) :
    (s.enterHoldover bits).chans.map mem = s.chans.map mem := by
  unfold State.enterHoldover; (try dsimp only); (repeat' split) <;> simp

@[simp] theorem cells_servoRate (s : State) (off : Int) (interval : Nat) :
    (s.servoRate off interval).chans.map mem = s.chans.map mem := by
  unfold State.servoRate; (try dsimp only); (repeat' split) <;> simp

@[simp] theorem cells_servoDecide (s : State) : s.servoDecide.1.chans.map mem = s.chans.map mem := by
  unfold State.servoDecide; (try dsimp only); (repeat' split) <;> simp

@[simp] theorem cells_servo (s : State) (off : Int) (interval : Nat) :
    (s.servo off interval).chans.map mem = s.chans.map mem := by
  unfold State.servo
  split
  · simp
  · split
    · rfl
    · dsimp only
      split
      · rfl
      · have h := cells_servoDecide { s with time := { s.time with meas := s.time.meas ++ [off] } }
        revert h
        generalize State.servoDecide _ = r
        obtain ⟨t, b⟩ := r
        intro h
        cases b <;> simpa using h

@[simp] theorem cells_measure (s : State) (off : Int) (id : BitVec 64) :
    (s.measure off id).chans.map mem = s.chans.map mem := by
  have a : ∀ (t : State) (n : Nat), (if t.mnat 0x3001 1 = 0 then t.servo off n else t).chans.map mem =
      t.chans.map mem := by
    intro t n; split
    · exact cells_servo _ _ _
    · rfl
  have b : ∀ (t : State), (if t.time.ts = .holdover then
      if t.ptp.held = some id then t.acquire t.time.allowance else (t.timeFlag masterChangedBit).acquire true
      else t).chans.map mem = t.chans.map mem := by
    intro t
    (repeat' split) <;> simp
  unfold State.measure
  generalize (match s.time.lastMeas with | some t => s.tclk - t | none => 0) = n
  dsimp only
  refine cells_iteOf rfl ?_
  refine cells_iteOf ?_ ?_
  · rw [cells_setTimeState]
    exact (a _ _).trans (b { s with time := { s.time with lastMeas := some s.tclk } })
  · exact (a _ _).trans (b { s with time := { s.time with lastMeas := some s.tclk } })

@[simp] theorem cells_useReference (s : State) (r : Nat) : (s.useReference r).chans.map mem = s.chans.map mem := by
  unfold State.useReference; (try dsimp only); (repeat' split) <;> simp

@[simp] theorem cells_ref10mCommit (v : Nat) (s : State) : (ref10mCommit v s).2.chans.map mem = s.chans.map mem := by
  unfold ref10mCommit; (try dsimp only); (repeat' split) <;> simp

@[simp] theorem cells_incrementCommit (v : Word) (s : State) :
    (incrementCommit v s).2.chans.map mem = s.chans.map mem := by
  unfold incrementCommit; (try dsimp only); (repeat' split) <;> simp

@[simp] theorem cells_timeStepCommit (v : Word) (s : State) :
    (timeStepCommit v s).2.chans.map mem = s.chans.map mem := by
  unfold timeStepCommit; (try dsimp only); (repeat' split) <;> simp

@[simp] theorem cells_ppsLoadCommit (v : BitVec 80) (s : State) :
    (ppsLoadCommit v s).2.chans.map mem = s.chans.map mem := by
  unfold ppsLoadCommit; (try dsimp only); (repeat' split) <;> simp

@[simp] theorem cells_strobe (s : State) (l : Load) :
    (s.strobe l).chans.map mem = s.chans.map mem := by
  unfold State.strobe; dsimp only
  rw [cells_eachChan _ _ (by intro s c; simp)]
  simp only [cells_moduleEvent, cells_timeFlag, cells_mcount]
  rw [cells_eachChan _ _ (by intro s c; simp)]

@[simp] theorem cells_ppsMeasure (s : State) (phase : Int) :
    (s.ppsMeasure phase).chans.map mem = s.chans.map mem := by
  unfold State.ppsMeasure; (try dsimp only); (repeat' split) <;> simp

@[simp] theorem cells_reacquireConfig (s : State) : s.reacquireConfig.chans.map mem = s.chans.map mem := by
  unfold State.reacquireConfig; (try dsimp only); (repeat' split) <;> simp

@[simp] theorem cells_correctionCommit (sub v : Nat) (s : State) :
    (correctionCommit sub v s).2.chans.map mem = s.chans.map mem := by
  unfold correctionCommit; (try dsimp only); (repeat' split) <;> simp

@[simp] theorem cells_reacquireCommit  (s : State) : (reacquireCommit s).2.chans.map mem = s.chans.map mem := by
  unfold reacquireCommit; (try dsimp only); (repeat' split) <;> simp

@[simp] theorem cells_calendarCommit (v : BitVec 80) (s : State) :
    (calendarCommit v s).2.chans.map mem = s.chans.map mem := by
  unfold calendarCommit; (try dsimp only); (repeat' split) <;> simp

@[simp] theorem cells_setChanSt (s : State) (c : Chan) (st : ChanSt) (reason : Byte) :
    (s.setChanSt c st reason).chans.map mem = s.chans.map mem := by
  unfold State.setChanSt; (try dsimp only); (repeat' split) <;> simp

@[simp] theorem cells_disableCompute (s : State) (c : Chan) (reason : Byte) :
    (s.disableCompute c reason).chans.map mem = s.chans.map mem := by
  unfold State.disableCompute; (try dsimp only); (repeat' split) <;> simp

@[simp] theorem cells_endDown (s : State) (c : Chan) (p : Port) (cause : Nat) :
    (s.endDown c p cause).chans.map mem = s.chans.map mem := by
  unfold State.endDown; (try dsimp only); (repeat' split) <;> simp

@[simp] theorem cells_failUsers (s : State) (c : Chan) (uses : Job → Bool) :
    (s.failUsers c uses).chans.map mem = s.chans.map mem := by
  unfold State.failUsers; (try dsimp only); (repeat' split) <;> simp

@[simp] theorem cells_peerDown (s : State) (c : Chan) (p : Port) :
    (s.peerDown c p).chans.map mem = s.chans.map mem := by
  unfold State.peerDown; (try dsimp only); (repeat' split) <;> simp

@[simp] theorem cells_portDown (s : State) (c : Chan) (p : Port) (cause : Nat) :
    (s.portDown c p cause).chans.map mem = s.chans.map mem := by
  unfold State.portDown; (try dsimp only); (repeat' split) <;> simp

@[simp] theorem cells_portsDown (s : State) (c : Chan) : (s.portsDown c).chans.map mem = s.chans.map mem := by
  unfold State.portsDown; (try dsimp only); (repeat' split) <;> simp

@[simp] theorem cells_requestStop (s : State) (c : Chan) (code : Nat) :
    (s.requestStop c code).chans.map mem = s.chans.map mem := by
  unfold State.requestStop; (try dsimp only); (repeat' split) <;> simp

@[simp] theorem cells_planLoadCommit (c : Chan) (s : State) :
    (planLoadCommit c s).2.chans.map mem = s.chans.map mem := by
  unfold planLoadCommit; (try dsimp only); (repeat' split) <;> simp

@[simp] theorem cells_unloadPlan (s : State) (c : Chan) (i : Fin 16) :
    (s.unloadPlan c i).chans.map mem = s.chans.map mem := by
  unfold State.unloadPlan; (try dsimp only); (repeat' split) <;> simp

@[simp] theorem cells_planUnloadCommit (c : Chan) (s : State) :
    (planUnloadCommit c s).2.chans.map mem = s.chans.map mem := by
  unfold planUnloadCommit; (try dsimp only); (repeat' split) <;> simp

@[simp] theorem cells_admitDesc (s : State) (c : Chan) (i : Slot) (b : Bytes) :
    (s.admitDesc c i b).chans.map mem = s.chans.map mem := by
  unfold State.admitDesc; (try dsimp only); (repeat' split) <;> simp

@[simp] theorem cells_fillSlate (s : State) (c : Chan) : (s.fillSlate c).chans.map mem = s.chans.map mem := by
  unfold State.fillSlate; (try dsimp only); (repeat' split) <;> simp

@[simp] theorem cells_launchJob (s : State) (c : Chan) (j : Job) (late : Bool) (base : T64) (off jitter : Nat) :
    (s.launchJob c j late base off jitter).chans.map mem = s.chans.map mem := by
  unfold State.launchJob
  dsimp only
  rw [cells_fillSlate, cells_event]
  split
  · rw [cells_ccount]; exact (cells_modChan _ _ _ (by rfl)).trans rfl
  · exact (cells_modChan _ _ _ (by rfl)).trans rfl

@[simp] theorem cells_launchDue (s : State) (c : Chan) (j : Job) (t : T64) :
    (s.launchDue c j t).chans.map mem = s.chans.map mem := by
  unfold State.launchDue; (try dsimp only); (repeat' split) <;> simp

@[simp] theorem cells_drainPort (s : State) (c : Chan) (q : Port) :
    (s.drainPort c q).chans.map mem = s.chans.map mem := by
  have a : ∀ (l : List Nat) (h : Fin 16) (ch : Channel), mem (l.foldl (fun ch _ => match ch.runningJob with
      | some j => ch.drainSlot q j h
      | none => ch) ch) = mem ch := by
    intro l h ch
    rw [mem_eq_iff]
    refine mem_foldl _ _ ?_ _
    intro ch x
    split <;> simp
  have b : ∀ (h : Fin 16) (ch : Channel),
      mem (match ch.runningJob with | some j => ch.drainPad j h | none => ch) = mem ch := by
    intro h ch
    split <;> simp
  unfold State.drainPort
  split
  · rfl
  · split
    · rfl
    · dsimp only
      split
      · rw [cells_noteHold, cells_modChan _ _ _ (b _ _), cells_modChan _ _ _ (a _ _ _)]
      · rw [cells_unhold, cells_modChan _ _ _ (b _ _), cells_modChan _ _ _ (a _ _ _)]

@[simp] theorem cells_drainRx (s : State) (c : Chan) :
    (s.drainRx c).chans.map mem = s.chans.map mem := by
  unfold State.drainRx; (try dsimp only); (repeat' split) <;> simp

@[simp] theorem cells_larderRead (s : State) (c : Chan) (j : Job) (line : Nat) :
    (s.larderRead c j line).chans.map mem = s.chans.map mem := by
  unfold State.larderRead; (try dsimp only); (repeat' split) <;> simp

@[simp] theorem cells_readLines (s : State) (c : Chan) (j : Job) (lines : List Nat) :
    (s.readLines c j lines).chans.map mem = s.chans.map mem := by
  unfold State.readLines; (try dsimp only); (repeat' split) <;> simp

@[simp] theorem cells_cellarFor (s : State) (c : Chan) (j : Job) (off n : Nat) :
    (s.cellarFor c j off n).2.chans.map mem = s.chans.map mem := by
  unfold State.cellarFor; (try dsimp only); (repeat' split) <;> simp

@[simp] theorem cells_waitEmpty (s : State) (c : Chan) (h : Fin 16) (op : TileOp) :
    (s.waitEmpty c h op).1.chans.map mem = s.chans.map mem := by
  unfold State.waitEmpty; (try dsimp only); (repeat' split) <;> simp

@[simp] theorem cells_waitFull (s : State) (c : Chan) (h : Fin 16) (op : TileOp) :
    (s.waitFull c h op).1.chans.map mem = s.chans.map mem := by
  unfold State.waitFull; (try dsimp only); (repeat' split) <;> simp

@[simp] theorem cells_vectorStep (s : State) (c : Chan) (j : Job) (l : Fin 2) (src : ActSrc) (f : Fmt) (n : Nat) :
    (s.vectorStep c j l src f n).1.chans.map mem = s.chans.map mem := by
  unfold State.vectorStep; (try dsimp only); (repeat' split) <;> simp

@[simp] theorem cells_macStep (s : State) (c : Chan) (j : Job) (l : Fin 2) (wf : Fmt) (sg : Bool) (src : WeightSrc) (onto : Option (Fin 512)) :
    (s.macStep c j l wf sg src onto).chans.map mem = s.chans.map mem := by
  unfold State.macStep; (try dsimp only); (repeat' split) <;> simp

@[simp] theorem cells_stillNote (s : State) (c : Chan) (j : Job) (u : RowUse) (x : Nat × StillStep) :
    (s.stillNote c j u x).chans.map mem = s.chans.map mem := by
  unfold State.stillNote; (try dsimp only); (repeat' split) <;> simp

@[simp] theorem cells_rowCommit (s : State) (c : Chan) (j : Job) (u : RowUse) (y : Still × List (Nat × StillStep)) :
    (s.rowCommit c j u y).chans.map mem = s.chans.map mem := by
  unfold State.rowCommit; (try dsimp only); (repeat' split) <;> simp

@[simp] theorem cells_rowStep (s : State) (c : Chan) (j : Job) (use : Nat) (r : Recipe) (u : RowUse) (vs : List (BitVec 32)) (op : TileOp) :
    (s.rowStep c j use r u vs op).1.chans.map mem = s.chans.map mem := by
  unfold State.rowStep; (try dsimp only); (repeat' split) <;> simp

@[simp] theorem cells_simpleStep (s : State) (c : Chan) (j : Job) (l : Fin 2) (r : SimpleRow) (dst : SimpleDst) :
    (s.simpleStep c j l r dst).1.chans.map mem = s.chans.map mem := by
  unfold State.simpleStep; (try dsimp only); (repeat' split) <;> simp

@[simp] theorem cells_stillStep (s : State) (c : Chan) (j : Job) (use n : Nat) :
    (s.stillStep c j use n).1.chans.map mem = s.chans.map mem := by
  unfold State.stillStep; (try dsimp only); (repeat' split) <;> simp

@[simp] theorem cells_resultStep (s : State) (c : Chan) (j : Job) (h : Fin 16) (n : Nat) :
    (s.resultStep c j h n).1.chans.map mem = s.chans.map mem := by
  unfold State.resultStep; (try dsimp only); (repeat' split) <;> simp

@[simp] theorem cells_tileStep (s : State) (c : Chan) (j : Job) (op : TileOp) :
    (s.tileStep c j op).1.chans.map mem = s.chans.map mem := by
  unfold State.tileStep; (try dsimp only); (repeat' split) <;> simp

@[simp] theorem cells_flow (s : State) (c : Chan) (work : List TileOp) :
    ((s.flow c work).1).chans.map mem = s.chans.map mem := by
  induction work generalizing s with
  | nil => rfl
  | cons x r ih =>
    unfold State.flow
    (try dsimp only)
    split
    · simp
    · have h := cells_tileStep (s.drainRx c) c
      rename_i j _
      specialize h j x
      revert h
      cases (s.drainRx c).tileStep c j x with
      | mk a b =>
        intro h
        cases b with
        | none => dsimp only at h ⊢; rw [ih, h]; simp
        | some y => dsimp only at h ⊢; rw [h]; simp

@[simp] theorem cells_breachJob (s : State) (c : Chan) (j : Job) (t : Tile) (cause : Nat) :
    (s.breachJob c j t cause).chans.map mem = s.chans.map mem := by
  unfold State.breachJob; (try dsimp only); (repeat' split) <;> simp

@[simp] theorem cells_missTile (s : State) (c : Chan) (j : Job) (t : Tile) (cause : Nat) :
    (s.missTile c j t cause).chans.map mem = s.chans.map mem := by
  unfold State.missTile; (try dsimp only); (repeat' split) <;> simp

@[simp] theorem cells_judgeTile (s : State) (c : Chan) (j : Job) (t : Tile) (cellar : Bool) :
    (s.judgeTile c j t cellar).chans.map mem = s.chans.map mem := by
  unfold State.judgeTile; (try dsimp only); (repeat' split) <;> simp

@[simp] theorem cells_retire (s : State) (c : Chan) (k : Nat) : (s.retire c k).chans.map mem = s.chans.map mem := by
  unfold State.retire; (try dsimp only); (repeat' split) <;> simp

@[simp] theorem cells_runTile (s : State) (c : Chan) (j : Job) (k : Nat) (work : List TileOp) :
    (s.runTile c j k work).chans.map mem = s.chans.map mem := by
  unfold State.runTile; (try dsimp only); (repeat' split) <;> simp

@[simp] theorem cells_startMeasure (s : State) : s.startMeasure.chans.map mem = s.chans.map mem := by
  unfold State.startMeasure; (try dsimp only); (repeat' split) <;> simp

@[simp] theorem cells_concludeMeasure (s : State) : s.concludeMeasure.chans.map mem = s.chans.map mem := by
  unfold State.concludeMeasure; (try dsimp only); (repeat' split) <;> simp

@[simp] theorem cells_exchangeOver (s : State) : s.exchangeOver.chans.map mem = s.chans.map mem := by
  unfold State.exchangeOver; (try dsimp only); (repeat' split) <;> simp

@[simp] theorem cells_measureCommit  (s : State) : (measureCommit s).2.chans.map mem = s.chans.map mem := by
  unfold measureCommit; (try dsimp only); (repeat' split) <;> simp

@[simp] theorem cells_answerProbe (s : State) (c : Chan) (p : Port) (b : Bytes) :
    (s.answerProbe c p b).chans.map mem = s.chans.map mem := by
  unfold State.answerProbe; (try dsimp only); (repeat' split) <;> simp

@[simp] theorem cells_takeEcho (s : State) (b : Bytes) : (s.takeEcho b).chans.map mem = s.chans.map mem := by
  unfold State.takeEcho; (try dsimp only); (repeat' split) <;> simp

@[simp] theorem cells_bar4Access (s : State) (c : Chan) (addr : Nat) (write : Bool) :
    (s.bar4Access c addr write).chans.map mem = s.chans.map mem := by
  unfold State.bar4Access; (try dsimp only); (repeat' split) <;> simp

@[simp] theorem cells_setPlca (s : State) (n : Nat) : (s.setPlca n).chans.map mem = s.chans.map mem := by
  unfold State.setPlca; (try dsimp only); (repeat' split) <;> simp

@[simp] theorem cells_plcaFlag (s : State) (b : Word) : (s.plcaFlag b).chans.map mem = s.chans.map mem := by
  unfold State.plcaFlag; (try dsimp only); (repeat' split) <;> simp

@[simp] theorem cells_enterListenOnly (s : State) (cause : Nat) :
    (s.enterListenOnly cause).chans.map mem = s.chans.map mem := by
  unfold State.enterListenOnly; (try dsimp only); (repeat' split) <;> simp

@[simp] theorem cells_pushTsq (s : State) (e : TsqEntry) : (s.pushTsq e).chans.map mem = s.chans.map mem := by
  unfold State.pushTsq; (try dsimp only); (repeat' split) <;> simp

@[simp] theorem cells_sfdStamp (s : State) : s.sfdStamp.2.chans.map mem = s.chans.map mem := by
  unfold State.sfdStamp; (try dsimp only); (repeat' split) <;> simp

@[simp] theorem cells_putFrame (s : State) (b : Bytes) (event : Option (Byte × BitVec 16)) :
    (s.putFrame b event).chans.map mem = s.chans.map mem := by
  unfold State.putFrame; (try dsimp only); (repeat' split) <;> simp

theorem cells_sendNext (s t : State) (b : Nat) (h : s.sendNext = some (t, b)) :
    t.chans.map mem = s.chans.map mem := by
  unfold State.sendNext at h
  repeat' split at h
  all_goals first | (cases h; done) | (simp only [Option.some.injEq, Prod.mk.injEq] at h; obtain ⟨rfl, -⟩ := h; simp)

@[simp] theorem cells_sendFrames (s : State) (n : Nat) : (s.sendFrames n).1.chans.map mem = s.chans.map mem := by
  induction n generalizing s with
  | zero => rfl
  | succ k ih =>
    unfold State.sendFrames
    split
    · rfl
    · rename_i t b e
      have h := ih t
      have g := cells_sendNext s _ _ e
      split <;> simp_all

@[simp] theorem cells_missReleased (s : State) : s.missReleased.chans.map mem = s.chans.map mem := by
  unfold State.missReleased; (try dsimp only); (repeat' split) <;> simp

@[simp] theorem cells_sendLate (s : State) : s.sendLate.chans.map mem = s.chans.map mem := by
  have h := cells_sendFrames s s.plca.framesMax
  unfold State.sendLate
  (repeat' split) <;> simp_all

@[simp] theorem cells_enqueueTx (s : State) (f : TxFrame) : (s.enqueueTx f).chans.map mem = s.chans.map mem := by
  unfold State.enqueueTx; (try dsimp only); (repeat' split) <;> simp

@[simp] theorem cells_startPlca (s : State) : s.startPlca.chans.map mem = s.chans.map mem := by
  unfold State.startPlca; (try dsimp only); (repeat' split) <;> simp

@[simp] theorem cells_nodeIdCommit (v : Nat) (s : State) : (nodeIdCommit v s).2.chans.map mem = s.chans.map mem := by
  unfold nodeIdCommit; (try dsimp only); (repeat' split) <;> simp

@[simp] theorem cells_newCycle (s : State) (seen end_ : Nat) :
    (s.newCycle seen end_).chans.map mem = s.chans.map mem := by
  unfold State.newCycle; rfl

@[simp] theorem cells_sample (s : State) (silentLocal : Nat) :
    (s.sample silentLocal).chans.map mem = s.chans.map mem := by
  unfold State.sample; (try dsimp only); (repeat' split) <;> simp

@[simp] theorem cells_judgeCycle (s : State) : s.judgeCycle.chans.map mem = s.chans.map mem := by
  unfold State.judgeCycle; (try dsimp only); (repeat' split) <;> simp

@[simp] theorem cells_edgeYield (s : State) : s.edgeYield.chans.map mem = s.chans.map mem := by
  unfold State.edgeYield; (try dsimp only); (repeat' split) <;> simp

@[simp] theorem cells_cleanStart (s : State) : s.cleanStart.chans.map mem = s.chans.map mem := by
  unfold State.cleanStart; (try dsimp only); (repeat' split) <;> simp

@[simp] theorem cells_endOpp (s : State) (end_ : Nat) (silent : Bool) :
    (s.endOpp end_ silent).chans.map mem = s.chans.map mem := by
  unfold State.endOpp; rfl

@[simp] theorem cells_otherOpp (s : State) (start : Nat) (f : OppFacts) :
    (s.otherOpp start f).chans.map mem = s.chans.map mem := by
  unfold State.otherOpp; (try dsimp only); (repeat' split) <;> simp

@[simp] theorem cells_dropPtp (s : State) : s.dropPtp.chans.map mem = s.chans.map mem := by
  unfold State.dropPtp; rfl

@[simp] theorem cells_ownOpp (s : State) (start : Nat) (f : OppFacts) :
    (s.ownOpp start f).chans.map mem = s.chans.map mem := by
  have h := cells_sendFrames s.cleanStart s.cleanStart.plca.framesMax
  have g := cells_cleanStart s
  unfold State.ownOpp; dsimp only
  (repeat' split) <;> simp_all

@[simp] theorem cells_tlQueueCommit  (s : State) : (tlQueueCommit s).2.chans.map mem = s.chans.map mem := by
  unfold tlQueueCommit; (try dsimp only); (repeat' split) <;> simp

@[simp] theorem cells_tlDiscardCommit  (s : State) : (tlDiscardCommit s).2.chans.map mem = s.chans.map mem := by
  unfold tlDiscardCommit; (try dsimp only); (repeat' split) <;> simp

@[simp] theorem cells_linkFault (s : State) (c : Chan) (p : Port) (cause : Nat) :
    (s.linkFault c p cause).chans.map mem = s.chans.map mem := by
  unfold State.linkFault; (try dsimp only); (repeat' split) <;> simp

@[simp] theorem cells_portModeCommit (c : Chan) (p : Port) (v : Nat) (s : State) :
    (portModeCommit c p v s).2.chans.map mem = s.chans.map mem := by
  unfold portModeCommit; (try dsimp only); (repeat' split) <;> simp

@[simp] theorem cells_sendBlocks (s : State) (c : Chan) (p : Port) (kind : Byte) :
    (s.sendBlocks c p kind).chans.map mem = s.chans.map mem := by
  unfold State.sendBlocks; (try dsimp only); (repeat' split) <;> simp

@[simp] theorem cells_linkUp (s : State) (c : Chan) (p : Port) (b : TrainingBlock) :
    (s.linkUp c p b).chans.map mem = s.chans.map mem := by
  unfold State.linkUp; (try dsimp only); (repeat' split) <;> simp

@[simp] theorem cells_trainStep (s : State) (c : Chan) (p : Port) (lanes : List TrainingBlock) (skewNs : Nat) :
    (s.trainStep c p lanes skewNs).chans.map mem = s.chans.map mem := by
  unfold State.trainStep; (try dsimp only); (repeat' split) <;> simp

@[simp] theorem cells_confirmStep (s : State) (c : Chan) (p : Port) (lanes : List TrainingBlock) :
    (s.confirmStep c p lanes).chans.map mem = s.chans.map mem := by
  unfold State.confirmStep; (try dsimp only); (repeat' split) <;> simp

@[simp] theorem cells_sendFlit (s : State) (c : Chan) (p : Port) (f : Flit) :
    (s.sendFlit c p f).chans.map mem = s.chans.map mem := by
  unfold State.sendFlit; (try dsimp only); (repeat' split) <;> simp

@[simp] theorem cells_linkRecord (s : State) (c : Chan) (p : Port) (type : Byte) (seq : BitVec 16) (t : T64) (word stream : Nat) (kind : Byte) (frameBytes : Nat) (owner : Option Slot) :
    (s.linkRecord c p type seq t word stream kind frameBytes owner).chans.map mem = s.chans.map mem := by
  unfold State.linkRecord; (try dsimp only); (repeat' split) <;> simp

@[simp] theorem cells_sendData (s : State) (c : Chan) (p : Port) (d : TxData) (rest : List TxData) (pay : Bytes) :
    (s.sendData c p d rest pay).chans.map mem = s.chans.map mem := by
  unfold State.sendData; (try dsimp only); (repeat' split) <;> simp

@[simp] theorem cells_resendFlit (s : State) (c : Chan) (p : Port) (f : Flit) (rest : List Flit) :
    (s.resendFlit c p f rest).chans.map mem = s.chans.map mem := by
  unfold State.resendFlit; (try dsimp only); (repeat' split) <;> simp

@[simp] theorem cells_replay (s : State) (c : Chan) (p : Port) : (s.replay c p).chans.map mem = s.chans.map mem := by
  unfold State.replay; (try dsimp only); (repeat' split) <;> simp

@[simp] theorem cells_malformed (s : State) (c : Chan) (p : Port) (stream seq : Nat) :
    (s.malformed c p stream seq).chans.map mem = s.chans.map mem := by
  unfold State.malformed; (try dsimp only); (repeat' split) <;> simp

@[simp] theorem cells_dropFrame (s : State) (c : Chan) (p : Port) (stream seq : Nat) :
    (s.dropFrame c p stream seq).chans.map mem = s.chans.map mem := by
  unfold State.dropFrame; (try dsimp only); (repeat' split) <;> simp

@[simp] theorem cells_takeFrame (s : State) (c : Chan) (p : Port) (j : Job) (h : Bytes) (t : T64) (stream : Nat) :
    (s.takeFrame c p j h t stream).chans.map mem = s.chans.map mem := by
  unfold State.takeFrame; (try dsimp only); (repeat' split) <;> simp

@[simp] theorem cells_firstFlit (s : State) (c : Chan) (p : Port) (stream : Fin 16) (seq : BitVec 16) (h : Bytes) :
    (s.firstFlit c p stream seq h).chans.map mem = s.chans.map mem := by
  unfold State.firstFlit; (try dsimp only); (repeat' split) <;> simp

@[simp] theorem cells_countFrame (s : State) (c : Chan) (p : Port) (n : Nat) (last : Bool) :
    (s.countFrame c p n last).chans.map mem = s.chans.map mem := by
  unfold State.countFrame; (try dsimp only); (repeat' split) <;> simp

@[simp] theorem cells_keepData (s : State) (c : Chan) (p : Port) (data : Bytes) (last : Bool) :
    (s.keepData c p data last).chans.map mem = s.chans.map mem := by
  unfold State.keepData; (try dsimp only); (repeat' split) <;> simp

@[simp] theorem cells_probeFrame (s : State) (c : Chan) (p : Port) (b : Bytes) :
    (s.probeFrame c p b).chans.map mem = s.chans.map mem := by
  unfold State.probeFrame; (try dsimp only); (repeat' split) <;> simp

@[simp] theorem cells_breakFrame (s : State) (c : Chan) (p : Port) :
    (s.breakFrame c p).chans.map mem = s.chans.map mem := by
  unfold State.breakFrame; (try dsimp only); (repeat' split) <;> simp

@[simp] theorem cells_acceptData (s : State) (c : Chan) (p : Port) (f : Flit) :
    (s.acceptData c p f).chans.map mem = s.chans.map mem := by
  unfold State.acceptData; (try dsimp only); (repeat' split) <;> simp

@[simp] theorem cells_forbidden (s : State) (c : Chan) (p : Port) :
    (s.forbidden c p).chans.map mem = s.chans.map mem := by
  unfold State.forbidden
  split
  · rfl
  · exact (cells_modChan _ _ _ (by simp)).trans rfl
  · rw [cells_linkFault]; rfl

@[simp] theorem cells_takeData (s : State) (c : Chan) (p : Port) (f : Flit) :
    (s.takeData c p f).chans.map mem = s.chans.map mem := by
  unfold State.takeData; (try dsimp only); (repeat' split) <;> simp

@[simp] theorem cells_takeFlit (s : State) (c : Chan) (p : Port) (f : Flit) :
    (s.takeFlit c p f).chans.map mem = s.chans.map mem := by
  unfold State.takeFlit; (try dsimp only); (repeat' split) <;> simp

@[simp] theorem cells_releaseStop (s : State) (c : Chan) : (s.releaseStop c).chans.map mem = s.chans.map mem := by
  unfold State.releaseStop; (try dsimp only); (repeat' split) <;> simp

@[simp] theorem cells_channelStopCommit (c : Chan) (v : Nat) (s : State) :
    (channelStopCommit c v s).2.chans.map mem = s.chans.map mem := by
  unfold channelStopCommit; (try dsimp only); (repeat' split) <;> simp

@[simp] theorem cells_stopNEdge (s : State) : s.stopNEdge.chans.map mem = s.chans.map mem := by
  unfold State.stopNEdge; (try dsimp only); (repeat' split) <;> simp

@[simp] theorem cells_driveStopN (s : State) : s.driveStopN.chans.map mem = s.chans.map mem := by
  unfold State.driveStopN; (try dsimp only); (repeat' split) <;> simp

@[simp] theorem cells_recordSpread (s : State) (cause : Nat) :
    (s.recordSpread cause).chans.map mem = s.chans.map mem := by
  unfold State.recordSpread; (try dsimp only); (repeat' split) <;> simp

@[simp] theorem cells_spread (s : State) (c : Chan) : (s.spread c).chans.map mem = s.chans.map mem := by
  unfold State.spread; (try dsimp only); (repeat' split) <;> simp

@[simp] theorem cells_moduleStopCommit (v : Nat) (s : State) :
    (moduleStopCommit v s).2.chans.map mem = s.chans.map mem := by
  unfold moduleStopCommit; (try dsimp only); (repeat' split) <;> simp

@[simp] theorem cells_stopTimeCommit (c : Chan) (v : T64) (s : State) :
    (stopTimeCommit c v s).2.chans.map mem = s.chans.map mem := by
  unfold stopTimeCommit; (try dsimp only); (repeat' split) <;> simp

@[simp] theorem cells_halted (s : State) (c : Chan) : (s.halted c).chans.map mem = s.chans.map mem := by
  unfold State.halted; (try dsimp only); (repeat' split) <;> simp

@[simp] theorem cells_syncStop (s : State) : s.syncStop.chans.map mem = s.chans.map mem := by
  unfold State.syncStop; (try dsimp only); (repeat' split) <;> simp

@[simp] theorem cells_tapEdge (s : State) (c : Chan) (tdi : Bool) :
    (s.tapEdge c tdi).chans.map mem = s.chans.map mem := by
  unfold State.tapEdge; (try dsimp only); (repeat' split) <;> simp

@[simp] theorem cells_sealGuardCommit (c : Chan) (s : State) :
    (sealGuardCommit c s).2.chans.map mem = s.chans.map mem := by
  unfold sealGuardCommit; (try dsimp only); (repeat' split) <;> simp

@[simp] theorem cells_sealBlowCommit (c : Chan) (s : State) :
    (sealBlowCommit c s).2.chans.map mem = s.chans.map mem := by
  unfold sealBlowCommit; (try dsimp only); (repeat' split) <;> simp

@[simp] theorem cells_startRetirement (s : State) (c : Chan) (i : Slot) :
    (s.startRetirement c i).chans.map mem = s.chans.map mem := by
  unfold State.startRetirement; (try dsimp only); (repeat' split) <;> simp

@[simp] theorem cells_dropKey (s : State) (c : Chan) (i : Slot) :
    (s.dropKey c i).chans.map mem = s.chans.map mem := by
  unfold State.dropKey; (try dsimp only); (repeat' split) <;> simp

@[simp] theorem cells_acceptBlob (s : State) (c : Chan) (i : Slot) (k : BitVec 256) (gen : BitVec 32) :
    (s.acceptBlob c i k gen).chans.map mem = s.chans.map mem := by
  unfold State.acceptBlob; (try dsimp only); (repeat' split) <;> simp

@[simp] theorem cells_keyBlobCommit (c : Chan) (i : Slot) (blob : Bytes) (s : State) :
    (keyBlobCommit c i blob s).2.chans.map mem = s.chans.map mem := by
  unfold keyBlobCommit; (try dsimp only); (repeat' split) <;> simp

theorem cells_writeBlob (s : State) (p : Path) (i j : Nat) (f : Commit)
    (h : ∀ s, (f s).2.chans.map mem = s.chans.map mem) : (s.writeBlob p i j f).2.chans.map mem = s.chans.map mem := by
  unfold State.writeBlob
  split
  · rfl
  · dsimp only; split <;> simp [h]

@[simp] theorem cells_keyDestroyCommit (c : Chan) (i : Slot) (s : State) :
    (keyDestroyCommit c i s).2.chans.map mem = s.chans.map mem := by
  unfold keyDestroyCommit; (try dsimp only); (repeat' split) <;> simp

@[simp] theorem cells_serviceKeyCommit (blob : Bytes) (s : State) :
    (serviceKeyCommit blob s).2.chans.map mem = s.chans.map mem := by
  unfold serviceKeyCommit; (try dsimp only); (repeat' split) <;> simp

@[simp] theorem cells_rxStamp (s : State) : s.rxStamp.2.chans.map mem = s.chans.map mem := by
  unfold State.rxStamp; (try dsimp only); (repeat' split) <;> simp

@[simp] theorem cells_queuePtp (s : State) (bytes : Bytes) (event : Option (Byte × BitVec 16)) :
    (s.queuePtp bytes event).chans.map mem = s.chans.map mem := by
  unfold State.queuePtp; (try dsimp only); (repeat' split) <;> simp

@[simp] theorem cells_becomeMaster (s : State) : s.becomeMaster.chans.map mem = s.chans.map mem := by
  unfold State.becomeMaster; rfl

@[simp] theorem cells_selected (s : State) (old : BitVec 64) (gm : BitVec 64) :
    (s.selected old gm).chans.map mem = s.chans.map mem := by
  unfold State.selected; (try dsimp only); (repeat' split) <;> simp

@[simp] theorem cells_follow (s : State) (a : Announce) : (s.follow a).chans.map mem = s.chans.map mem := by
  unfold State.follow; (try dsimp only); (repeat' split) <;> simp

@[simp] theorem cells_bmca (s : State) (a : Announce) : (s.bmca a).chans.map mem = s.chans.map mem := by
  unfold State.bmca; (try dsimp only); (repeat' split) <;> simp

@[simp] theorem cells_copyUtc (s : State) (a : Announce) : (s.copyUtc a).chans.map mem = s.chans.map mem := by
  unfold State.copyUtc; (try dsimp only); (repeat' split) <;> simp

@[simp] theorem cells_ptpEnableCommit (v : Nat) (s : State) :
    (ptpEnableCommit v s).2.chans.map mem = s.chans.map mem := by
  unfold ptpEnableCommit; (try dsimp only); (repeat' split) <;> simp

@[simp] theorem cells_completeExchange (s : State) : s.completeExchange.chans.map mem = s.chans.map mem := by
  unfold State.completeExchange; (try dsimp only); (repeat' split) <;> simp

@[simp] theorem cells_polaritiesReset (s : State) (c : Chan) :
    (s.polaritiesReset c).chans.map mem = s.chans.map mem := by
  unfold State.polaritiesReset
  rw [cells_foldl _ _ (by intro s n; simp only [sameCells_iff]; split <;> simp)]

@[simp] theorem cells_warmNow (s : State) (c : Chan) : (s.warmNow c).chans.map mem = s.chans.map mem := by
  unfold State.warmNow; (try dsimp only); (repeat' split) <;> simp

@[simp] theorem cells_warmReset (s : State) (c : Chan) : (s.warmReset c).chans.map mem = s.chans.map mem := by
  unfold State.warmReset; (try dsimp only); (repeat' split) <;> simp

@[simp] theorem cells_warmIf (s : State) (c : Chan) : (s.warmIf c).chans.map mem = s.chans.map mem := by
  unfold State.warmIf; (try dsimp only); (repeat' split) <;> simp

@[simp] theorem cells_modMbx (s : State) (c : Chan) (f : Mailbox → Mailbox) :
    (s.modMbx c f).chans.map mem = s.chans.map mem := by
  unfold State.modMbx; (try dsimp only); (repeat' split) <;> simp

@[simp] theorem cells_modMirror (s : State) (c : Chan) (i : Slot) (f : Mirror → Mirror) :
    (s.modMirror c i f).chans.map mem = s.chans.map mem := by
  unfold State.modMirror; (try dsimp only); (repeat' split) <;> simp

@[simp] theorem cells_finishMbx (s : State) (c : Chan) (code : AbortCode) :
    (s.finishMbx c code).chans.map mem = s.chans.map mem := by
  unfold State.finishMbx; (try dsimp only); (repeat' split) <;> simp

@[simp] theorem cells_finishMirror (s : State) (c : Chan) (i : Slot) (code : AbortCode) :
    (s.finishMirror c i code).chans.map mem = s.chans.map mem := by
  unfold State.finishMirror; (try dsimp only); (repeat' split) <;> simp

@[simp] theorem cells_endForwarded (s : State)  :
    (s.endForwarded).chans.map mem = s.chans.map mem := by
  unfold State.endForwarded; dsimp only
  refine cells_eachChan _ _ ?_
  intro s c
  simp only [sameCells_iff]; (try dsimp only)
  rw [cells_foldl _ _ (by intro s i; simp only [sameCells_iff]; split <;> simp)]
  split
  · split <;> simp
  · rfl

@[simp] theorem cells_reeveRestart (s : State) (cause : Nat) :
    (s.reeveRestart cause).chans.map mem = s.chans.map mem := by
  unfold State.reeveRestart; (try dsimp only); (repeat' split) <;> simp

@[simp] theorem cells_reviewPairs (s : State) : s.reviewPairs.chans.map mem = s.chans.map mem := by
  unfold State.reviewPairs
  exact cells_eachChan _ _ (by intro s c; (repeat' split) <;> simp)

@[simp] theorem cells_readSelector (s : State) (bad : Bool) :
    (s.readSelector bad).chans.map mem = s.chans.map mem := by
  unfold State.readSelector; (try dsimp only); (repeat' split) <;> simp

@[simp] theorem cells_profileStatus (s : State) :
    s.profileStatus.chans.map mem = s.chans.map mem := by
  unfold State.profileStatus; (try dsimp only); (repeat' split) <;> simp

@[simp] theorem cells_runReeve (s : State) (b : Bool) : (s.runReeve b).chans.map mem = s.chans.map mem := by
  have h := cells_profileStatus s
  unfold State.runReeve
  exact h

@[simp] theorem cells_startField (s : State) : s.startField.chans.map mem = s.chans.map mem := by
  unfold State.startField; (try dsimp only); (repeat' split) <;> simp

@[simp] theorem cells_pairFallback (s : State) : s.pairFallback.chans.map mem = s.chans.map mem := by
  unfold State.pairFallback; (try dsimp only); (repeat' split) <;> simp

@[simp] theorem cells_reserveDump (s : State) (c : Chan) : (s.reserveDump c).chans.map mem = s.chans.map mem := by
  have k : ∀ (ch : Channel) (p v : Nat),
      mem ((List.range 8).foldl (fun (ch : Channel) i => ch.setTag (p + i) v) ch) = mem ch := by
    intro ch p v
    rw [mem_eq_iff]
    exact mem_foldl _ _ (by intro ch i; exact ⟨rfl, rfl⟩) _
  unfold State.reserveDump
  generalize s.freeIn 0 (pageCount - 8) = q
  dsimp only
  split
  · split
    · rfl
    · split
      · rfl
      · refine (cells_setChan _ _ _ ?_).trans rfl
        rw [k]
        rfl
  · split
    · rfl
    · refine cells_setChan _ _ _ ?_
      rw [k]
      rfl

@[simp] theorem cells_runSteward (s : State) (c : Chan) (b : Bool) :
    (s.runSteward c b).chans.map mem = s.chans.map mem := by
  unfold State.runSteward; (try dsimp only); (repeat' split) <;> simp

@[simp] theorem cells_quarantine (s : State) (c : Chan) (b : Bool) (code : Byte) :
    (s.quarantine c b code).chans.map mem = s.chans.map mem := by
  unfold State.quarantine; (try dsimp only); (repeat' split) <;> simp

@[simp] theorem cells_restartIfDue (s : State) : s.restartIfDue.chans.map mem = s.chans.map mem := by
  unfold State.restartIfDue; (try dsimp only); (repeat' split) <;> simp

@[simp] theorem cells_bootEnded (s : State) (c : Chan) : (s.bootEnded c).chans.map mem = s.chans.map mem := by
  unfold State.bootEnded; (try dsimp only); (repeat' split) <;> simp

@[simp] theorem cells_tableReport (s : State) (c : Chan) (n : Nat) :
    (s.tableReport c n).chans.map mem = s.chans.map mem := by
  unfold State.tableReport; (try dsimp only); (repeat' split) <;> simp

@[simp] theorem cells_selfTestReport (s : State) (c : Chan) (r : Byte) :
    (s.selfTestReport c r).chans.map mem = s.chans.map mem := by
  unfold State.selfTestReport; (try dsimp only); (repeat' split) <;> simp

@[simp] theorem cells_bankRequestCommit (c : Chan) (v : Nat) (s : State) :
    (bankRequestCommit c v s).2.chans.map mem = s.chans.map mem := by
  unfold bankRequestCommit; (try dsimp only); (repeat' split) <;> simp

@[simp] theorem cells_afterBankRequest (s : State) (c : Chan) (code : AbortCode) :
    (s.afterBankRequest c code).chans.map mem = s.chans.map mem := by
  unfold State.afterBankRequest; (try dsimp only); (repeat' split) <;> simp

@[simp] theorem cells_calendarBack (s : State) : s.calendarBack.chans.map mem = s.chans.map mem := by
  unfold State.calendarBack; (try dsimp only); (repeat' split) <;> simp

@[simp] theorem cells_setUpd (s : State) (n : Nat) : (s.setUpd n).chans.map mem = s.chans.map mem := by
  unfold State.setUpd; (try dsimp only); (repeat' split) <;> simp

@[simp] theorem cells_imageTargetCommit (v : Nat) (s : State) :
    (imageTargetCommit v s).2.chans.map mem = s.chans.map mem := by
  unfold imageTargetCommit; (try dsimp only); (repeat' split) <;> simp

@[simp] theorem cells_imageCommit (b : Bytes) (s : State) : (imageCommit b s).2.chans.map mem = s.chans.map mem := by
  unfold imageCommit; (try dsimp only); (repeat' split) <;> simp

@[simp] theorem cells_setInactive (s : State) (k : Bank) : (s.setInactive k).chans.map mem = s.chans.map mem := by
  unfold State.setInactive; rfl

@[simp] theorem cells_bankWriteCommit  (s : State) : (bankWriteCommit s).2.chans.map mem = s.chans.map mem := by
  unfold bankWriteCommit; (try dsimp only); (repeat' split) <;> simp

@[simp] theorem cells_restartStewards (s : State) : s.restartStewards.chans.map mem = s.chans.map mem := by
  unfold State.restartStewards; (try dsimp only); (repeat' split) <;> simp

@[simp] theorem cells_activate (s : State) (cause : Nat) : (s.activate cause).chans.map mem = s.chans.map mem := by
  unfold State.activate; (try dsimp only); (repeat' split) <;> simp

@[simp] theorem cells_restartCommit (ok : State → Bool) (s : State) :
    (restartCommit ok s).2.chans.map mem = s.chans.map mem := by
  unfold restartCommit; split <;> rfl

@[simp] theorem cells_afterActivate (s : State) (code : AbortCode) (cause : Nat) :
    (s.afterActivate code cause).chans.map mem = s.chans.map mem := by
  unfold State.afterActivate; (try dsimp only); (repeat' split) <;> simp

@[simp] theorem cells_countHang (s : State) (c : Chan) (cause : Nat) :
    (s.countHang c cause).chans.map mem = s.chans.map mem := by
  unfold State.countHang; (try dsimp only); (repeat' split) <;> simp

@[simp] theorem cells_declareHang (s : State) (c : Chan) (cause : Nat) (unit : Byte) :
    (s.declareHang c cause unit).chans.map mem = s.chans.map mem := by
  unfold State.declareHang; (try dsimp only); (repeat' split) <;> simp

@[simp] theorem cells_recover (s : State) (c : Chan) : (s.recover c).chans.map mem = s.chans.map mem := by
  unfold State.recover; (try dsimp only); (repeat' split) <;> simp

@[simp] theorem cells_abandonDump (s : State) (c : Chan) : (s.abandonDump c).chans.map mem = s.chans.map mem := by
  unfold State.abandonDump; (try dsimp only); (repeat' split) <;> simp

@[simp] theorem cells_judgeFloor (s : State) (c : Chan) (rung : Nat) :
    (s.judgeFloor c rung).chans.map mem = s.chans.map mem := by
  unfold State.judgeFloor; (try dsimp only); (repeat' split) <;> simp

@[simp] theorem cells_endRelock (s : State) (c : Chan) (fOld fNew start : Nat) :
    (s.endRelock c fOld fNew start).chans.map mem = s.chans.map mem := by
  unfold State.endRelock; (try dsimp only); (repeat' split) <;> simp

@[simp] theorem cells_measurePower (s : State) (c : Chan) (mw : Nat) :
    (s.measurePower c mw).chans.map mem = s.chans.map mem := by
  unfold State.measurePower; (try dsimp only); (repeat' split) <;> simp

@[simp] theorem cells_tellThrottle (s : State) (c : Chan) (was : Bool) :
    (s.tellThrottle c was).chans.map mem = s.chans.map mem := by
  unfold State.tellThrottle; (try dsimp only); (repeat' split) <;> simp

@[simp] theorem cells_traceCapCommit (c : Chan) (v : Nat) (s : State) :
    (traceCapCommit c v s).2.chans.map mem = s.chans.map mem := by
  unfold traceCapCommit; (try dsimp only); (repeat' split) <;> simp

@[simp] theorem cells_ladder (s : State) (c : Chan) : (s.ladder c).chans.map mem = s.chans.map mem := by
  unfold State.ladder; (try dsimp only); (repeat' split) <;> simp

@[simp] theorem cells_floorCommit (c : Chan) (v : Nat) (s : State) :
    (floorCommit c v s).2.chans.map mem = s.chans.map mem := by
  unfold floorCommit; (try dsimp only); (repeat' split) <;> simp

@[simp] theorem cells_sendShare (s : State) (c : Chan) (share : Nat) :
    (s.sendShare c share).chans.map mem = s.chans.map mem := by
  unfold State.sendShare; (try dsimp only); (repeat' split) <;> simp

@[simp] theorem cells_thermalEvent (s : State) (c : Chan) (sensor : Nat) (t : Int) :
    (s.thermalEvent c sensor t).chans.map mem = s.chans.map mem := by
  unfold State.thermalEvent; (try dsimp only); (repeat' split) <;> simp

@[simp] theorem cells_dieThrottle (s : State) (c : Chan) : (s.dieThrottle c).chans.map mem = s.chans.map mem := by
  unfold State.dieThrottle; (try dsimp only); (repeat' split) <;> simp

@[simp] theorem cells_hbmThrottle (s : State) (c : Chan) : (s.hbmThrottle c).chans.map mem = s.chans.map mem := by
  unfold State.hbmThrottle; (try dsimp only); (repeat' split) <;> simp

@[simp] theorem cells_hotRefresh (s : State) (c : Chan) : (s.hotRefresh c).chans.map mem = s.chans.map mem := by
  unfold State.hotRefresh; (try dsimp only); (repeat' split) <;> simp

@[simp] theorem cells_worstGuard (s : State) : s.worstGuard.chans.map mem = s.chans.map mem := by
  unfold State.worstGuard; (try dsimp only); (repeat' split) <;> simp

@[simp] theorem cells_profileCommit (b : Bytes) (s : State) :
    (profileCommit b s).2.chans.map mem = s.chans.map mem := by
  unfold profileCommit; (try dsimp only); (repeat' split) <;> simp

@[simp] theorem cells_saveWear (s : State) (c : Chan) : (s.saveWear c).chans.map mem = s.chans.map mem := by
  unfold State.saveWear; (try dsimp only); (repeat' split) <;> simp

@[simp] theorem cells_predict (s : State) (today : Int) : (s.predict today).chans.map mem = s.chans.map mem := by
  unfold State.predict; (try dsimp only); (repeat' split) <;> simp

@[simp] theorem cells_journalStored (s : State) : s.journalStored.chans.map mem = s.chans.map mem := by
  unfold State.journalStored; (try dsimp only); (repeat' split) <;> simp

@[simp] theorem cells_journalFailed (s : State) : s.journalFailed.chans.map mem = s.chans.map mem := by
  unfold State.journalFailed; (try dsimp only); (repeat' split) <;> simp

@[simp] theorem cells_restoreCommit (v : Nat) (s : State) :
    (restoreCommit v s).2.chans.map mem = s.chans.map mem := by
  unfold restoreCommit; (try dsimp only); (repeat' split) <;> simp

@[simp] theorem cells_persistCommit (v : Nat) (s : State) :
    (persistCommit v s).2.chans.map mem = s.chans.map mem := by
  unfold persistCommit; (try dsimp only); (repeat' split) <;> simp

@[simp] theorem cells_closeSessions (s : State) : s.closeSessions.chans.map mem = s.chans.map mem := by
  unfold State.closeSessions; rfl

@[simp] theorem cells_accessKeyCommit (key : Bytes) (s : State) :
    (accessKeyCommit key s).2.chans.map mem = s.chans.map mem := by
  unfold accessKeyCommit; (try dsimp only); (repeat' split) <;> simp

@[simp] theorem cells_afterAccessKey (s : State) (code : AbortCode) :
    (s.afterAccessKey code).chans.map mem = s.chans.map mem := by
  unfold State.afterAccessKey; (try dsimp only); (repeat' split) <;> simp

@[simp] theorem cells_functionReset (s : State) (c : Chan) (code : Nat) :
    (s.functionReset c code).chans.map mem = s.chans.map mem := by
  unfold State.functionReset; (try dsimp only); (repeat' split) <;> simp

@[simp] theorem cells_resetAll (s : State) : s.resetAll.chans.map mem = s.chans.map mem := by
  unfold State.resetAll; (try dsimp only); (repeat' split) <;> simp

@[simp] theorem cells_writeIrqEnable (s : State) (c : Chan) (v : Nat) :
    (s.writeIrqEnable c v).chans.map mem = s.chans.map mem := by
  unfold State.writeIrqEnable; (try dsimp only); (repeat' split) <;> simp

@[simp] theorem cells_plainModule (idx sub : Nat) (v : Word) (s : State) :
    (plainModule idx sub v s).2.chans.map mem = s.chans.map mem := by
  unfold plainModule; (try dsimp only); (repeat' split) <;> simp

@[simp] theorem cells_plainChannel (c : Chan) (off sub : Nat) (v : Word) (s : State) :
    (plainChannel c off sub v s).2.chans.map mem = s.chans.map mem := by
  unfold plainChannel; (try dsimp only); (repeat' split) <;> simp

@[simp] theorem cells_stickyModule (idx sub : Nat) (v : Word) (s : State) :
    (stickyModule idx sub v s).2.chans.map mem = s.chans.map mem := by
  unfold stickyModule; (try dsimp only); (repeat' split) <;> simp

@[simp] theorem cells_stickyChannel (c : Chan) (off sub : Nat) (v : Word) (s : State) :
    (stickyChannel c off sub v s).2.chans.map mem = s.chans.map mem := by
  unfold stickyChannel; (try dsimp only); (repeat' split) <;> simp

@[simp] theorem cells_tlFrameCommit (b : Bytes) (s : State) :
    (tlFrameCommit b s).2.chans.map mem = s.chans.map mem := by
  unfold tlFrameCommit; (try dsimp only); (repeat' split) <;> simp

@[simp] theorem cells_slaveOnlyCommit (v : Word) (s : State) :
    (slaveOnlyCommit v s).2.chans.map mem = s.chans.map mem := by
  unfold slaveOnlyCommit; (try dsimp only); (repeat' split) <;> simp

@[simp] theorem cells_polarityCommit (c : Chan) (n : Nat) (v : Word) (s : State) :
    (polarityCommit c n v s).2.chans.map mem = s.chans.map mem := by
  unfold polarityCommit; (try dsimp only); (repeat' split) <;> simp

@[simp] theorem cells_stopEventCommit (c : Chan) (v : Word) (s : State) :
    (stopEventCommit c v s).2.chans.map mem = s.chans.map mem := by
  unfold stopEventCommit; (try dsimp only); (repeat' split) <;> simp

@[simp] theorem cells_daybookSelectCommit (c : Chan) (v : Word) (s : State) :
    (daybookSelectCommit c v s).2.chans.map mem = s.chans.map mem := by
  unfold daybookSelectCommit; (try dsimp only); (repeat' split) <;> simp

@[simp] theorem cells_dumpEnableCommit (c : Chan) (v : Word) (s : State) :
    (dumpEnableCommit c v s).2.chans.map mem = s.chans.map mem := by
  unfold dumpEnableCommit; (try dsimp only); (repeat' split) <;> simp

@[simp] theorem cells_moduleCommit (idx sub : Nat) (v : Word) (data : Bytes) (s : State) :
    (moduleCommit idx sub v data s).2.chans.map mem = s.chans.map mem := by
  rw [moduleCommit.eq_def]
  (repeat' with_reducible apply cells_commitIte) <;> first | (simp; done) | exact cells_setTaiOffset _ _ | exact cells_setLeap _ _

@[simp] theorem cells_trigCommit (c : Chan) (off sub : Nat) (v : Word) (s : State) :
    (trigCommit c off sub v s).2.chans.map mem = s.chans.map mem := by
  rw [trigCommit.eq_def]
  (repeat' with_reducible apply cells_commitIte) <;>
    simp only [cells_cycleEnableCommit, cells_firstTickCommit, cells_plainChannel, cells_trigModeCommit,
      cells_trigTargetCommit, cells_trigShapeCommit, cells_polarityCommit]

@[simp] theorem cells_faithfulOwnerCommit (c : Chan) (v : Word) (s : State) :
    (faithfulOwnerCommit c v s).2.chans.map mem = s.chans.map mem := by
  unfold faithfulOwnerCommit; (try dsimp only); (repeat' split) <;> simp

@[simp] theorem cells_observeCommit (c : Chan) (off sub : Nat) (v : Word) (s : State) :
    (observeCommit c off sub v s).2.chans.map mem = s.chans.map mem := by
  unfold observeCommit; (try dsimp only); (repeat' split) <;> simp

@[simp] theorem cells_debugCommit (c : Chan) (off sub : Nat) (v : Word) (s : State) :
    (debugCommit c off sub v s).2.chans.map mem = s.chans.map mem := by
  unfold debugCommit; (try dsimp only); (repeat' split) <;> simp

@[simp] theorem cells_channelCommit (c : Chan) (off sub : Nat) (v : Word) (data : Bytes) (s : State) :
    (channelCommit c off sub v data s).2.chans.map mem = s.chans.map mem := by
  rw [channelCommit.eq_def]
  (repeat' with_reducible apply cells_commitIte) <;>
    simp only [cells_stickyChannel, cells_bankRequestCommit, cells_trigCommit, cells_observeCommit,
      cells_debugCommit, cells_planLoadCommit, cells_planUnloadCommit, cells_portModeCommit,
      cells_keyBlobCommit, cells_keyDestroyCommit, cells_floorCommit, cells_plainChannel]

@[simp] theorem cells_memberCommit (pl : Place) (m : Member) (sub : Nat) (data : Bytes) (s : State) :
    (memberCommit pl m sub data s).2.chans.map mem = s.chans.map mem := by
  unfold memberCommit; (try dsimp only); (repeat' split) <;> simp

@[simp] theorem cells_dictWrite (s : State) (p : Path) (idx sub : Nat) (data : Bytes) :
    (s.dictWrite p idx sub data).2.chans.map mem = s.chans.map mem := by
  unfold State.dictWrite
  split
  · rfl
  · split
    · exact cells_write _ _ _ _ _ _ (by intro s; rfl)
    · split
      · exact cells_writeBlob _ _ _ _ _ (by intro s; simp)
      · exact cells_write _ _ _ _ _ _ (by intro s; simp)

@[simp] theorem cells_afterWrite (s : State) (idx sub : Nat) (data : Bytes) (code : AbortCode) :
    (s.afterWrite idx sub data code).chans.map mem = s.chans.map mem := by
  unfold State.afterWrite; (try dsimp only); (repeat' split) <;> simp

@[simp] theorem cells_busyError (s : State) (c : Chan) : (s.busyError c).chans.map mem = s.chans.map mem := by
  unfold State.busyError; (try dsimp only); (repeat' split) <;> simp

@[simp] theorem cells_measured (s : State) (idx sub : Nat) :
    (s.measured idx sub).chans.map mem = s.chans.map mem := by
  unfold State.measured; (try dsimp only); (repeat' split) <;> simp

@[simp] theorem cells_answerMbx (s : State) (c : Chan) (write : Bool) (code : AbortCode) :
    (s.answerMbx c write code).chans.map mem = s.chans.map mem := by
  unfold State.answerMbx; (try dsimp only); (repeat' split) <;> simp

@[simp] theorem cells_serveMbxRead (s : State) (c : Chan) : (s.serveMbxRead c).chans.map mem = s.chans.map mem := by
  unfold State.serveMbxRead; (try dsimp only); (repeat' split) <;> simp

@[simp] theorem cells_failMbxWrite (s : State) (c : Chan) (code : AbortCode) :
    (s.failMbxWrite c code).chans.map mem = s.chans.map mem := by
  unfold State.failMbxWrite; (try dsimp only); (repeat' split) <;> simp

@[simp] theorem cells_serveMbxWrite (s : State) (c : Chan) : (s.serveMbxWrite c).chans.map mem = s.chans.map mem := by
  unfold State.serveMbxWrite; (try dsimp only); (repeat' split) <;> simp

@[simp] theorem cells_serveMbxNow (s : State) (c : Chan) (write : Bool) :
    (s.serveMbxNow c write).chans.map mem = s.chans.map mem := by
  unfold State.serveMbxNow; (try dsimp only); (repeat' split) <;> simp

@[simp] theorem cells_serveMirrorNow (s : State) (c : Chan) (i : Slot) :
    (s.serveMirrorNow c i).chans.map mem = s.chans.map mem := by
  unfold State.serveMirrorNow; (try dsimp only); (repeat' split) <;> simp

@[simp] theorem cells_queueReeve (s : State) (c : Chan) (i : Option Slot) :
    (s.queueReeve c i).chans.map mem = s.chans.map mem := by
  rfl

@[simp] theorem cells_serveWaiting (s : State) (x : Chan × Option Slot) :
    (s.serveWaiting x).chans.map mem = s.chans.map mem := by
  unfold State.serveWaiting; (try dsimp only); (repeat' split) <;> simp

@[simp] theorem cells_serveReeve (s : State) :
    s.serveReeve.chans.map mem = s.chans.map mem := by
  unfold State.serveReeve; (try dsimp only); (repeat' split) <;> simp

@[simp] theorem cells_serveMbx (s : State) (c : Chan) (write : Bool) :
    (s.serveMbx c write).chans.map mem = s.chans.map mem := by
  unfold State.serveMbx; (try dsimp only); (repeat' split) <;> simp

@[simp] theorem cells_mailboxAccess (s : State) (c : Chan) (m : Mailbox) :
    (s.mailboxAccess c m).chans.map mem = s.chans.map mem := by
  unfold State.mailboxAccess; (try dsimp only); (repeat' split) <;> simp

@[simp] theorem cells_startMbx (s : State) (c : Chan) : (s.startMbx c).chans.map mem = s.chans.map mem := by
  unfold State.startMbx; (try dsimp only); (repeat' split) <;> simp

@[simp] theorem cells_writeMbxCtrl (s : State) (c : Chan) (v : Nat) :
    (s.writeMbxCtrl c v).chans.map mem = s.chans.map mem := by
  unfold State.writeMbxCtrl; (try dsimp only); (repeat' split) <;> simp

@[simp] theorem cells_serveMirror (s : State) (c : Chan) (i : Slot) :
    (s.serveMirror c i).chans.map mem = s.chans.map mem := by
  unfold State.serveMirror; (try dsimp only); (repeat' split) <;> simp

@[simp] theorem cells_startMirror (s : State) (c : Chan) (i : Slot) :
    (s.startMirror c i).chans.map mem = s.chans.map mem := by
  unfold State.startMirror; (try dsimp only); (repeat' split) <;> simp

@[simp] theorem cells_sendTlx (s : State) (src : TlxSrc) (cls : TxClass) (k : Option (Fin 32)) (pdu : Bytes) :
    (s.sendTlx src cls k pdu).chans.map mem = s.chans.map mem := by
  unfold State.sendTlx; (try dsimp only); (repeat' split) <;> simp

@[simp] theorem cells_modSession (s : State) (k : Fin 32) (f : Session → Session) :
    (s.modSession k f).chans.map mem = s.chans.map mem := by
  unfold State.modSession; (try dsimp only); (repeat' split) <;> simp

@[simp] theorem cells_renew (s : State) (k : Fin 32) : (s.renew k).chans.map mem = s.chans.map mem := by
  unfold State.renew; (try dsimp only); (repeat' split) <;> simp

@[simp] theorem cells_respond (s : State) (k : Fin 32) (service : Nat) (tid : BitVec 16) (status : AbortCode) (body : Bytes) :
    (s.respond k service tid status body).chans.map mem = s.chans.map mem := by
  unfold State.respond; (try dsimp only); (repeat' split) <;> simp

@[simp] theorem cells_respondFree (s : State) (src : TlxSrc) (service : Nat) (sid tid : BitVec 16) (status : AbortCode) (body : Bytes) :
    (s.respondFree src service sid tid status body).chans.map mem = s.chans.map mem := by
  unfold State.respondFree; (try dsimp only); (repeat' split) <;> simp

theorem cells_inSession (s : State) (src : TlxSrc) (svc : Nat) (sid tid : BitVec 16) (ok : SessSt → Bool)
    (serve : State → Fin 32 → State) (h : ∀ s k, (serve s k).chans.map mem = s.chans.map mem) :
    (s.inSession src svc sid tid ok serve).chans.map mem = s.chans.map mem := by
  unfold State.inSession; dsimp only
  (repeat' split) <;> simp [h]

@[simp] theorem cells_closeSession (s : State) (k : Fin 32) : (s.closeSession k).chans.map mem = s.chans.map mem := by
  unfold State.closeSession; (try dsimp only); (repeat' split) <;> simp

@[simp] theorem cells_serveIdentify (s : State) (src : TlxSrc) (tid : BitVec 16) :
    (s.serveIdentify src tid).chans.map mem = s.chans.map mem := by
  unfold State.serveIdentify; (try dsimp only); (repeat' split) <;> simp

@[simp] theorem cells_openIn (s : State) (k : Fin 32) (src : TlxSrc) (tid : BitVec 16) (r : Role) (proof : Bool) :
    (s.openIn k src tid r proof).chans.map mem = s.chans.map mem := by
  unfold State.openIn; (try dsimp only); (repeat' split) <;> simp

@[simp] theorem cells_serveOpen (s : State) (src : TlxSrc) (tid : BitVec 16) (role : Byte) :
    (s.serveOpen src tid role).chans.map mem = s.chans.map mem := by
  unfold State.serveOpen; (try dsimp only); (repeat' split) <;> simp

@[simp] theorem cells_serveAuth (s : State) (src : TlxSrc) (sid tid : BitVec 16) (proof : BitVec 128) :
    (s.serveAuth src sid tid proof).chans.map mem = s.chans.map mem := by
  unfold State.serveAuth; exact cells_inSession _ _ _ _ _ _ _ (by intro s k; (try dsimp only); (repeat' split) <;> simp)

@[simp] theorem cells_serveRenew (s : State) (src : TlxSrc) (sid tid : BitVec 16) :
    (s.serveRenew src sid tid).chans.map mem = s.chans.map mem := by
  unfold State.serveRenew; exact cells_inSession _ _ _ _ _ _ _ (by intro s k; (try dsimp only); (repeat' split) <;> simp)

@[simp] theorem cells_serveClose (s : State) (src : TlxSrc) (sid tid : BitVec 16) :
    (s.serveClose src sid tid).chans.map mem = s.chans.map mem := by
  unfold State.serveClose; exact cells_inSession _ _ _ _ _ _ _ (by intro s k; (try dsimp only); (repeat' split) <;> simp)

@[simp] theorem cells_serveUnknown (s : State) (src : TlxSrc) (sid tid : BitVec 16) (service : Nat) :
    (s.serveUnknown src sid tid service).chans.map mem = s.chans.map mem := by
  unfold State.serveUnknown
  (repeat' split) <;> first | (simp; done) | exact cells_inSession _ _ _ _ _ _ _ (by intro s k; simp)

@[simp] theorem cells_serveRead (s : State) (src : TlxSrc) (sid tid : BitVec 16) (idx sub : Nat) :
    (s.serveRead src sid tid idx sub).chans.map mem = s.chans.map mem := by
  unfold State.serveRead; exact cells_inSession _ _ _ _ _ _ _ (by intro s k; (try dsimp only); (repeat' split) <;> simp)

@[simp] theorem cells_serveReadSegment (s : State) (src : TlxSrc) (sid tid : BitVec 16) (off : Nat) :
    (s.serveReadSegment src sid tid off).chans.map mem = s.chans.map mem := by
  unfold State.serveReadSegment; exact cells_inSession _ _ _ _ _ _ _ (by intro s k; (try dsimp only); (repeat' split) <;> simp)

@[simp] theorem cells_dropPend (s : State) (k : Fin 32) : (s.dropPend k).chans.map mem = s.chans.map mem := by
  unfold State.dropPend; (try dsimp only); (repeat' split) <;> simp

@[simp] theorem cells_serveSegment (s : State) (k : Fin 32) (tid : BitVec 16) (idx sub : Nat) (last : Bool) (off : Nat) (data : Bytes) :
    (s.serveSegment k tid idx sub last off data).chans.map mem = s.chans.map mem := by
  unfold State.serveSegment; (try dsimp only); (repeat' split) <;> simp

@[simp] theorem cells_serveWrite (s : State) (src : TlxSrc) (sid tid : BitVec 16) (idx sub : Nat) (last : Bool) (off : Nat) (data : Bytes) :
    (s.serveWrite src sid tid idx sub last off data).chans.map mem = s.chans.map mem := by
  unfold State.serveWrite; exact cells_inSession _ _ _ _ _ _ _ (by intro s k; (try dsimp only); (repeat' split) <;> simp)

@[simp] theorem cells_serveWriteCancel (s : State) (src : TlxSrc) (sid tid : BitVec 16) :
    (s.serveWriteCancel src sid tid).chans.map mem = s.chans.map mem := by
  unfold State.serveWriteCancel; exact cells_inSession _ _ _ _ _ _ _ (by intro s k; (try dsimp only); (repeat' split) <;> simp)

@[simp] theorem cells_serveSubscribe (s : State) (src : TlxSrc) (sid tid : BitVec 16) (idx sub : Nat) (mode : Byte) (minMs periodMs : Nat) :
    (s.serveSubscribe src sid tid idx sub mode minMs periodMs).chans.map mem = s.chans.map mem := by
  unfold State.serveSubscribe; exact cells_inSession _ _ _ _ _ _ _ (by intro s k; (try dsimp only); (repeat' split) <;> simp)

@[simp] theorem cells_serveUnsubscribe (s : State) (src : TlxSrc) (sid tid : BitVec 16) (handle : Byte) :
    (s.serveUnsubscribe src sid tid handle).chans.map mem = s.chans.map mem := by
  unfold State.serveUnsubscribe; exact cells_inSession _ _ _ _ _ _ _ (by intro s k; (try dsimp only); (repeat' split) <;> simp)

@[simp] theorem cells_notify (s : State) (k : Fin 32) (u : Sub) (value : Bytes) :
    (s.notify k u value).chans.map mem = s.chans.map mem := by
  unfold State.notify; (try dsimp only); (repeat' split) <;> simp

@[simp] theorem cells_serveAck (s : State) (src : TlxSrc) (sid seq : BitVec 16) :
    (s.serveAck src sid seq).chans.map mem = s.chans.map mem := by
  unfold State.serveAck; (try dsimp only); (repeat' split) <;> simp

@[simp] theorem cells_lapse (s : State) (k : Fin 32) : (s.lapse k).chans.map mem = s.chans.map mem := by
  unfold State.lapse; (try dsimp only); (repeat' split) <;> simp

@[simp] theorem cells_runRequest (s : State) (src : TlxSrc) (service : Nat) (sid tid : BitVec 16) (b : Bytes) :
    (s.runRequest src service sid tid b).chans.map mem = s.chans.map mem := by
  rw [State.runRequest.eq_def]
  dsimp only
  (repeat' with_reducible apply cells_iteOf) <;> simp

theorem cells_runPdu {s t : State} {src : TlxSrc} {b : Bytes} {p : Bool} (h : s.runPdu src b p = some t) :
    t.chans.map mem = s.chans.map mem := by
  unfold State.runPdu at h
  (repeat' split at h) <;> cases h <;> simp

@[simp] theorem cells_usbStall (s : State) : s.usbStall.chans.map mem = s.chans.map mem := by
  unfold State.usbStall; (try dsimp only); (repeat' split) <;> simp

@[simp] theorem cells_usbPdu (s : State) (src : TlxSrc) (b : Bytes) :
    (s.usbPdu src b).chans.map mem = s.chans.map mem := by
  unfold State.usbPdu
  cases h : s.runPdu src b false with
  | none => rfl
  | some t => exact cells_runPdu h

@[simp] theorem cells_usbReply (s : State) (r : Option Bytes) : (s.usbReply r).chans.map mem = s.chans.map mem := by
  unfold State.usbReply; (try dsimp only); (repeat' split) <;> simp

@[simp] theorem cells_usbDone (s : State) (u : Usb) : (s.usbDone u).chans.map mem = s.chans.map mem := by
  unfold State.usbDone; (try dsimp only); (repeat' split) <;> simp

@[simp] theorem cells_usbStandard (s : State) (requestType request value index : Nat) :
    (s.usbStandard requestType request value index).chans.map mem = s.chans.map mem := by
  unfold State.usbStandard; (try dsimp only); (repeat' split) <;> simp

@[simp] theorem cells_discardFrame (s : State) : s.discardFrame.chans.map mem = s.chans.map mem := by
  unfold State.discardFrame; (try dsimp only); (repeat' split) <;> simp

@[simp] theorem cells_writeMbxReg (s : State) (c : Chan) (off : Nat) (v : BitVec 32) :
    (s.writeMbxReg c off v).chans.map mem = s.chans.map mem := by
  unfold State.writeMbxReg; (try dsimp only); (repeat' split) <;> simp

@[simp] theorem cells_writeMirReg (s : State) (c : Chan) (i : Slot) (off : Nat) (v : BitVec 32) :
    (s.writeMirReg c i off v).chans.map mem = s.chans.map mem := by
  unfold State.writeMirReg; (try dsimp only); (repeat' split) <;> simp

@[simp] theorem cells_storeVec (s : State) (c : Chan) (n : Nat) (e : Vec) :
    (s.storeVec c n e).chans.map mem = s.chans.map mem := by
  unfold State.storeVec; (try dsimp only); (repeat' split) <;> simp

@[simp] theorem cells_writeMsix (s : State) (c : Chan) (off : Nat) (v : BitVec 32) :
    (s.writeMsix c off v).chans.map mem = s.chans.map mem := by
  rw [State.writeMsix.eq_def]
  split
  · rfl
  · exact cells_storeVec _ _ _ _

@[simp] theorem cells_readReg (s : State) (view : View) (c : Chan) (i : Slot) (off : Nat) :
    (s.readReg view c i off).chans.map mem = s.chans.map mem := by
  unfold State.readReg; (try dsimp only); (repeat' split) <;> simp

@[simp] theorem cells_readSized (s : State) (view : View) (c : Chan) (i : Slot) (off size : Nat) :
    (s.readSized view c i off size).chans.map mem = s.chans.map mem := by
  unfold State.readSized; (repeat' split) <;> simp

@[simp] theorem cells_accessError (s : State) (c : Chan) (bit : Nat) :
    (s.accessError c bit).chans.map mem = s.chans.map mem := by
  unfold State.accessError; (try dsimp only); (repeat' split) <;> simp

@[simp] theorem cells_writeRingReg (s : State) (view : View) (c : Chan) (i : Slot) (k : RingKind) (off key : Nat) (v : BitVec 32) :
    (s.writeRingReg view c i k off key v).chans.map mem = s.chans.map mem := by
  unfold State.writeRingReg; (try dsimp only); (repeat' split) <;> simp

@[simp] theorem cells_writeStocktake (s : State) (c : Chan) (v : BitVec 32) :
    (s.writeStocktake c v).chans.map mem = s.chans.map mem := by
  unfold State.writeStocktake; (try dsimp only); (repeat' split) <;> simp

@[simp] theorem cells_writeLow (s : State) (c : Chan) (off : Nat) (v : BitVec 32) :
    (s.writeLow c off v).chans.map mem = s.chans.map mem := by
  unfold State.writeLow; (try dsimp only); (repeat' split) <;> simp

@[simp] theorem cells_writeBasePair (s : State) (view : View) (c : Chan) (i : Slot) (k : RingKind) (key : Nat) (v : Word) :
    (s.writeBasePair view c i k key v).chans.map mem = s.chans.map mem := by
  unfold State.writeBasePair; (try dsimp only); (repeat' split) <;> simp

/-! ## Operations that write or lose memory -/

theorem memoryWf_iff (s : State) :
    memoryWf s ↔ ∀ c : Chan, memWf (mem (s.chan c)).1 = true ∧ memWf (mem (s.chan c)).2 = true := Iff.rfl

theorem memoryWf_of_cells {s t : State} (h : t.chans.map mem = s.chans.map mem) (hs : memoryWf s) : memoryWf t := by
  rw [memoryWf_iff] at hs ⊢
  intro c
  rw [mem_chan_of h c]
  exact hs c

/-- A channel that takes canonical memories leaves every memory canonical. -/
theorem memoryWf_setChan {s : State} (c : Chan) {ch : Channel} (hs : memoryWf s) (hc : memWf ch.cellar = true)
    (hl : memWf ch.larder = true) : memoryWf (s.setChan c ch) := by
  intro d
  by_cases e : d = c
  · subst e; rw [State.chan_setChan_same]; exact ⟨hc, hl⟩
  · rw [State.chan_setChan_other _ _ e]; exact hs d

theorem memoryWf_foldl {α : Type} (l : List α) (f : State → α → State) (h : ∀ s x, memoryWf s → memoryWf (f s x))
    (s : State) (hs : memoryWf s) : memoryWf (l.foldl f s) := by
  induction l generalizing s with
  | nil => exact hs
  | cons x r ih => exact ih _ (h s x hs)

theorem memoryWf_powerDown (s : State) (c : Chan) (r : Byte) (hs : memoryWf s) : memoryWf (s.powerDown c r) := by
  unfold State.powerDown
  exact memoryWf_of_cells (cells_setChanSt _ _ _ _)
    (memoryWf_setChan c (memoryWf_of_cells (cells_portsDown _ _) hs) rfl rfl)

theorem memoryWf_enterRecovery (s : State) (hs : memoryWf s) : memoryWf s.enterRecovery :=
  memoryWf_foldl _ _ (fun s c h => memoryWf_powerDown s c _ h) _ hs

theorem memoryWf_trip (s : State) (c : Chan) (k : Nat) (t : Int) (r : Byte) (hs : memoryWf s) :
    memoryWf (s.trip c k t r) := by
  unfold State.trip
  refine memoryWf_powerDown _ _ _ (memoryWf_of_cells ?_ hs)
  exact (cells_modChan _ _ _ rfl).trans (cells_thermalEvent _ _ _ _)

theorem memoryWf_tripIfHot (s : State) (c : Chan) (hs : memoryWf s) : memoryWf (s.tripIfHot c) := by
  unfold State.tripIfHot
  split
  · exact memoryWf_trip _ _ _ _ _ hs
  · exact hs

theorem memoryWf_judgeTemps (s : State) (c : Chan) (hs : memoryWf s) : memoryWf (s.judgeTemps c) := by
  rw [State.judgeTemps.eq_def]
  refine memoryWf_tripIfHot _ _ (memoryWf_of_cells ?_ hs)
  rw [cells_hotRefresh, cells_hbmThrottle, cells_dieThrottle]

theorem memoryWf_unpowered (s : State) : memoryWf s.unpowered := by
  intro c
  simp [State.unpowered, State.chan, Channel.dark, Channel.reset, memWf]

@[simp] theorem cells_startTime (s : State) : s.startTime.chans.map mem = s.chans.map mem := by
  unfold State.startTime
  dsimp only
  rw [Vector.map_map]
  congr 1

theorem memoryWf_powered (s : State) (lost : List Nat) (hs : memoryWf s) : memoryWf (s.powered lost) := by
  rw [State.powered.eq_def]
  refine memoryWf_of_cells (cells_mputSaved _ _ _ _) ?_
  refine memoryWf_of_cells (cells_startTime _) (memoryWf_of_cells (cells_calendarBack _) ?_)
  have g : ∀ (t : State) (p : Prop) [Decidable p], memoryWf t → memoryWf (if p then t else t.morBits 0x1020 2 4) := by
    intro t p _ h
    split
    · exact h
    · exact memoryWf_of_cells (cells_morBits _ _ _ _) h
  refine g _ _ ?_
  intro c
  simp only [State.chan, Vector.getElem_ofFn]
  exact hs c

theorem memoryWf_planLoaded (s : State) (c : Chan) (r : LoadReq) (b : Bytes) (facts : ProgramFacts)
    (hs : memoryWf s) : memoryWf (s.planLoaded c r b facts) := by
  have k : ∀ (ch : Channel) (key : Option (BitVec 256)) (lines : List Nat) (data : Bytes),
      memWf ch.cellar = true ∧ memWf ch.larder = true →
      memWf (match key with | some k => ch.fillLines k r.owner lines data | none => ch).cellar = true ∧
      memWf (match key with | some k => ch.fillLines k r.owner lines data | none => ch).larder = true := by
    intro ch key lines data h
    cases key with
    | none => exact h
    | some x =>
      have g := fillLines_wf ch x r.owner lines data h.2
      exact ⟨by rw [g.2]; exact h.1, g.1⟩
  rw [State.planLoaded.eq_def]
  refine memoryWf_of_cells (cells_event _ _ _) (memoryWf_setChan c hs ?_ ?_)
  · dsimp only
    rw [(mem_pushCount _ _ _ _ _).1, Channel.put_cellar, Channel.setPlan_cellar]
    exact (k _ _ _ _ (hs c)).1
  · dsimp only
    rw [(mem_pushCount _ _ _ _ _).2, Channel.put_larder, Channel.setPlan_larder]
    exact (k _ _ _ _ (hs c)).2

theorem writeUnit_wf (ch : Channel) (k : BitVec 256 × BitVec 256) (unit off : Nat) (b : Bytes)
    (h : memWf ch.cellar = true ∧ memWf ch.larder = true) :
    memWf (ch.writeUnit k unit off b).cellar = true ∧ memWf (ch.writeUnit k unit off b).larder = true :=
  ⟨memWrite_wf _ _ _ h.1, h.2⟩

theorem writeCellar_wf (ch : Channel) (k : BitVec 256 × BitVec 256) (addr : Nat) (b : Bytes)
    (h : memWf ch.cellar = true ∧ memWf ch.larder = true) :
    memWf (ch.writeCellar k addr b).cellar = true ∧ memWf (ch.writeCellar k addr b).larder = true := by
  have units : ∀ (l : List (Bytes × Nat)) (ch : Channel), memWf ch.cellar = true ∧ memWf ch.larder = true →
      memWf (l.foldl (fun (ch : Channel) (x : Bytes × Nat) => ch.writeUnit k (addr / 64 + x.2) 0 x.1) ch).cellar = true ∧
      memWf (l.foldl (fun (ch : Channel) (x : Bytes × Nat) => ch.writeUnit k (addr / 64 + x.2) 0 x.1) ch).larder =
        true := by
    intro l
    induction l with
    | nil => intro ch h; exact h
    | cons x r ih => intro ch h; exact ih _ (writeUnit_wf ch _ _ _ _ h)
  unfold Channel.writeCellar
  split
  · exact writeUnit_wf _ _ _ _ _ h
  · exact units _ _ h

theorem memoryWf_storeDump (s : State) (c : Chan) (h : Hang) (page : Nat) (hs : memoryWf s) :
    memoryWf (s.storeDump c h page) := by
  have k : ∀ (off n : Nat) (bytes : Bytes) (d : Debug) (p : Prop) [Decidable p],
      let ch := s.chan c
      let ch := ((({ ch with cellar := (ch.writeCellar (ch.channelKeys c) off bytes).cellar, dbg := d } : Channel).count
        0x404 5 1).put 0x404 6 (w off)).put 0x404 7 (w n)
      memWf (if p then ch.orBits 0x401 6 2 else ch).cellar = true ∧
      memWf (if p then ch.orBits 0x401 6 2 else ch).larder = true := by
    intro off n bytes d p _
    have g := writeCellar_wf (s.chan c) ((s.chan c).channelKeys c) off bytes (hs c)
    dsimp only
    split
    · exact ⟨g.1, (hs c).2⟩
    · exact ⟨g.1, (hs c).2⟩
  have f : ∀ (n : Nat), memoryWf ({ s with free := n } : State) := fun _ => hs
  unfold State.storeDump
  exact memoryWf_of_cells (cells_event _ _ _) (memoryWf_setChan c (f _) (k _ _ _ _ _).1 (k _ _ _ _ _).2)

theorem bar4Write_wf (ch : Channel) (c : Chan) (addr : Nat) (b : Bytes)
    (h : memWf ch.cellar = true ∧ memWf ch.larder = true) :
    memWf (ch.bar4Write c addr b).cellar = true ∧ memWf (ch.bar4Write c addr b).larder = true := by
  unfold Channel.bar4Write
  split
  · split
    · exact writeCellar_wf _ _ _ _ h
    · exact h
  · exact h

theorem memoryWf_bar4Write (s : State) (c : Chan) (addr : Nat) (data : Bytes) (hs : memoryWf s) :
    memoryWf (s.modChan c (·.bar4Write c addr data)) :=
  memoryWf_setChan c hs (bar4Write_wf _ c addr data (hs c)).1 (bar4Write_wf _ c addr data (hs c)).2


end Sys2Proof.Laws
end

