-- ==== Sys2Proof/Laws/Frame.lean ====
section
/-! SUPPORT. What the shared operations on one channel can do: nothing but that channel, the log of what leaves the
module and the count of free values changes. -/

namespace Sys2Proof.Laws

open Sys2Proof Sys2Proof.Machine

theorem onlyChannel_refl (c : Chan) (s : State) : onlyChannel c s s :=
  ⟨s.chan c, s.out, s.free, by simp [State.chan]⟩

theorem onlyChannel_trans {c : Chan} {s t u : State} (h : onlyChannel c s t) (g : onlyChannel c t u) :
    onlyChannel c s u := by
  obtain ⟨a, o, f, rfl⟩ := h
  obtain ⟨b, p, n, rfl⟩ := g
  exact ⟨b, p, n, by simp⟩

theorem onlyChannel_setChan (c : Chan) (s : State) (ch : Channel) : onlyChannel c s (s.setChan c ch) :=
  ⟨ch, s.out, s.free, rfl⟩

theorem onlyChannel_modChan (c : Chan) (s : State) (f : Channel → Channel) : onlyChannel c s (s.modChan c f) :=
  onlyChannel_setChan c s _

theorem onlyChannel_emit (c : Chan) (s : State) (o : Out) : onlyChannel c s (s.emit o) :=
  ⟨s.chan c, s.out ++ [o], s.free, by simp [State.emit, State.chan]⟩

theorem onlyChannel_drawn (c : Chan) (s : State) : onlyChannel c s s.drawn :=
  ⟨s.chan c, s.out, s.free + 1, by simp [State.drawn, State.chan]⟩

theorem onlyChannel_stamp (c : Chan) (s : State) (u : Nat) : onlyChannel c s (s.stamp c u).2 := by
  unfold State.stamp
  split
  · exact onlyChannel_refl c s
  · exact onlyChannel_trans (onlyChannel_drawn c s) (onlyChannel_setChan c _ _)

theorem onlyChannel_event (c : Chan) (s : State) (e : Ev) : onlyChannel c s (s.event c e) := by
  unfold State.event
  split
  · exact onlyChannel_refl c s
  · split
    · exact onlyChannel_modChan c s _
    · exact onlyChannel_trans (onlyChannel_stamp c s _) (onlyChannel_modChan c _ _)

theorem onlyChannel_access (view : View) (c : Chan) (s : State) (off : Nat) (wr : Bool) :
    onlyChannel c s (s.access view c off wr) := by
  unfold State.access
  split
  · exact onlyChannel_event c s _
  · exact onlyChannel_refl c s

theorem onlyChannel_raiseVector (c : Chan) (s : State) (v : Nat) : onlyChannel c s (s.raiseVector c v) := by
  unfold State.raiseVector
  repeat' split
  · exact onlyChannel_refl c s
  · exact onlyChannel_modChan c s _
  · exact onlyChannel_emit c s _

theorem onlyChannel_raiseIrq (c : Chan) (s : State) (b : Fin 7) : onlyChannel c s (s.raiseIrq c b) := by
  unfold State.raiseIrq
  simp only
  split
  · exact onlyChannel_refl c s
  · split
    · exact onlyChannel_trans (onlyChannel_modChan c s _) (onlyChannel_raiseVector c _ _)
    · exact onlyChannel_modChan c s _

/-- Every other channel, and everything of the module outside its channels, is as it was. -/
theorem onlyChannel_frame {c d : Chan} {s t : State} (h : onlyChannel c s t) (hd : d ≠ c) :
    t.chan d = s.chan d ∧ t.pending = s.pending ∧ t.tclk = s.tclk ∧ t.time = s.time ∧ t.ptp = s.ptp ∧ t.dict = s.dict ∧
    t.sessions = s.sessions ∧ t.txq = s.txq ∧ t.tlq = s.tlq ∧ t.reeve = s.reeve ∧ t.pins = s.pins := by
  obtain ⟨ch, o, f, rfl⟩ := h
  have hv : c.val ≠ d.val := fun e => hd (Fin.ext e.symm)
  refine ⟨?_, rfl, rfl, rfl, rfl, rfl, rfl, rfl, rfl, rfl, rfl⟩
  simp [State.chan, Vector.getElem_set_ne _ _ hv]

end Sys2Proof.Laws
end

