-- ==== Sys2Proof/Laws/Write.lean ====
section
/-! SUPPORT. What a write of one dictionary member can do (R361): refused by a check with nothing changed, refused by its
own commit, or committed. -/

namespace Sys2Proof.Laws

open Sys2Proof Sys2Proof.Machine

/-- A check refuses: the abort is given, nothing changes. -/
theorem writeRow_refused {s : State} {p : Path} {idx sub : Nat} {data : Bytes} {e : AbortCode} (f : Commit)
    (up : s.pathUp p = true) (h : s.checkWrite p idx sub data = .error e) :
    s.writeRow p idx sub data f = .next (s.answer e) := by
  simp [State.writeRow, up, State.write, h]

/-- The commit succeeds. -/
theorem writeRow_commits {s t : State} {p : Path} {idx sub : Nat} {data : Bytes} {pl : Place} {m : Member} {f : Commit}
    (h : accepts s p idx sub data pl m) (hf : f s = (0, t)) :
    s.writeRow p idx sub data f = .next (t.done pl m idx sub) := by
  simp [State.writeRow, h.1, State.write, h.2, hf, State.done]

/-- A commit that always succeeds. -/
theorem writeRow_commitOk {s : State} {p : Path} {idx sub : Nat} {data : Bytes} {pl : Place} {m : Member}
    (f : State → State) (h : accepts s p idx sub data pl m) :
    s.writeRow p idx sub data (commitOk f) = .next ((f s).done pl m idx sub) :=
  writeRow_commits h rfl

/-- The commit's own check refuses. -/
theorem writeRow_aborts {s t : State} {p : Path} {idx sub : Nat} {data : Bytes} {pl : Place} {m : Member} {f : Commit}
    {code : AbortCode} (h : accepts s p idx sub data pl m) (hf : f s = (code, t)) (hc : code ≠ 0) :
    s.writeRow p idx sub data f = .next (t.answer code) := by
  have hc' : ¬(code = 0#32) := hc
  simp [State.writeRow, h.1, State.write, h.2, hf, hc']

/-- Every write of a row answers a next state, or leaves the state where its path carries nothing. -/
theorem writeRow_cases (s : State) (p : Path) (idx sub : Nat) (data : Bytes) (f : Commit) :
    (s.pathUp p = false ∧ s.writeRow p idx sub data f = .next s) ∨
    (s.pathUp p = true ∧ ∃ e, s.checkWrite p idx sub data = .error e ∧
      s.writeRow p idx sub data f = .next (s.answer e)) ∨
    (∃ pl m, accepts s p idx sub data pl m ∧
      ((f s).1 = 0 ∧ s.writeRow p idx sub data f = .next ((f s).2.done pl m idx sub) ∨
       (f s).1 ≠ 0 ∧ s.writeRow p idx sub data f = .next ((f s).2.answer (f s).1))) := by
  cases up : s.pathUp p with
  | false => exact .inl ⟨rfl, by simp [State.writeRow, up]⟩
  | true =>
    cases h : s.checkWrite p idx sub data with
    | error e => exact .inr (.inl ⟨rfl, e, rfl, writeRow_refused f up h⟩)
    | ok x =>
      obtain ⟨pl, m⟩ := x
      refine .inr (.inr ⟨pl, m, ⟨up, h⟩, ?_⟩)
      by_cases hc : (f s).1 = 0
      · exact .inl ⟨hc, writeRow_commits ⟨up, h⟩ (by rw [← hc])⟩
      · exact .inr ⟨hc, writeRow_aborts ⟨up, h⟩ rfl hc⟩

end Sys2Proof.Laws
end

