-- ==== Sys2Proof/Machine/Enumerate.lean ====
section
/-! DEFINITION. Enumeration of the module behind its Porter, and the identity of its functions in configuration space (R275,
R276).  The opcode table has no row for a configuration access: these are the values that one reads, given the bus number N that
the host assigns to the upstream port. -/

namespace Sys2Proof.Machine

open Sys2Proof

/-- The PCIe functions of the module (R275): the upstream port of its one switch, the eight downstream ports, the channels. -/
inductive PcieFn where
  | upstream
  | downstream (c : Chan)
  | channel (c : Chan)
deriving DecidableEq, Repr

def allPcieFns : List PcieFn := .upstream :: allChans.map .downstream ++ allChans.map .channel

/-- Bus, device and function number for an upstream port on bus n: the secondary bus n + 1 holds the downstream ports as devices 0
to 7; the secondary bus of port c holds channel c as device 0, function 0 (R275). Buses are assigned in order of ports
(DESIGN CHOICE, log entry 116). -/
def PcieFn.place (f : PcieFn) (n : Nat) : Nat × Nat × Nat :=
  match f with
  | .upstream => (n, 0, 0)
  | .downstream c => (n + 1, c.val, 0)
  | .channel c => (n + 2 + c.val, 0, 0)

def PcieFn.deviceId : PcieFn → BitVec 16
  | .upstream => 0x8F10
  | .downstream _ => 0x8F11
  | .channel _ => 0x8F18

def PcieFn.classCode : PcieFn → BitVec 24
  | .upstream => 0x060400
  | .downstream _ => 0x060400
  | .channel _ => 0x120000

def PcieFn.headerType : PcieFn → BitVec 8
  | .upstream => 1
  | .downstream _ => 1
  | .channel _ => 0

/-- Every function carries the Forsulux vendor ID, whose number the manual does not give. -/
def PcieFn.vendorId (_ : PcieFn) : BitVec 16 := BitVec.ofNat 16 Config.vendorId

/-- Revision ID: of a channel, its silicon stepping (R275, R382); of a port, not given, a constant of Config. -/
def State.revisionId (s : State) (f : PcieFn) : BitVec 8 :=
  match f with
  | .channel c => BitVec.ofNat 8 (s.stepping c)
  | _ => BitVec.ofNat 8 Config.porterRevision

/-- Buses below bus n that the module takes (R275): the switch's own and one below each downstream port. -/
def busesTaken : Nat := 9

/-- Sizes of the BARs of a channel function (R276): BAR0, BAR2, and BAR4 with BAR5; BAR1 and BAR3 read as 0. -/
def barSize (k : Nat) : Nat :=
  if k = 0 then 2 ^ 25 else if k = 2 then 2 ^ 20 else if k = 4 then 2 ^ 36 else 0

/-- What a BAR of a channel function reads after all ones have been written to it, the usual sizing probe: the size mask with the
type bits, 64-bit prefetchable for BAR4 (R276). -/
def barProbe (k : Nat) : BitVec 32 :=
  if k = 0 ∨ k = 2 then BitVec.ofNat 32 (2 ^ 32 - barSize k)
  else if k = 4 then 0xC
  else if k = 5 then BitVec.ofNat 32 (2 ^ 32 - barSize 4 / 2 ^ 32)
  else 0

end Sys2Proof.Machine
end

