-- ==== Sys2Proof/Tests/Slice0.lean ====
section
/-! SUPPORT. The model's own tests: ill-formed terms that WellFormed refuses, a witness for every clause of the statements that
has hypotheses, and small checks whose results come from the manual. -/

-- The tests are checked one after another: checked all at once, each would hold the stack of a thread of its own.
set_option Elab.async false

namespace Sys2Proof.Tests

open Sys2Proof Sys2Proof.Machine

/-! ## Small states -/

/-- The privileged TLX path. -/
def priv : Path := .tlx .privileged

/-- A channel that is READY, its Steward and endpoint up, its Observatory switched on. -/
def chUp : Channel :=
  ({ Channel.reset with st := .ready, steward := true, host := { Channel.reset.host with ready := true } }).put 0x300 1 1

/-- The module up, PERST_N high, every channel READY. -/
def up : State := { State.reset with perst := false, upLink := true, chans := Vector.replicate 8 chUp }

/-- The module up, channel 0 changed by f. -/
def up0 (f : Channel → Channel) : State := up.modChan 0 f

/-- A write reaches its server and passes the checks 1 to 10. -/
def takes (s : State) (p : Path) (idx sub : Nat) (d : Bytes) : Bool :=
  s.pathUp p && (match s.checkWrite p idx sub d with | .ok _ => true | .error _ => false)

theorem takes_accepts {s : State} {p : Path} {idx sub : Nat} {d : Bytes} (h : takes s p idx sub d = true) :
    ∃ pl m, accepts s p idx sub d pl m := by
  unfold takes at h
  cases hc : s.checkWrite p idx sub d with
  | error e => simp [hc] at h
  | ok x => exact ⟨x.1, x.2, by simpa [hc] using h, by simp [hc]⟩

/-- A write reaches its server and fails one of the checks, with this abort. -/
def refuses (s : State) (p : Path) (idx sub : Nat) (d : Bytes) (e : AbortCode) : Bool :=
  s.pathUp p && (match s.checkWrite p idx sub d with | .ok _ => false | .error x => x == e)

/-- The command answers a next state of which f holds. -/
def leaves (i : Instr) (s : State) (f : State → Bool) : Bool :=
  match exec i s with
  | .next t => f t
  | .fault _ => false
  | .refused _ => false

/-- Every line of a witness holds. -/
def every (l : List Bool) : Bool := l.all id

/-! ## Witnesses of the statements' hypotheses -/

theorem witness_StepRunsTheFrontCommand :
    ({ up with pending := [.usbPortInfo, .correctionSlot] } : State).pending = .usbPortInfo :: [.correctionSlot] := rfl

theorem witness_IdleStepIsOneTclkEdge : up.pending = [] := rfl

theorem witness_CommandsLeaveTheQueue : leaves .correctionSlot up (fun t => t.time.nextSlot == 64) = true := by
  decide +kernel

/-- A byte of the Cellar and one of the Larder. -/
def withCells : State := up0 fun ch => { ch with cellar := [(5, 1), (64, 7)], larder := [(0, 9)] }

theorem witness_StepKeepsMemoryCanonical :
    every [
      allChans.all fun c => memWf (withCells.chan c).cellar && memWf (withCells.chan c).larder,
      leaves .usbPortInfo withCells fun t => (t.chan 0).cellar == [(5, 1), (64, 7)]] = true := by decide +kernel

theorem witness_MemoryRunsReadBack : memWf [(5, 1), (64, 7)] = true := by decide

theorem witness_ByteOrdersReadBack : (DictMap.lookupModule 0x2040 4).any (fun m => m.ty.size == some 10) = true := by
  decide +kernel

theorem witness_RefusedWriteAppliesNothing :
    asWrite (.nodeIdWrite priv 9) = some (priv, 0x1100, 1, [9]) ∧
    every [
      up.pathUp priv,
      refuses up (.tlx .reader) 0x1100 1 [9] abortDenied,
      refuses up priv 0x1100 1 [9, 0] abortLength] = true := by decide +kernel

/-- Channel 0 without power. -/
def downCh : State := up0 fun ch => { ch with st := .poweredDown, reason := 0x20, steward := false }

theorem witness_PoweredDownChannelAnswersStatusOnly :
    every [
      (downCh.chan 0).st == .poweredDown, decide (0xFFF < 0x1000), downCh.reeveUp,
      (downCh.chan 0).st == .poweredDown && !decide (0x100 = 0 ∧ 1 ≤ 1 ∧ 1 ≤ 3),
      downCh.carries priv (.channel 0 0) 1 false,
      decide (1 ≤ 1 ∧ 3 ≤ 3)] = true := by decide +kernel

/-- Correction mode 1, external, in the time state given. -/
def mode1 (ts : TimeState) (allowance : Bool) : State :=
  let s := up.mput 0x3001 1 1
  { s with time := { s.time with ts := ts, allowance := allowance } }

theorem witness_ServoIsTheOnlyWriterInModeZero :
    every [
      up.mnat 0x3001 1 == 0, takes up priv 0x3002 0 (leBytes 8 0x200000000), takes up priv 0x3003 0 (leBytes 8 5)] = true := by
  decide +kernel

theorem witness_TimeWritesCommit :
    every [
      takes up priv 0x3000 3 [1],
      takes (mode1 .locked true) priv 0x3002 0 (leBytes 8 0x200000001) && (mode1 .locked true).mnat 0x3001 1 != 0,
      takes (mode1 .locked true) priv 0x3003 0 (leBytes 8 (2 ^ 64 - 1)) && (mode1 .locked true).mnat 0x3001 1 == 1 &&
        (mode1 .locked true).time.allowance,
      takes up priv 0x3005 0 (leBytes 10 (7 * 2 ^ 32)) && up.time.ts == .freeRun,
      takes up priv 0x3001 1 [1] && up.mget 0x3001 1 != 1, takes up priv 0x3001 2 [1] && up.mget 0x3001 2 != 1,
      takes (mode1 .holdover true) priv 0x3004 0 [1] && (mode1 .holdover true).time.ts != .freeRun,
      takes up priv 0x3003 0 (leBytes 8 1) && up.mnat 0x3001 1 == 0,
      takes (mode1 .locked false) priv 0x3003 0 (leBytes 8 1) && !(mode1 .locked false).time.allowance] = true := by
  decide +kernel

/-- A state with this time base. -/
def withTime (f : TimeBase → TimeBase) : State := { up with time := f up.time }

/-- A PPS load written at edge 0, 2 s before. -/
def ppsLate : State := { withTime fun t => { t with ppsLoad := some { value := 5, deadline := 1000000000, edge := none } } with
  tclk := 1000000000 }

/-- PPS_IN the source, locked, its last edge 3.5 s before. -/
def ppsGone : State := { (withTime fun t => { t with lastPps := some 0, ts := .locked }).mput 0x3001 2 1 with
  tclk := 1750000000 }

theorem witness_TimeEventsComplete :
    every [
      up.reeveUp, (up.mput 0x3000 2 1).mon 0x3000 2,
      ppsLate.time.ppsLoad == some { value := 5, deadline := 1000000000, edge := none } && decide (1000000000 ≤ ppsLate.tclk),
      decide (({ up with tclk := 64 } : State).time.nextSlot ≤ 64),
      (withTime fun t => { t with load := some (0, .step 9) }).time.load == some (0, .step 9),
      !up.mon 0x3001 2, leaves .ppsCapture up fun t => t.time.lastPps == some up.tclk,
      up.live && !up.perst, ppsGone.time.lastPps == some 0 && ppsGone.mon 0x3001 2 && decide (0 + tclkOfMs 3500 ≤ ppsGone.tclk) &&
        ppsGone.time.ts == .locked && ppsGone.reeveUp,
      takes up priv 0x2040 4 (leBytes 10 (946684837 * 2 ^ 32)) &&
        decide ((civilOfDay (((946684837 * 2 ^ 32 / 2 ^ 32 : Nat) - up.taiOffset) / 86400)).1 = 2000),
      (mode1 .locked true).time.ts != .freeRun && (mode1 .locked true).reeveUp,
      (let s : State := { up with reeve := { up.reeve with leapAt := some 946684832 } }
       s.reeveUp && s.reeve.leapAt == some 946684832 && decide (946684832 ≤ taiSecond s.now))] = true := by
  decide +kernel

theorem witness_TargetsAliasIntoTheWindow :
    (∃ x : Int, (x - (0x80000000 : T32).toNat) % 2 ^ 32 = 0 ∧ x < (1 : T32).toNat + 2 ^ 31 ∧
      ((1 : T32).toNat : Int) - (2 ^ 31 - 1) ≤ x) ∧
    (∃ x : Int, (x - (0x80000001 : T32).toNat) % 2 ^ 32 = 0 ∧ x < (0 : T32).toNat + 2 ^ 31 ∧
      ((0 : T32).toNat : Int) - (2 ^ 31 - 1) ≤ x) :=
  ⟨⟨2147483648, by decide⟩, ⟨-2147483647, by decide⟩⟩

/-- An Announce from another clock. -/
def ann : Announce :=
  { domain := 0, gm := 7, priority1 := 1, clockClass := 6, clockAccuracy := 0x20, variance := 0, priority2 := 1
    stepsRemoved := 254, sender := 7, utcOffset := 37, utcValid := true, leap61 := false, leap59 := false }

/-- A message of that clock. -/
def ptpMsg : PtpMsg :=
  { domain := 0, sender := 7, seqId := 3, logInterval := -4, twoStep := true, stamp := 1000, correction := 2
    requester := 0x020000FFFE000001 }

/-- PTP on, in the role given, with that clock the master of a slave. -/
def withPtp (role : PtpRole) (f : Ptp → Ptp := id) : State :=
  let s := up.mput 0x3010 1 1
  { s with tclk := 2000000000, ptp := f { s.ptp with role := role, master := if role = .slave then some ann else none } }

/-- A slave between Sync and Follow_Up, and between Delay_Req and Delay_Resp. -/
def midExchange : State := withPtp .slave fun p =>
  { p with exch := { p.exch with syncSeq := 3, reqSeq := 3, t2 := some 1100 }, tsq := [⟨5, 1, 3⟩], lastSync := some 0 }

/-- A master whose PLCA waits for a beacon. -/
def masterUp : State := (withPtp .master fun p => { p with burstEnd := some 2000000000 }).mput 0x1101 1 1

theorem witness_PtpCommandsComplete :
    every [
      (withPtp .slave).ptpHears ann.domain && ann.sender != (withPtp .slave).clockId && (withPtp .slave).reeveUp,
      (withPtp .slave).fromMaster ptpMsg,
      leaves (.syncReceived ptpMsg) (withPtp .slave) fun t => t.ptp.exch.syncSeq == 3 && t.ptp.exch.t1 == none,
      midExchange.fromMaster ptpMsg && midExchange.ptp.exch.syncSeq == ptpMsg.seqId && midExchange.ptp.exch.t2 != none &&
        midExchange.ptp.exch.t1 == none,
      ptpMsg.requester == midExchange.clockId && midExchange.ptp.exch.reqSeq == 3 && midExchange.ptp.exch.t4 == none,
      masterUp.ptpHears 0 && masterUp.ptp.role == .master,
      (withPtp .slave).mon 0x3010 1 && (withPtp .slave).ptp.role == .slave &&
        decide ((withPtp .slave).ptp.lastReq + (withPtp .slave).reqInterval ≤ (withPtp .slave).tclk),
      decide (masterUp.ptp.nextSyncT64.toNat ≤ masterUp.now.toNat) && masterUp.plcaState == plcaWaiting,
      leaves .ptpSyncSend masterUp fun t => t.tlq.any fun f => f.sync == some 1 && f.launch == 0,
      decide (masterUp.ptp.lastAnn + tclkOfNs (logNs (masterUp.mint 0x3010 8)) ≤ masterUp.tclk) && masterUp.txq.isEmpty,
      leaves .announceSend masterUp fun t => t.txq.any fun f => f.cls == .ptpGeneral,
      masterUp.ptp.burstEnd == some 2000000000 && decide (2000000000 ≤ masterUp.tclk),
      midExchange.ptp.tsq == [⟨5, 1, 3⟩] && (1 : Byte) != syncType && (3 : BitVec 16) == midExchange.ptp.exch.reqSeq,
      (let s : State := { midExchange with time := { midExchange.time with ts := .locked } }
       s.ptp.lastSync == some 0 && !s.mon 0x3001 2 && s.time.ts == .locked && decide (0 + 3 * s.lossInterval ≤ s.tclk)),
      (let s := (withPtp .listening).mput 0x3010 5 0
       s.mon 0x3010 1 && s.ptp.role != .master && !s.slaveOnly && decide (s.ptp.lastAnnounce.getD 0 +
         s.mnat 0x3010 9 * tclkOfNs (logNs (s.mint 0x3010 8)) ≤ 3000000000)),
      takes up priv 0x3010 1 [1],
      takes up priv 0x3010 1 [0]] = true := by decide +kernel

/-- Mode 2 on TRIG3 with the period and width given. -/
def trig2 (period width : Word) : State :=
  up0 fun ch => ((ch.put 0x113 1 2).put 0x113 3 period).put 0x113 4 width

/-- TRIG0 armed, its target d ns before T32. -/
def armed (d : T32) (mode : Word := 1) (period : Word := 0) : State :=
  up0 fun ch => ((((ch.put 0x110 1 mode).put 0x110 3 period).put 0x110 6 1).modCmp 0 fun m =>
    { m with target := up.now32 - d })

theorem witness_TriggerCommandsComplete :
    every [
      takes (trig2 11 10) priv (chanIndex 0 0x113) 2 (leBytes 4 0xFFFFFFFF) && !((trig2 11 10).chan 0).widthClash 0x113,
      takes up priv (chanIndex 7 0x110) 2 (leBytes 4 0) && up.cnat 7 0x110 1 != 2,
      takes up priv (chanIndex 7 0x113) 1 [0], takes up priv (chanIndex 7 0x113) 1 [1], takes up priv (chanIndex 7 0x113) 1 [3],
      takes up priv (chanIndex 7 0x113) 3 (leBytes 4 100) && up.cnat 7 0x113 1 != 2,
      takes up priv (chanIndex 7 0x113) 4 (leBytes 2 65534) && up.cnat 7 0x113 1 != 2,
      takes up priv (chanIndex 7 0x120) 1 [0],
      takes up priv (chanIndex 7 0x120) 1 [1] && !up.con 7 0x120 1,
      takes up priv (chanIndex 7 0x120) 2 (leBytes 4 0xFFFFFFFF) && !(up.chan 7).on 0x120 1,
      takes (trig2 10 10) priv (chanIndex 0 0x113) 2 (leBytes 4 0) && (trig2 10 10).cnat 0 0x113 1 == 2 &&
        ((trig2 10 10).chan 0).widthClash 0x113,
      (let s := up0 fun ch => ((ch.put 0x113 3 10).put 0x113 4 10).put 0x113 6 1
       takes s priv (chanIndex 0 0x113) 1 [2] && (s.chan 0).arming 3 && (s.chan 0).widthClash 0x113),
      (let s := up0 fun ch => ch.modCmp 4 fun m => { m with arming := some 0 }
       s.chanUp 0 && (s.chan 0).cmp[4].arming == some 0 && decide (0 ≤ s.tclk)),
      ((armed 0).chan 0).armed 0 && ((armed 0).chan 0).cmp[0].crossed == none &&
        decide (cmpDiff (armed 0).now32 ((armed 0).chan 0).cmp[0].target = 0),
      (let s := (armed 0).modChan 0 fun ch => ch.modCmp 0 fun m => { m with crossed := some 9 }
       (s.chan 0).armed 0 && (s.chan 0).cmp[0].crossed == some 9),
      decide (cmpDiff (armed (-1)).now32 ((armed (-1)).chan 0).cmp[0].target = -1),
      (let s := up0 fun ch => ch.modCmp 3 fun m => { m with pulseEnd := some 0 }
       (s.chan 0).cmp[3].pulseEnd == some 0 && decide (0 ≤ s.tclk))] = true := by decide +kernel

theorem witness_PeriodicTargetsKeepTheSchedule :
    let s := armed 25 2 10
    every [
      s.chanUp 0, (s.chan 0).armed 0, (s.chan 0).cmp[0].crossed == none, s.cnat 0 (cmpOff 0) 3 == 10,
      s.cnat 0 (cmpOff 0) 1 == 2, (s.now32 - (s.chan 0).cmp[0].target).toNat == 25, decide (25 < 2 ^ 31),
      leaves (.comparatorFire 0 0) s fun t =>
        (t.chan 0).cmp[0].target == s.now32 - 25 + 30 && t.cnat 0 (cmpOff 0) (cmpSkip 0) == 2,
      (let s := (armed 25 2 10).modChan 0 fun ch => ch.modCmp 0 fun m => { m with crossed := some 0 }
       s.chanUp 0 && (s.chan 0).armed 0 && (s.chan 0).cmp[0].crossed == some 0)] = true := by decide +kernel

/-- Port 3 of channel 0, a connector, in the state given, its hardware changed by f. -/
def linkUp (st : Word) (f : RPort → RPort := id) : State :=
  { up0 fun ch => ((ch.put (portOff 3) 1 1).put (portOff 3) 2 st).modPort 3 f with tclk := 1000000 }

/-- Valid training blocks of lanes 0 to 3. -/
def blocks (kind : Byte) : List TrainingBlock :=
  ([0, 1, 2, 3] : List Byte).map fun l =>
    let b : TrainingBlock :=
      { marker := 0xB5C3E11D, kind := kind, lane := l, port := 0, version := 1, sender := 5, credits := 64, crc := 0 }
    { b with crc := crc32 (leBytes 4 b.marker.toNat ++ [kind, l, 0, 1] ++ leBytes 4 5 ++ leBytes 2 64 ++ zeros 46) }

theorem witness_LinkTrainingCompletes :
    every [
      ((linkUp 0).chan 0).portState 3 == 0 && ((linkUp 0).chan 0).nat (portOff 3) 1 != 0 &&
        ((linkUp 0).chan 0).st == .ready && !((linkUp 0).chan 0).stopped &&
        decide ((((linkUp 0).chan 0).port 3).downSince + tclkOfMs 1 ≤ (linkUp 0).tclk),
      leaves (.linkTrainStart 0 3) (linkUp 0) fun t => (t.chan 0).portState 3 == 1,
      (linkUp 1).blocksArrive 0 3 (blocks 1) && ((linkUp 1).chan 0).portState 3 == 1,
      (linkUp 2).blocksArrive 0 3 (blocks 2) && ((linkUp 2).chan 0).portState 3 == 2,
      (linkUp 3).blocksArrive 0 3 (blocks 1) && ((linkUp 3).chan 0).portState 3 == 3,
      ((linkUp 3).chan 0).portUp 3, (linkUp 3).chanUp 0,
      takes up priv (chanIndex 7 (portOff 1)) 1 [2],
      takes up priv (chanIndex 7 (portOff 1)) 1 [1] && (up.chan 7).portState 1 == 0,
      takes up priv (chanIndex 7 (portOff 2)) 1 [2] && (up.chan 7).portState 2 == 0,
      takes (linkUp 1) priv (chanIndex 0 (portOff 3)) 1 [1] && !((linkUp 1).chan 0).portUp 3 && ((linkUp 1).chan 0).portState 3 != 0,
      takes (linkUp 3) priv (chanIndex 0 (portOff 3)) 1 [1] && ((linkUp 3).chan 0).portUp 3,
      (blocks 1).length == 4 && (blocks 1).all blockValid && (blocks 1).map (·.lane) == [0, 1, 2, 3] && decide (16 ≤ 16),
      ((linkUp 1).trainStep 0 3 (blocks 1) 16).chan 0 |>.portState 3 |> (· == 2),
      (let s := linkUp 2 fun r => { r with ts2 := 15 }
       (blocks 2).all blockValid && ((blocks 2).all fun x => x.kind == 2) && decide (15 ≤ ((s.chan 0).port 3).ts2) &&
         (s.chan 0).st != .poweredDown && ((s.confirmStep 0 3 (blocks 2)).chan 0).portState 3 == 3)] = true := by
  decide +kernel

/-- A flit with its CRC. -/
def flit (type : Byte) (length seq : BitVec 16) (flags : Byte := 0) : Flit :=
  let f : Flit := { type := type, stream := 0, seq := seq, ack := 0xFFFF, credit := 0, length := length, flags := flags
                    payload := zeros 240, crc := 0 }
  { f with crc := crc32 (flitBytes f) }

/-- Port 3 UP, having offered n receive slots. -/
def offered (n : Nat) : State := linkUp 3 fun r => { r with offered := n }

/-- The partner's fields of the flit taken. -/
def taken (s : State) (f : Flit) : State := s.modChan 0 fun ch => ch.modPort 3 fun r => r.takeFields s.tclk f

/-- A flit on its way to port 0 of channel 0 from the channel before it on the board ring. -/
def inFlight (f : Flit) : State :=
  { up0 fun ch => (ch.put (portOff 0) 1 1).put (portOff 0) 2 3 with ring := [(0, 0, f)] }

theorem witness_FlitReceptionCompletes :
    every [
      (offered 1).chanUp 0 && ((offered 1).chan 0).portUp 3, (offered 1).arrive 0 3 (flit 0 0 0) == some (offered 1),
      ((inFlight (flit 0 0 0)).arrive 0 0 (flit 0 0 0)).any fun s => s.ring.isEmpty,
      ((inFlight (flit 0 0 0)).arrive 0 0 (flit 0 0 1)).isNone,
      crc32 (flitBytes { flit 0 0 0 with crc := 0 }) != 0,
      crc32 (flitBytes (flit 0 0 0)) == (flit 0 0 0).crc,
      crc32 (flitBytes (flit 3 0 0)) == (flit 3 0 0).crc,
      (flit 1 240 1).seq != (((taken (offered 1) (flit 1 240 1)).chan 0).port 3).rxNext,
      (flit 1 240 0).seq == (((taken (offered 0) (flit 1 240 0)).chan 0).port 3).rxNext &&
        (((taken (offered 0) (flit 1 240 0)).chan 0).port 3).offered == 0,
      (let f := flit 1 240 0 1
       f.seq == (((taken (offered 1) f).chan 0).port 3).rxNext && (((taken (offered 1) f).chan 0).port 3).offered != 0 &&
         !(((taken (offered 1) f).chan 0).port 3).outOfFrame f),
      crc32 (flitBytes (flit 2 0 0)) == (flit 2 0 0).crc, crc32 (flitBytes (flit 1 241 0)) == (flit 1 241 0).crc,
      (let f := flit 1 1 0
       (((taken (offered 1) f).chan 0).port 3).outOfFrame f && (((taken (offered 1) f).chan 0).port 3).offered != 0 &&
         f.seq == (((taken (offered 1) f).chan 0).port 3).rxNext)] = true := by decide +kernel

/-- Two bytes of a frame that waits on port 3. -/
def txData : TxData :=
  { stream := 0, bytes := [1, 2], hatch := none, need := 0, job := none, fresh := true, kind := 1, tag := 0, owner := none, total := 2 }

theorem witness_FlitSendingCompletes :
    every [
      decide (4095 ≤ (((linkUp 3 fun r => { r with sinceIdle := 4095 }).chan 0).port 3).sinceIdle),
      (((linkUp 3 fun r => { r with sinceIdle := 4094, nakDue := true }).chan 0).port 3).nakDue,
      (((linkUp 3 fun r => { r with resend := [flit 1 240 0] }).chan 0).port 3).resend == [flit 1 240 0],
      (let s := linkUp 3 fun r =>
         { r with txq := [txData], credits := 1, replay := List.replicate 127 { flit := flit 1 240 0, times := 0 } }
       ((s.chan 0).port 3).replay.length == 127 && (s.chan 0).nextPayload txData == some [1, 2]),
      (((linkUp 3 fun r => { r with txq := [txData] }).chan 0).port 3).credits == 0,
      (((linkUp 3).chan 0).port 3).txq.isEmpty && (((linkUp 3).chan 0).port 3).resend.isEmpty &&
        !(((linkUp 3).chan 0).port 3).nakDue,
      (let s := linkUp 3 fun r => { r with replay := [{ flit := flit 1 240 0, times := 0 }], ackAt := 1000000 - tclkOfUs 2 }
       !((s.chan 0).port 3).replay.isEmpty && decide (((s.chan 0).port 3).ackAt + tclkOfUs 2 ≤ s.tclk))] = true := by
  decide +kernel

/-- An owner with a key and every ring running. -/
def keyedOwner : Owner :=
  let r : Ring := { Ring.reset 16 with enable := true, active := true }
  { Owner.reset with
    st := .keyed, key := some { key := 1, gen := 1, stream := 5 }
    job := { Ring.reset 6 with enable := true, tail := 1 }
    result := r, trace := r, decant := r }

/-- Slot 2 of channel 0 keyed, and the channel changed by f. -/
def keyed (f : Channel → Channel := id) : State := up0 fun ch => f (ch.setOwner 2 keyedOwner)

/-- A plan image of a header alone. -/
def planImage : Bytes :=
  let b := leBytes 4 0x4E4C5052 ++ leBytes 2 1 ++ zeros 14 ++ leBytes 4 2 ++ leBytes 4 1000 ++ leBytes 2 600 ++ [1, 0] ++
    zeros 16 ++ leBytes 2 1 ++ zeros 22 ++ leBytes 8 128 ++ zeros 32 ++ leBytes 8 128 ++ zeros 4
  b ++ leBytes 4 (crc32 (b ++ zeros 4)).toNat

/-- What its opaque sections fix. -/
def planFacts : ProgramFacts :=
  { pairs := [(.int8, .int8)], rows := [], consts0 := 0, hatches := [⟨3, .ingest, .loom 0⟩], shift := 0, tiles := [600], tensors := [] }

/-- That plan loading into slot 3 for owner 2. -/
def loadReq : LoadReq := { slot := 3, off := 0, len := 128, owner := 2, image := some (planImage, 0) }

/-- A READY plan of owner 2. -/
def planReady : Plan := { Plan.reset with st := 2, owner := 2, cycles := 1000, floor := 600, tiles := 1, facts := planFacts }

/-- A time-mode descriptor of plan 3, launched d ns after the reset state's T64. -/
def descriptor (d : Nat) : Bytes :=
  [3, 0, 0, 0] ++ leBytes 4 77 ++ leBytes 8 (up.now.toNat + d) ++ zeros 16

/-- Channel 0 with that plan READY, its ceiling at 1500 MHz, and the jobs given. -/
def withJobs (jobs : List Job) (f : Channel → Channel := id) : State :=
  keyed fun ch => f { (ch.setPlan 3 planReady).put 0x700 2 1500 with jobs := jobs }

/-- A job of plan 3. -/
def aJob : Job := { jobOf 0 2 (descriptor 1000) with resv := some (0, up.now.toNat) }

theorem witness_PlanAndDescriptorCommandsComplete :
    every [
      (let s := keyed fun ch => (ch.put 0x510 3 2).put 0x510 2 128
       takes s priv (chanIndex 0 0x510) 5 [1] && (s.chan 0).nat 0x510 6 != loadBusy && (s.chan 0).st != .booting &&
         ((s.chan 0).owner 2).st == .keyed && (s.chan 0).nat 0x510 3 == 2 && ((s.chan 0).plan 0).st == 0),
      (let s := keyed fun ch => { ch with loading := some loadReq }
       (s.chan 0).loading == some loadReq && !(s.chan 0).xtsFault && s.imageCheck 0 planImage 128 planFacts == 0 &&
         s.imageCheck 0 (planImage.drop 1) 128 planFacts == loadBadHeader),
      takes up priv (chanIndex 0 0x510) 5 [2] && (up.chan 0).nat 0x510 6 != loadBusy && (up.chan 0).jobs.isEmpty,
      (let s := up0 fun ch => { ch with st := .booting }
       takes s priv (chanIndex 0 0x510) 5 [1] && (s.chan 0).st == .booting),
      up.hostUp 0 && (((up.access .bar0 0 (slotCopy 2 0x110)).chan 0).owner 2).st != .retiring,
      (let s := up0 fun ch => ch.modOwner 2 fun o => { o with st := .retiring }
       (((s.access .window 0 (slotCopy 2 0x110)).chan 0).owner 2).st == .retiring && s.hostUp 0),
      (keyed.chan 0).fetching == none && !(keyed.chan 0).stopped && (keyed.chan 0).nextRing == some 2 && keyed.hostUp 0,
      (let s := keyed fun ch => { ch with fetching := some 2 }
       (s.chan 0).fetching == some 2 && s.chanUp 0)] = true := by decide +kernel

theorem witness_AdmissionOrder :
    every [
      (let s := keyed fun ch => { ch with st := .computeDisabled }
       !(s.chan 0).computing),
      (let s := (withJobs []).modChan 0 fun ch => ch.modOwner 2 fun o => { o with st := .retiring }
       (s.chan 0).computing && ((s.chan 0).owner 2).st == .retiring),
      ((withJobs []).chan 0).computing && ((withJobs []).chan 0 |>.owner 2).st != .retiring &&
        descBad (descriptor 1000 ++ [0]).reverse,
      !descBad (descriptor 1000) && !((keyed.chan 0).plan (descOf (descriptor 1000)).plan).readyFor 2,
      (match ((withJobs []).chan 0).admission 2 (descriptor 1000) up.now with
       | .ok r => r == (up.now.toNat + 1000, up.now.toNat + 1000 + 49 + 1667, false)
       | .error _ => false)] = true := by decide +kernel

/-- A job of plan 3 that has launched, with tile 0 in flight and a deadline of 1 ns before now. -/
def running (slate : List Tile) (f : Channel → Channel := id) : State :=
  withJobs [{ aJob with running := true, begun := true, launched := up.now, issued := 1 }] fun ch => f { ch with slate := slate }

/-- The tile of that job, which still has this work to do. -/
def aTile (left : Option (List TileOp) := none) : Tile :=
  { k := 0, cycle := 600, deadline := up.now - 1, missed := false, left := left }

theorem witness_JobCommandsComplete :
    every [
      (let s := withJobs [{ aJob with launchAt := up.now }]
       !(s.chan 0).onSafeClock && !(s.chan 0).stopped && (s.chan 0).runningJob == none && ((s.chan 0).nextDue s.now).isSome),
      (let j := { aJob with desc := { aJob.desc with arrival := true, t1 := up.now - 1 } }
       ((withJobs [j]).chan 0).jobs[0]? == some j && j.desc.arrival && !j.running && j.arrived == none &&
         decide (j.desc.t1.toNat < (withJobs [j]).now.toNat)),
      ((withJobs [aJob]).chan 0).jobs[0]? == some aJob && aJob.resv == some (0, up.now.toNat) && decide (up.now.toNat ≤ up.now.toNat),
      (let s := running [aTile]
       ((s.chan 0).runningJob.any fun j => (s.chan 0).computes j && (s.chan 0).stillRuns j) &&
         (s.chan 0).slate.find? (·.k == 0) == some aTile && !(s.chan 0).stopped && (s.flow 0 []).2 == []),
      ((running [aTile]).flow 0 [.vector 0 (.hatch 3) .int8 1]).2 == [.vector 0 (.hatch 3) .int8 1],
      ((running [aTile]).chan 0).slate.find? (·.k == 0) == some aTile && !aTile.missed &&
        decide (aTile.deadline.toNat < up.now.toNat),
      ((running []).chan 0).runningJob.any fun j => ((running []).chan 0).slate.isEmpty &&
        ((running []).chan 0).computes j &&
        !(((running []).chan 0).ports.any fun r => r.txq.any fun d => d.job == some j.num) &&
        decide ((((running []).chan 0).plan j.desc.plan).facts.tiles.length ≤ j.issued)] = true := by decide +kernel

theorem witness_ComputeFaultsComplete : up.chanUp 7 = true := by decide +kernel

/-- A completion of slot 2. -/
def aCompletion : Completion :=
  { slot := 2, tag := 77, status := 0, code := 0, flags := 0, plan := 3, launch := 5, result := 9, payload := [1], irq := true
    never := false }

/-- A sealed block. -/
def aBlock : Block := { seq := 0, word67 := 0, payload := [], irq := true, records := 1, first := 5, last := 5, key := 5 }

/-- Slot 2 with a block sealed in each stream. -/
def withBlocks : State := keyed fun ch => ch.modOwner 2 fun o => { o with
  rs := { o.rs with sealedQ := [aBlock] }, ds := { o.ds with sealedQ := [aBlock] }, ts := { o.ts with sealedQ := [aBlock] } }

/-- Slot 2 with a block sealed in the result and decant streams, and none of the trace ring's ahead of them. -/
def resultBlocks : State := keyed fun ch => ch.modOwner 2 fun o => { o with
  rs := { o.rs with sealedQ := [aBlock] }, ds := { o.ds with sealedQ := [aBlock] } }

/-- Slot 2 with one block readable in each ring: HEAD 4096, TAIL 0. -/
def oneReadable : State := keyed fun ch => ch.modOwner 2 fun o => { o with
  result := { o.result with head := 4096 }, trace := { o.trace with head := 4096 }, decant := { o.decant with head := 4096 } }

theorem witness_ResultRingCommandsComplete :
    every [
      (let s := keyed fun ch => { ch with completions := [aCompletion] }
       (s.chan 0).completions.find? (·.slot == 2) == some aCompletion && !(s.chan 0).waits aCompletion && s.chanUp 0),
      withBlocks.hostUp 0 && (((withBlocks.chan 0).owner 2).stream .result).sealedQ == [aBlock] &&
        (((withBlocks.chan 0).owner 2).ringOf .result).active && !(((withBlocks.chan 0).owner 2).ringOf .result).full &&
        (withBlocks.chan 0).dmaRuns .result 2 && !(resultBlocks.chan 0).traceAhead &&
        (((resultBlocks.chan 0).owner 2).stream .result).sealedQ == [aBlock],
      leaves (.traceRingTailWrite .window 0 2 4096) oneReadable fun t => ((t.chan 0).owner 2).trace.tail == 4096,
      leaves (.resultRingTailWrite .bar0 0 2 4096) oneReadable fun t => ((t.chan 0).owner 2).result.tail == 4096,
      leaves (.decantRingTailWrite .bar0 0 2 4096) oneReadable fun t => ((t.chan 0).owner 2).decant.tail == 4096,
      !(((oneReadable.access .bar0 0 (slotCopy 2 0x210)).chan 0).owner 2 |>.ringOf .result).tailOk 8192,
      !(((oneReadable.access .bar0 0 (slotCopy 2 0x410)).chan 0).owner 2 |>.ringOf .decant).tailOk 8192,
      (((oneReadable.access .window 0 (slotCopy 2 0x310)).chan 0).owner 2).trace.tailOk 4096,
      !(((oneReadable.access .window 0 (slotCopy 2 0x310)).chan 0).owner 2).trace.tailOk 8192] = true := by decide +kernel

/-- Channel 0 in the trace mode given. -/
def tracing (mode : Word) (f : Channel → Channel := id) : State := keyed fun ch => f (ch.put 0x300 2 mode)

/-- Slot 2 with a record in its open trace block and a byte in its open decant block since the reset. -/
def openBlocks : State :=
  let r : Rec := { type := 1, unit := 1, code := 0, t := 5, payload := 0, epoch := 0, owner := none, group := none
                   privileged := false, counters := false, only := none }
  { keyed fun ch => ch.modOwner 2 fun o => { o with ts := { o.ts with recs := [r] }, ds := { o.ds with buf := [1] } } with
    tclk := 1000000000 }

theorem witness_TraceCommandsComplete :
    every [
      takes up priv (chanIndex 7 0x300) 1 [0],
      takes up priv (chanIndex 7 0x300) 2 [1] && (up.chan 7).traceModeCheck 1 == 0,
      (let s := up0 fun ch => ch.put 0x300 1 0
       takes s priv (chanIndex 0 0x300) 2 [1] && (s.chan 0).traceModeCheck 1 != 0),
      ({ up with time := { up.time with t64 := BitVec.ofNat 64 (4 * span28 + 1), prev := BitVec.ofNat 64 (4 * span28 - 1) }
                 tclk := 7 } : State).periodicDue 0,
      (openBlocks.chan 0).flushDue openBlocks.tclk 2 false, (openBlocks.chan 0).flushDue openBlocks.tclk 2 true,
      (let s := { tracing 2 (fun ch => { (ch.put 0x300 8 2).modOwner 2 fun o => { o with trace := { o.trace with head := 61440 } }
                                         with chute := { ch.chute with fullSince := some 0 } }) with
         tclk := 1 + tclkOfMs (((tracing 2).chan 0).nat 0x300 9) }
       (s.chan 0).faithful == some 2 && (s.chan 0).chute.fullSince == some 0 && ((s.chan 0).owner 2).trace.full &&
         ((s.chan 0).owner 2).trace.active &&
         decide (0 + tclkOfMs ((s.chan 0).nat 0x300 9) < s.tclk)),
      ((tracing 1).chan 0).traceMode == 1 && (tracing 1).chanUp 0,
      leaves (.traceDisturbed 0 1) (tracing 1) fun t => (t.chan 0).chute.locked && bitOf ((t.chan 0).get 0x300 6) 1] = true := by
  decide +kernel

theorem witness_TraceRingCommandsComplete :
    every [
      keyed.hostUp 0,
      leaves (.traceRingDisable .window 0 2 false) keyed fun t => !((t.chan 0).owner 2).trace.enable,
      ((withBlocks.chan 0).owner 2).ts.sealedQ == [aBlock] && ((withBlocks.chan 0).owner 2).trace.active &&
        !((withBlocks.chan 0).owner 2).trace.full && (withBlocks.chan 0).dmaRuns .trace 2 && withBlocks.hostUp 0,
      (let s := withBlocks.modChan 0 fun ch => ch.modOwner 2 fun o => { o with trace := { o.trace with head := 61440 } }
       ((s.chan 0).owner 2).ts.sealedQ == [aBlock] && ((s.chan 0).owner 2).trace.full)] = true := by decide +kernel

/-- Channel 0 at a gather's time, every 1 ms, and its Tallyman's records. -/
def gatherNow (tally : List Rec) : State :=
  { up0 fun ch => { ch.put 0x200 1 1000 with chute := { ch.chute with tally := tally } } with
    time := { up.time with t64 := 5000001, prev := 4999999 }, tclk := 7 }

theorem witness_CounterCommandsComplete :
    every [
      takes up priv (chanIndex 7 0x278) 8 (leBytes 2 0x0900) && selectable 0x38 (w 0x0900).toNat,
      takes up priv (chanIndex 7 0x278) 1 (leBytes 2 0x0700) && !selectable 0x38 (w 0x0700).toNat,
      takes up priv (chanIndex 7 0x278) 0x18 (leBytes 8 (2 ^ 48 - 1)), takes up priv (chanIndex 7 0x278) 9 [255],
      broughtIn 0x10 0x0480 && !(up.chan 0).haltedUnit 0x10,
      (let it : CountItem := { unit := 0x38, event := 0x0900, stamp := 5, amount := 1 }
       ((up0 fun ch => { ch with countQ := [it] }).chan 0).countQ == [it]),
      (gatherNow []).gatherDue 0,
      (let r : Rec := { type := 5, unit := 1, code := 0, t := 5, payload := 0, epoch := 0, owner := none, group := none
                        privileged := false, counters := true, only := none }
       (gatherNow [r]).gatherDue 0 && ((gatherNow [r]).chan 0).chute.tally.any fun r => r.type == 5 && !bitOf r.payload 57),
      !bitOf (up.cget 0 0x203 0x0B) 0, bitOf ((up.corBits 0 0x203 0x0B 1).cget 0 0x203 0x0B) 0] = true := by decide +kernel

theorem witness_StocktakeCommandsComplete :
    every [
      up.hostUp 7, takes up priv (chanIndex 7 0x202) 4 [1], takes up priv (chanIndex 7 0x202) 5 [1],
      takes up priv (chanIndex 7 0x202) 1 [0x1F],
      takes up priv (chanIndex 7 0x202) 3 (leBytes 8 (up.now.toNat + 5)) && (up.chan 7).observed,
      takes (up0 fun ch => ch.put 0x300 1 0) priv (chanIndex 0 0x202) 3 (leBytes 8 5) && !((up0 fun ch => ch.put 0x300 1 0).chan 0).observed,
      (let s := up0 fun ch => { (ch.put 0x202 3 5).put 0x202 1 8 with st0 := { ch.st0 with st := 1, t64Armed := true } }
       (s.chan 0).st0.t64Armed && decide (((s.chan 0).get 0x202 3).toNat ≤ s.now.toNat) && (s.chan 0).mayFreezeAt &&
         s.chanUp 0 && leaves (.stocktakeT64Fire 0) s fun t => !(t.chan 0).st0.t64Armed && (t.chan 0).st0.st == 2)] = true := by
  decide +kernel

/-- The module's pins changed. -/
def pins (f : Pins → Pins) (tclk : Nat := 100) : State := { up with pins := f up.pins, tclk := tclk }

theorem witness_SyncCommandsComplete :
    every [
      up.live, (pins fun p => { p with holdoffEnd := some 500 }).pins.holdoffEnd != none, up.pins.holdoffEnd == none,
      leaves .syncInRise up fun t => t.pins.syncRise == some up.tclk && !t.pins.syncStop && !t.pins.syncIgnored,
      (pins fun p => { p with syncRise := some 0 }).pins.syncRise != none,
      leaves .syncInFall (pins fun p => { p with syncRise := some 90 }) fun t => t.pins.syncRise == none,
      leaves .syncInFall (pins fun p => { p with syncRise := some 90, syncStop := true }) fun t => !t.pins.syncStop,
      (let s := pins (fun p => { p with syncRise := some 76 })
       s.pins.syncRise == some 76 && !s.pins.syncStop && !s.pins.syncIgnored && decide (76 + 24 ≤ s.tclk)),
      (pins fun p => { p with holdoffEnd := some 100 }).pins.holdoffEnd == some 100,
      (pins fun p => { p with outEnd := some 100 }).pins.outEnd == some 100,
      takes up priv 0x4010 1 (leBytes 8 (up.now.toNat + 999999)) && decide (up.now.toNat + 999999 < up.now.toNat + 1000000),
      takes up priv 0x4010 1 (leBytes 8 (up.now.toNat + 1000000)),
      takes up priv 0x4010 3 [1],
      (let t := up.eachChan fun s c => s.modChan c (·.pendFreeze (max up.tclk up.time.nextSlot) true)
       !t.mon 0x4001 1),
      (let s := up.mput 0x4001 1 1
       let t := s.eachChan fun s c => s.modChan c (·.pendFreeze (max up.tclk up.time.nextSlot) true)
       t.mon 0x4001 1 && takes s priv 0x4010 3 [1])] = true := by decide +kernel

/-- Channel 0 with its stop machinery changed. -/
def stopping (f : Stop → Stop) : State := up0 fun ch => { ch with stop := f ch.stop }

theorem witness_StopCommandsComplete :
    every [
      ((stopping fun x => { x with st := 2 }).access .bar0 0 0x10).chan 0 |>.mayRelease,
      !((stopping fun x => { x with st := 1 }).access .bar0 0 0x10 |>.chan 0).mayRelease,
      takes up priv (chanIndex 7 0x400) 1 [1], takes up priv (chanIndex 7 0x400) 1 [2] && !(up.chan 7).mayRelease,
      takes (stopping fun x => { x with st := 2 }) priv (chanIndex 0 0x400) 1 [2],
      takes up priv 0x4020 2 [1], takes up priv 0x4020 2 [2] && (allChans.all fun c => (up.chan c).stop.st != 2),
      (let s := (stopping fun x => { x with st := 2 }).modChan 0 fun ch => { ch with tap := { ch.tap with partialScan := true } }
       takes s priv 0x4020 2 [2] && (s.chan 0).stop.st == 2 && !(s.chan 0).mayRelease),
      takes up priv (chanIndex 7 0x400) 9 (leBytes 8 (2 ^ 64 - 1)),
      (pins fun p => { p with stopNEnd := some 100 }).pins.stopNEnd == some 100,
      (let s := pins (fun p => { p with stopNLow := some 0 }) 5001
       s.pins.stopNLow == some 0 && decide (0 + tclkOfUs 10 < s.tclk) && s.reeveUp),
      (let s := up0 fun ch => { ch.put 0x400 9 5 with stop := { ch.stop with timeArmed := true } }
       (s.chan 0).stop.timeArmed && decide (((s.chan 0).get 0x400 9).toNat ≤ s.now.toNat) && s.chanUp 0 &&
         leaves (.stopTimeFire 0) s fun t => !(t.chan 0).stop.timeArmed),
      ((stopping fun x => { x with eventHit := true }).chan 0).stop.eventHit,
      ((stopping fun x => { x with st := 2 }).chan 0).stop.st == 2 && ((stopping fun x => { x with st := 2 }).chan 0).dmaHalted,
      (((stopping fun x => { x with st := 1 }).halted 0).chan 0).dbg.hang == none] = true := by decide +kernel

/-- The 24 clear bytes of a key blob of generation 1 for a channel and slot, its nonce all zeros. -/
def blobHead (c i : Byte) : Bytes := [1, c, i, 0, 1, 0, 0, 0] ++ zeros 16

/-- A key blob of generation 1 that the fused key-encryption key has sealed. -/
def blob (c i : Byte) : Bytes :=
  blobHead c i ++ (zeros 32 ++ gcmTag (roundKeys (keyBytes Config.kek)) (zeros 12) (blobHead c i) (zeros 32))

theorem blob_unwraps (c i : Byte) (h : (blob c i).length = 72) : ∃ k, unwrapKey (blob c i) = some k := by
  have hh : (blobHead c i).length = 24 := rfl
  have hz : (zeros 32).length = 32 := List.length_replicate ..
  have ht : (gcmTag (roundKeys (keyBytes Config.kek)) (zeros 12) (blobHead c i) (zeros 32)).length = 16 := by
    have := h
    unfold blob at this
    rw [List.length_append, List.length_append, hh, hz] at this
    omega
  have d24 : (blob c i).drop 24 =
      zeros 32 ++ gcmTag (roundKeys (keyBytes Config.kek)) (zeros 12) (blobHead c i) (zeros 32) := List.drop_left' hh
  have e2 : (blob c i).take 24 = blobHead c i := List.take_left' hh
  have e1 : slice (blob c i) 12 12 = zeros 12 := by
    have : slice (blob c i) 12 12 = ((blob c i).take 24).drop 12 := by rw [slice, List.drop_take]
    rw [this, e2]
    rfl
  have e3 : slice (blob c i) 24 32 = zeros 32 := by rw [slice, d24]; exact List.take_left' hz
  have e4 : slice (blob c i) 56 16 = gcmTag (roundKeys (keyBytes Config.kek)) (zeros 12) (blobHead c i) (zeros 32) := by
    have : (blob c i).drop 56 = ((blob c i).drop 24).drop 32 := by rw [List.drop_drop]
    rw [slice, this, d24, List.drop_left' hz, List.take_of_length_le (by omega)]
  unfold unwrapKey gcmOpen
  rw [e1, e2, e3, e4, if_pos rfl]
  exact ⟨_, rfl⟩

theorem blob_passes (t : BlobTarget) (c i : Byte) (h : (blob c i).length = 72) (hc : c.toNat = t.channel) (hi : i.toNat = t.slot)
    (hb : t.busy = false) (hf : t.floor = 0) : ∃ k, checkBlob t (blob c i) = .ok (k, 1) := by
  obtain ⟨k, hk⟩ := blob_unwraps c i h
  refine ⟨k, ?_⟩
  have f0 : leField (blob c i) 0 1 = 1 := rfl
  have f1 : leField (blob c i) 1 1 = c.toNat := by show c.toNat + 256 * 0 = _; omega
  have f2 : leField (blob c i) 2 1 = i.toNat := by show i.toNat + 256 * 0 = _; omega
  have f3 : leField (blob c i) 3 1 = 0 := rfl
  have f4 : leField (blob c i) 4 4 = 1 := rfl
  have f8 : leField (blob c i) 8 4 = 0 := rfl
  simp [checkBlob, h, f0, f1, f2, f3, f4, f8, hc, hi, hb, hf, hk]

/-- The access checks of a member pass. -/
def reaches (s : State) (p : Path) (idx sub : Nat) : Bool :=
  s.pathUp p && (match s.checkAccess p idx sub with | .ok _ => true | .error _ => false)

theorem witness_KeyAndCellarCommandsComplete_blobs :
    every [reaches up priv (chanIndex 7 (keyOff 2)) 2, reaches up priv 0x4040 4] = true ∧
    (∃ k, checkBlob { channel := 7, slot := 2
                      busy := ((up.chan 7).owner 2).st == .retiring || (up.chan 7).install.isSome
                      floor := (up.chan 7).nat 0x600 2 } (blob 7 2) = .ok (k, 1)) ∧
    (∃ k, checkBlob { channel := 0xFF, slot := 0xFF, busy := false, floor := up.mnat 0x4040 6 } (blob 0xFF 0xFF) = .ok (k, 1)) :=
  ⟨by decide +kernel,
   blob_passes _ _ _ (by decide +kernel) (by decide) (by decide) (by decide +kernel) (by decide +kernel),
   blob_passes _ _ _ (by decide +kernel) (by decide) (by decide) rfl (by decide +kernel)⟩

/-- Channel 0 with this debug state. -/
def debugging (f : Debug → Debug) (g : Channel → Channel := id) : State := up0 fun ch => g { ch with dbg := f ch.dbg }

/-- A hang of cause 2 whose dump is being written. -/
def aHang : Hang :=
  { cause := 2, unit := 0x40, detect := 5, at_ := 0, seq := 0, service := none, epoch := 0, slots := [], dumping := true }

theorem witness_HangCommandsComplete :
    every [
      up.chanUp 0 && !(up.chan 0).dumping && (up.chan 0).watched && up.hangHolds 0 2 && isChannelUnit 0x10,
      (let s := debugging (fun d => { d with hang := some aHang })
       (s.chan 0).dumping && s.chanUp 0 && s.reeveUp),
      up.reeveUp && (up.chan 7).watched && !(up.chan 7).dumping,
      (let s := debugging (fun d => { d with hang := some aHang, area := some 9 }) fun ch => { ch with stop := { ch.stop with st := 2 } }
       (s.chan 0).dbg.area == some 9 && !(s.chan 0).xtsFault && aHang.cause != 5 && (s.chan 0).stop.st == 2 && s.chanUp 0)] = true := by
  decide +kernel

/-- Channel 0's test port and Seal changed. -/
def tapping (f : Tap → Tap) : State := up0 fun ch => { ch with tap := f ch.tap }

theorem witness_ScanAndSealCommandsComplete :
    every [
      up.chanUp 7, (tapping fun t => { t with ir := opScanOut, ctl := .shiftDr }).chan 0 |>.tap.scanActive,
      (up.chan 0).tap.trst, !((tapping fun t => { t with trst := false }).chan 0).tap.trst,
      leaves (.scanShift 0 false true) (tapping fun t => { t with trst := false, ir := opScanOut, ctl := .shiftDr })
        fun t => (t.chan 0).tap.shifts == 1 && (t.chan 0).tap.ctl == .shiftDr,
      takes up priv (chanIndex 7 0x401) 2 (leBytes 2 0x5EA1),
      (let s : State := { tapping fun t => { t with guardEnd := some 0 } with reeve := { up.reeve with serviceKey := some 1 } }
       takes s priv (chanIndex 0 0x401) 3 [1] && (s.chan 0).tap.guardEnd == some 0 && decide (s.tclk ≤ 0) &&
         !(s.chan 0).tap.scanActive && s.reeve.serviceKey != none && (s.chan 0).tap.fuse == 0),
      takes up priv (chanIndex 7 0x401) 3 [1] && (up.chan 7).tap.guardEnd == none,
      takes up priv (chanIndex 7 0x402) 5 [1],
      ((tapping fun t => { t with senseAt := some 0 }).chan 0).tap.senseAt == some 0] = true := by decide +kernel

/-- A capture of owner 2. -/
def aCapture : Capture := { owner := 2, header := zeros 64, data := [1] }

theorem witness_DecantCommandsComplete :
    every [
      up.hostUp 0,
      (let s := running [] fun ch => 
         { ch.setPoint 7 { DecantPt.reset with armed := true, plan := 3, owner := 2 } with
           jobs := ch.jobs.map fun (j : Job) => { j with made := [(0, 5)] } }
       ((s.chan 0).jobs.find? fun j => j.running && ((s.chan 0).point 7).matchesJob j && !j.captured.contains 7).any (fun j =>
         (s.chan 0).windowDone ((s.chan 0).point 7) j) && !(s.chan 0).stopped && s.chanUp 0),
      (let s := keyed fun ch => { ch with dbg := { ch.dbg with caps := [none, some aCapture] } }
       (s.chan 0).dbg.caps[1]? == some (some aCapture) && ((s.chan 0).owner 2).decant.routing &&
         !((s.chan 0).owner 2).decant.full && !(s.chan 0).stopped && decide ((s.chan 0).decStaged + 64 + 1 ≤ 1048576)),
      (((resultBlocks.chan 0).owner 2).stream .decant).sealedQ == [aBlock] &&
        (((resultBlocks.chan 0).owner 2).ringOf .decant).active &&
        !(((resultBlocks.chan 0).owner 2).ringOf .decant).full && (resultBlocks.chan 0).dmaRuns .decant 2 &&
        !(resultBlocks.chan 0).traceAhead] = true := by decide +kernel

theorem witness_KeyAndCellarCommandsComplete :
    every [
      takes keyed priv (chanIndex 0 (keyOff 2)) 5 [1] && ((keyed.chan 0).owner 2).st == .keyed,
      takes up priv (chanIndex 0 (keyOff 2)) 5 [1] && ((up.chan 0).owner 2).st != .keyed,
      (let s := up0 fun ch => { ch.modOwner 2 fun o => { o with pendKey := some ⟨1, 1, 1⟩ } with install := some 2 }
       (s.chan 0).install == some 2 && ((s.chan 0).owner 2).pendKey == some ⟨1, 1, 1⟩),
      (let s := keyed fun ch => ch.modOwner 2 fun o => { o with st := .retiring }
       ((s.chan 0).owner 2).st == .retiring && (s.chan 0).openConditions 2 == 0 && ((s.chan 0).owner 2).pendKey == none &&
         (s.chan 0).fetching != some 2),
      (let s := keyed fun ch => ch.modOwner 2 fun o => { o with st := .retiring, pendKey := some ⟨1, 1, 1⟩ }
       (s.chan 0).openConditions 2 == 0 && ((s.chan 0).owner 2).pendKey != none && (s.chan 0).install == none),
      ((keyed.chan 0).owner 2).keyed && keyed.chanUp 0, keyed.hostUp 0,
      ((up0 fun ch => { ch with tagging := some (0, 1, 2) }).chan 0).tagging == some (0, 1, 2),
      !downCh.hostUp 0 && downCh.endpointUp 0,
      leaves (.bar4Read 0 0x700000000 4) up fun t => t.out.getLast? == some (.bar4 0 [0xFF, 0xFF, 0xFF, 0xFF])] = true := by
  decide +kernel

/-- Channel 0's host port changed. -/
def hosting (f : HostPort → HostPort) : State := up0 fun ch => { ch with host := f ch.host }

theorem witness_ResetAndLinkCommandsComplete :
    every [
      up.live && !up.perst && up.upLink && !(up.chan 7).host.linkDown,
      (let s := hosting fun h => { h with ready := false }
       !(s.chan 0).host.ready && !(s.chan 0).host.warmWaits),
      (let s := hosting fun h => { h with ready := false, warmWaits := true }
       !(s.chan 0).host.ready && (s.chan 0).host.warmWaits),
      State.reset.perst,
      (let s : State := { up with upLink := false }
       s.live && !s.upLink && !s.perst),
      ((hosting fun h => { h with linkDown := true }).chan 0).host.linkDown] = true := by decide +kernel

theorem witness_RegisterCommandsComplete :
    every [
      up.endpointUp 7, downCh.endpointUp 0, up.hostUp 7, up.pathUp priv, up.pathUp (.mailbox 7),
      (up.chan 0).st != .poweredDown && pairLo .bar0 0x08 && pairLo .window 0x100 && !pairLo .bar0 0x40,
      leaves (.pairLoRead .bar0 0 0 8 8) up fun t => (t.chan 0).host.latches.isEmpty,
      leaves (.pairLoRead .bar0 0 0 8 4) up fun t => (t.chan 0).host.latches.length == 1,
      takes up priv 0x1100 1 [9] && (placeOf 0x1100).any (fun pl => !isBlob pl 1 && (pl.member 1).any fun m =>
        (memberCommit pl m 1 [9] up).1 == 0),
      (ringAt 0x1FC).isSome && (basePair .bar0 0 0x1F0400).isSome,
      leaves (.registerWrite (.bar0 0 0x44 4 3)) up fun t => (t.chan 0).host.irqEnable == 3,
      leaves (.registerWrite (.bar0 0 0x46 4 3)) up fun t => (t.chan 0).host.irqEnable == 0] = true := by decide +kernel

/-- Channel 0's mailbox changed. -/
def mbx (f : Mailbox → Mailbox) : State := { hosting fun h => { h with mbx := f h.mbx } with tclk := 500000000 }

theorem witness_MailboxCommandsComplete :
    every [
      up.hostUp 0, (1 : BitVec 32).getLsbD 0,
      ((mbx fun m => { m with index := 0x1000000, len := 4096 }).mbx 0).opCode == 1,
      ((mbx fun m => { m with index := 0x1000000, len := 4096 }).mbx 0).fits,
      ((mbx fun m => { m with index := 0x2000000 }).mbx 0).opCode == 2, (up.mbx 0).opCode == 0, (up.mbx 0).fits,
      ((mbx fun m => { m with index := 0x3000000 }).mbx 0).opCode == 3,
      !((mbx fun m => { m with len := 4097 }).mbx 0).fits,
      ((mbx fun m => { m with op := some (true, some 0) }).mbx 0).op == some (true, some 0),
      (let x : Pend := { idx := 0x1020, sub := 1, data := [], deadline := 500000000 }
       ((mbx fun m => { m with pend := some x }).mbx 0).pend == some x && decide (x.deadline ≤ 500000000)),
      ((mbx fun m => { m with op := some (true, none) }).mbx 0).op == some (true, none) &&
        decide (((mbx id).mbx 0).since + tclkOfS 1 ≤ (mbx id).tclk),
      (let s := hosting fun h => { h with mir := h.mir.set 2 { Mirror.reset with busy := true, answer := some 0 } }
       (s.mirror 0 2).busy && (s.mirror 0 2).answer == some 0),
      ((mbx fun m => { m with busy := true }).mbx 0).busy] = true := by decide +kernel

/-- PLCA in the state given. -/
def plca (st : Word) (f : Plca → Plca := id) : State :=
  { up.mput 0x1101 1 st with plca := f up.plca, tclk := 5000000 }

/-- A beacon of an 8-node cycle, and an empty opportunity. -/
def beaconFacts : BeaconFacts := { nodeCount := 8, silentLocal := 25600 }
def emptyOpp : OppFacts := { carrierAtStart := false, usedBits := none, rxError := false, collision := false }

theorem witness_PlcaCommandsComplete :
    every [
      takes up priv 0x1100 1 [0], takes up priv 0x1100 1 [255], up.reeveUp,
      (let s := plca 5 fun x => { x with listenEnd := some 5000000, heard := true }
       s.plca.listenEnd == some 5000000 && s.plcaState == plcaStart && s.plca.heard),
      (let s := plca 6 fun x => { x with k := 8, prevEnd := 5000000 }
       s.plcaState == plcaCoordinator && decide (s.plca.nodeCount ≤ s.plca.k) && decide (s.plca.prevEnd ≤ s.tclk) &&
         leaves .beaconSend s fun t => t.out == s.out ++ [.beacon] && t.plca.k == 0),
      leaves (.beaconReceived beaconFacts) (plca 1) fun t => t.plcaState == plcaActive && t.plca.k == 0 && t.plca.seen == 8,
      leaves (.beaconReceived beaconFacts) (plca 6) fun t => t.plcaState == plcaListen && t.mget 0x1101 9 == 3,
      (plca 2).plcaState == plcaActive && decide ((plca 2).plca.lastBeacon + tclkOfMs 10 ≤ (plca 2).tclk),
      leaves .beaconTimeout (plca 2) fun t => t.plcaState == plcaWaiting && bitOf (t.mget 0x1101 8) 4,
      decide ((plca 2).oppStart ≤ (plca 2).tclk) && (plca 2).plca.seen == 0 && (plca 2).plca.k != (plca 2).mnat 0x1100 1,
      leaves (.opportunityStart emptyOpp) (plca 2) fun t => t.plca.k == 1 && t.plca.silent == 1] = true := by decide +kernel

theorem witness_EdgeYieldIsCounted :
    let s := (((plca 2).mput 0x1100 1 0).mput 0x1101 3 (2 ^ 32 - 2)).mput 0x1101 4 14
    every [
      s.reeveUp, s.plcaState == plcaActive, decide (s.oppStart ≤ s.tclk), s.plca.seen == 0, s.plca.k == s.mnat 0x1100 1,
      decide (s.mnat 0x1101 3 < 2 ^ 32 - 1), decide (s.mnat 0x1101 4 < 15),
      leaves (.opportunityStart { emptyOpp with carrierAtStart := true }) s fun t =>
        t.mnat 0x1101 3 == 2 ^ 32 - 1 && t.mnat 0x1101 4 == 15 && bitOf (t.mget 0x1101 8) 0 && t.plca.yielded && t.out == s.out]
      = true := by decide +kernel

/-- A time-launched frame that holds, and n that wait. -/
def holding (n : Nat) : State :=
  let b := zeros 6 ++ [0x08, 0x00] ++ zeros 6
  let f : TlFrame := { launch := up.now, bytes := b, released := none, late := false, sync := none }
  { up with reeve := { up.reeve with tlHeld := b }, tlq := List.replicate n f }

theorem witness_TimeLaunchedFramesComplete :
    every [
      takes up priv 0x1040 3 [1] && up.reeve.tlHeld.isEmpty,
      takes (holding 8) priv 0x1040 3 [1] && !(holding 8).reeve.tlHeld.isEmpty &&
        beField (holding 8).reeve.tlHeld 6 2 == 0x0800 && (holding 8).mnat 0x1010 2 == 0x88B5 && (holding 8).tlEntries == 8,
      (holding 7).tlEntries == 7, takes up priv 0x1040 3 [2],
      (holding 1).plca.ownOpen == none &&
        ((holding 1).tlq.any fun f => f.released.isNone && decide (f.launch.toNat ≤ (holding 1).now.toNat)),
      (let s : State := { holding 1 with tlq := (holding 1).tlq.map fun f => { f with released := some 0 }, tclk := tclkOfS 1 }
       s.tlq.any fun f => f.released == some 0 && decide (0 + tclkOfS 1 ≤ s.tclk) &&
         leaves .tlFrameTimeout s fun t => !t.tlq.contains f && bitOf (t.mget 0x1101 8) 6)] = true := by decide +kernel

/-- A frame of 64 bytes to an address with an Ethertype. -/
def frame (dst : Bytes) (ethertype : Nat) : Frame :=
  let b := dst ++ beBytes 6 0x0200000000AA ++ beBytes 2 ethertype ++ zeros 46
  b ++ leBytes 4 (crc32 b).toNat

theorem witness_FieldFramesAreFiltered :
    every [
      up.reeveUp, parseFrame (frame discoveryMac 0x88B5).dropLast == none,
      (parseFrame (frame (zeros 6) 0x88B5)).any fun f => !up.forModule f.dst,
      (parseFrame (frame discoveryMac 0x0800)).any fun f => up.forModule f.dst && f.ethertype == 0x0800 &&
        (up.mcount 0x1010 3 1).mnat 0x1010 2 == 0x88B5,
      (parseFrame (frame discoveryMac 0x88B5)).any fun f => up.forModule f.dst && f.ethertype == 0x88B5,
      up.tlxFrom (.network 1), decide (up.reeve.factory.serial.length ≤ 16)] = true := by decide +kernel

theorem witness_IdentifyInListenOnlyGetsNoAnswer : (plca 4).plcaState = plcaListen := by decide +kernel

theorem witness_NoSessionHasNoOtherEffect :
    up.tlxFrom (.network 1) = true ∧ ∀ k : Fin 32, (up.session k).bound up.tclk (.network 1) 5 = false := by decide +kernel

theorem witness_SessionIdsAreFreshAndInOrder :
    [(0xFFFF : BitVec 16), 1].length ≤ 32 ∧ 1 < (sidFrom [0xFFFF, 1] 0xFFFF 64 - 0xFFFF).toNat ∧
      sidFrom [0xFFFF, 1] 0xFFFF 64 = 2 := by decide

/-- The request is new to its session. -/
def fresh (s : State) (k : Fin 32) (tid : BitVec 16) : Bool :=
  match (s.session k).last with | some x => x.1 != tid | none => true

theorem fresh_newRequest {s : State} {k : Fin 32} {tid : BitVec 16} (h : fresh s k tid = true) : newRequest s k tid := by
  intro x hx
  simpa [fresh, hx] using h

/-- Session 0, ID 5, from partner 1, changed by f; an access key where `keyed`. -/
def talking (f : Session → Session) (key : Option Bytes := none) : State :=
  let x : Session := { Session.reset with
    st := .opened, sid := 5, src := .network 1, role := .privileged, leaseEnd := tclkOfS 10 }
  { (up.mput 0x1100 1 3).mput 0x1101 1 2 with
    sessions := up.sessions.set 0 (f x), reeve := { up.reeve with accessKey := key }, usb := { up.usb with attached := true, configured := true } }

/-- Every session slot taken but the last. -/
def crowded : State := { talking id with sessions := Vector.ofFn fun k : Fin 32 =>
  if k = 31 then Session.reset else ((talking id).session 0) }

theorem witness_OpenAndAuthComplete :
    every [
      (talking id).tlxFrom (.network 1), (talking id).tlxFrom .usbBulk, (talking id).tlxFrom .usbControl,
      (allSessions.find? fun k => (crowded.session k).st == .closed) == some 31,
      leaves (.tlxOpen (.network 1) 9 0) crowded fun t => (t.session 31).st == .opened && (t.session 31).role == .reader &&
        (t.session 31).leaseEnd == tclkOfS 10 && (t.session 31).sid == 1,
      (talking id (some (zeros 32))).reeve.accessKey != none, (talking id).reeve.accessKey == none, !onUsb (.network 1), onUsb .usbBulk,
      leaves (.tlxOpen (.network 1) 9 2) (talking id (some (zeros 32))) fun t => (t.session 1).st == .authWait &&
        (t.session 1).leaseEnd == tclkOfS 1 && (t.session 1).role == .privileged,
      leaves (.tlxOpen .usbBulk 9 2) (talking id) fun t => (t.session 1).st == .opened && (t.session 1).role == .privileged,
      (let s := talking (fun x => { x with st := .authWait }) (some (zeros 32))
       s.findSession (.network 1) 5 (· != .closed) == some 0 && (s.session 0).st == .authWait && fresh s 0 9)] = true := by
  decide +kernel

theorem witness_OpenAndAuthComplete_wrongProof (s : State) (x : Session) : ∃ proof, proof ≠ s.proofOf x :=
  ⟨s.proofOf x + 1, by
    intro h
    have := congrArg BitVec.toNat h
    simp [BitVec.toNat_add] at this
    omega⟩

theorem witness_SessionRequestsComplete :
    every [
      (talking id).tlxFrom (.network 1), (talking id).findSession (.network 1) 5 isOpened == some 0, fresh (talking id) 0 9,
      !knownServices.contains (0x3F % 64), decide (8 ≤ (8 : Byte).toNat),
      (let u : Sub := { handle := 7, idx := 0x3000, sub := 1, periodic := false, minMs := 1, periodMs := 0, lastSent := none
                        lastValue := [], dirty := false }
       let s := talking fun x => { x with subs := [u], last := some (8, []) }
       ((s.renew 0).session 0).subs.contains u && u.handle.val == (7 : Byte).toNat && fresh s 0 9),
      (match ((talking id).renew 0).readMember (.tlx .privileged) 0x1000 3 with
       | .ok (m, v) => decide ((tlxBytes m v).length = 9) | .error _ => false),
      (let s : State := { talking id with reeve := { up.reeve with tlHeld := zeros 1025 } }
       match (s.renew 0).readMember (.tlx .privileged) 0x1040 2 with
       | .ok (m, v) => decide ((tlxBytes m v).length = 1025) | .error _ => false),
      (match ((talking id).renew 0).readMember (.tlx .privileged) 0x0FFF 0 with | .ok _ => false | .error e => e == abortNotFound),
      (let s := (talking fun x => { x with copy := some (zeros 1025) }).renew 0
       (s.session 0).copy == some (zeros 1025) && decide (1024 < 1025) && decide (1025 ≤ 1025)),
      (((talking id).renew 0).session 0).copy == none, decide ((zeros 2048).length ≤ 1024 * 2)] = true := by decide +kernel

theorem witness_RepeatedRequestsAreNotExecutedAgain :
    let s := talking fun x => { x with last := some (9, [1]) }
    every [s.tlxFrom (.network 1), s.findSession (.network 1) 5 isOpened == some 0, (s.session 0).last == some (9, [1])] = true := by
  decide +kernel

/-- A write held with 3 bytes. -/
def heldWrite : Pend := { idx := 0x1040, sub := 2, data := [1, 2, 3], deadline := 7 }

theorem witness_WriteSegmentsFollowTheCommitRule :
    every [
      ((talking id).session 0).pend == none,
      ((talking fun x => { x with pend := some heldWrite }).session 0).pend == some heldWrite,
      decide (4 ≠ heldWrite.data.length) && decide (3 = heldWrite.data.length), heldWrite.idx == 0x1040 && heldWrite.sub == 2,
      decide (heldWrite.data.length + 1024 ≤ 16777216), decide ([1, 2].length ≤ 1024)] = true := by decide +kernel

theorem witness_WriteSegmentsFollowTheCommitRule_long : ∃ x : Pend, 16777216 < x.data.length + [(1 : Byte)].length :=
  ⟨{ heldWrite with data := List.replicate 16777216 0 }, by
    simp only [List.length_replicate]
    decide⟩

/-- A notification without an acknowledge. -/
def aNotice (tries : Nat) : Unacked := { seq := 1, bytes := [1], retryAt := 0, tries := tries }

/-- A subscription on the time state. -/
def aSub : Sub :=
  { handle := 7, idx := 0x3000, sub := 1, periodic := false, minMs := 1, periodMs := 0, lastSent := none, lastValue := [7]
    dirty := true }

theorem witness_SubscriptionsComplete :
    every [
      (talking id).findSession (.network 1) 5 isOpened == some 0 && fresh (talking id) 0 9,
      (match ((talking id).renew 0).readMember (.tlx (((talking id).renew 0).session 0).role) 0x3000 1 with
       | .ok (m, _) => subscribeCheck m 0 1 0 == 0 && subscribeCheck m 0 60000 0 == 0 && subscribeCheck m 0 0 0 != 0
       | .error _ => false),
      (((talking id).renew 0).session 0).freeHandle == some 0, decide (((talking id).renew 0).subsHeld < 64),
      (let s := talking fun x => { x with subs := [aSub], unacked := List.replicate 15 (aNotice 0) }
       s.reeve.powered && s.reeve.running && (s.session 0).st == .opened &&
         ((s.session 0).subs.find? fun (u : Sub) => u.handle == 7) == some aSub && decide ((s.session 0).unacked.length < 16) &&
         (match s.readMember (.tlx (s.session 0).role) aSub.idx aSub.sub with
          | .ok (m, v) => aSub.due s.tclk (tlxBytes m v) | .error _ => false)),
      ((talking fun x => { x with subs := [aSub], unacked := List.replicate 16 (aNotice 0) }).session 0).unacked.length == 16,
      (let s := talking fun x => { x with unacked := [aNotice 3] }
       ((s.session 0).unacked.find? fun (n : Unacked) => decide (n.retryAt ≤ s.tclk)) == some (aNotice 3) &&
         s.plcaState != plcaListen),
      (let s := talking fun x => { x with unacked := [aNotice 2] }
       ((s.session 0).unacked.find? fun (n : Unacked) => decide (n.retryAt ≤ s.tclk)) == some (aNotice 2)),
      (let s := talking fun x => { x with leaseEnd := 0 }
       (s.session 0).st != .closed && decide ((s.session 0).leaseEnd ≤ s.tclk)),
      (let s := talking fun x => { x with st := .authWait, leaseEnd := 0 }
       (s.session 0).st == .authWait && decide ((s.session 0).leaseEnd ≤ s.tclk)),
      (let s : State := { talking fun x => { x with pend := some heldWrite } with tclk := 7 }
       (s.session 0).pend == some heldWrite && decide (heldWrite.deadline ≤ s.tclk))] = true := by decide +kernel

theorem witness_PersistenceCommandsComplete :
    every [
      (let s := up.markSaved
       s.reeveUp && bitOf (s.mget 0x1020 2) 0 && s.reeve.saveDue.isSome),
      takes up priv 0x1020 1 (leBytes 2 0xD0F1), takes up priv 0x1020 1 (leBytes 2 0), takes up priv 0x1020 2 [2],
      takes up priv 0x1200 3 (zeros 32), takes up priv 0x1010 2 (leBytes 2 0x88B6),
      bitOf ((up.morBits 0x1020 2 2).mget 0x1020 2) 1,
      (DictMap.lookupModule 0x1100 1).any fun m => m.pers == .s && lengthOk m 1 && valueOk m [9] (m.ty.decode [9]) &&
        boundsOk m (m.ty.decode [9])] = true := by decide +kernel

/-- Channel 0's Governor changed. -/
def governed (f : Gov → Gov) (tclk : Nat := 1000000) : State :=
  { up0 fun ch => { ch.put 0x700 1 1000 with gov := f ch.gov } with tclk := tclk }

theorem witness_PowerCommandsComplete :
    every [
      up.reeveUp, leaves .supplyUndervoltage up fun t => t.reeve.underDown, (up.chan 7).st != .poweredDown && up.chanUp 7,
      ((governed id).chan 0).freq != 0,
      (let s := governed fun g => { g with change := some (.voltage 1500 1000000) }
       (s.chan 0).gov.change == some (.voltage 1500 1000000) && decide (1000000 ≤ s.tclk)),
      (let s := governed fun g => { g with change := some (.glide 1000 1025 999500) }
       (s.chan 0).gov.change == some (.glide 1000 1025 999500) && decide (999500 + 20 * apart 1000 1025 ≤ s.tclk)),
      (let s := governed fun g => { g with change := some (.relock 1000 1500 994000 none 2) }
       (s.chan 0).gov.change == some (.relock 1000 1500 994000 none 2) && decide (994000 + tclkOfUs (4 * (2 + 1)) ≤ s.tclk)),
      (let s := governed fun g => { g with change := some (.relock 1000 1500 0 (some 999000) 3) }
       (s.chan 0).gov.change == some (.relock 1000 1500 0 (some 999000) 3) && decide (999000 + tclkOfUs 2 ≤ s.tclk)),
      takes up priv (chanIndex 7 0x700) 5 (leBytes 2 600), takes up priv (chanIndex 7 0x700) 4 (leBytes 2 1500),
      ((governed fun g => { g with newShare := some 0 }).chan 0).gov.newShare == some 0] = true := by decide +kernel

/-- A mission profile of one entry. -/
def profile (share : Nat) : Bytes :=
  [1, 1, 0, 0] ++ leBytes 2 8784 ++ zeros 2 ++ leBytes 2 share ++ leBytes 2 1500 ++ [115, 0] ++ zeros 10

/-- Midnight of 2000-01-02 UTC. -/
def midnight : State := { up with time := { up.time with t64 := BitVec.ofNat 64 ((946684800 + 86400 + 37) * 1000000000) } }

theorem witness_ThermalAndWearCommandsComplete :
    every [
      up.live && (up.chan 7).st != .poweredDown, (downCh.chan 0).st == .poweredDown,
      leaves (.sensorFault 0 6) up fun t => (t.chan 0).gov.failed.getLsbD 6 && !(t.chan 1).gov.failed.getLsbD 6,
      (let s : State := { up0 fun ch => { ch with st := .poweredDown, reason := 0x20, steward := false, gov := { ch.gov with coolSince := some 0 } } with
         tclk := tclkOfS 10 }
       s.reeveUp && s.mayPowerUp 0 && leaves (.channelPowerUp 0) s (fun t => (t.chan 0).st == .booting) &&
         leaves (.thermalRecovery 0) s fun t => (t.chan 0).st == .booting),
      (let s : State := { up0 fun ch => { ch with st := .poweredDown, reason := 0x21, steward := false, gov := { ch.gov with coolSince := some 0 } } with
         tclk := tclkOfS 10 }
       s.mayPowerUp 0 && leaves (.thermalRecovery 0) s fun t => (t.chan 0).st == .booting),
      leaves (.wearMeasurement 0 (none :: List.replicate 15 (some (-2000))) 3) up fun t =>
        (t.chan 0).guardBand == 100 && (t.chan 0).gov.wear.excluded == 1,
      leaves (.wearMeasurement 0 (List.replicate 16 none) 3) up fun t => (t.chan 0).guardBand == 0,
      slowestRing 0 (some (-90000) :: List.replicate 15 (some 7)) == some (-90000) &&
        slowestRing 1 (some (-90000) :: List.replicate 15 (some 7)) == some 7,
      leaves (.wearAccrual 0) up fun t => (t.chan 0).gov.wear.opSeconds == 1,
      takes up priv 0x2060 5 (profile 1000) && profileOk (profile 1000), takes up priv 0x2060 5 (profile 999) && !profileOk (profile 999),
      midnight.utcNow.2 == 0 && midnight.reeve.wearDay != midnight.utcNow.1,
      leaves .wearDaily midnight fun t => t.reeve.wearDay == midnight.utcNow.1] = true := by decide +kernel

/-- The module without power, and with the Reeve away. -/
def dark : State := { up with reeve := { up.reeve with powered := false, running := false } }
def away : State := { up with reeve := { up.reeve with running := false } }

/-- The flash with no valid Reeve image. -/
def noImages (s : State) : State :=
  { s with reeve := { s.reeve with flash := { s.reeve.flash with reeveA := { hdr := none, valid := false } } } }

/-- Channel 0 BOOTING, its Steward up where `steward`. -/
def booting (steward : Bool) : State := up0 fun ch => { ch with st := .booting, steward := steward }

/-- The update status and what is held changed. -/
def updating (st : Nat) (held : Option ImageHdr) (writing : Bool := false) : State :=
  let s := up.setUpd st
  { s with reeve := { s.reeve with update := { held := held, writing := writing }, flash := { s.reeve.flash with reeveB := s.reeve.flash.reeveA } } }

theorem witness_StartUpCommandsComplete :
    every [
      up.reeve.powered, !dark.reeve.powered && ((dark.powered []).readSelector true).romChoice == some (false, false),
      (((noImages dark).powered []).readSelector true).romChoice == none, up.reeveUp,
      (noImages away).live && !away.reeve.running && ((noImages away).readSelector true).romChoice == none,
      away.live && (away.readSelector true).romChoice == some (false, false) && (((((away.readSelector true).runReeve false).startField).moduleEvent
         { unit := 0xF0, num := 0x1000, pay := payAt 8 2 }).time.ts == .freeRun),
      leaves (.reeveReturn false) { away with time := { away.time with ts := .locked } } fun t => t.time.ts == .holdover,
      (booting false).reeveUp && ((booting false).chan 0).st == .booting && !((booting false).chan 0).steward &&
        (((booting false).banksToTry 0).find? fun b => (booting false).bankCode 0 (if b then true else false) b == 0) == some false,
      (((booting false).banksToTry 0).find? fun b => (booting false).bankCode 0 (if b then true else true) b == 0) == none,
      ((booting true).chan 0).steward && (booting true).chanUp 0, selfTestReasons.contains reasonHbm,
      takes (booting true) priv (chanIndex 0 0) 7 [2] && ((booting true).chan 0).st == .booting,
      leaves (.stewardBankRequest priv 0 2) (booting true) fun t => t.out.getLast? == some (.answer 0),
      takes up priv 0x1030 1 [1] && !up.updBusy, takes up priv 0x1030 2 (zeros 256) && !up.updBusy,
      (let s := updating updHeld up.reeve.image
       takes s priv 0x1030 3 [1] && !s.updBusy && s.reeve.update.held != none),
      takes up priv 0x1030 3 [1] && up.reeve.update.held == none,
      (let s := updating updHeld up.reeve.image true
       s.reeve.update.writing && leaves (.bankWriteComplete true) s (fun t => !t.reeve.update.writing && t.updStatus == updWritten)),
      takes (updating updWritten none) priv 0x1030 3 [2] && activateOk (updating updWritten none),
      takes up priv 0x1030 3 [2] && !activateOk up,
      takes (updating updWritten none) priv 0x1030 3 [3] && fallBackOk (updating updWritten none)] = true := by decide +kernel

/-- A USB host attached, with a PDU in each queue. -/
def usbUp : State := { up with usb := { up.usb with attached := true, configured := true, ctlQ := [[1]], bulkQ := [[2]] } }

theorem witness_UsbCommandsComplete :
    every [
      up.reeve.powered, usbUp.usbServes, decide (12 ≤ (zeros 12).length) && decide ((zeros 1052).length ≤ 1052),
      decide (11 < 12) && decide (1052 < 1053), usbUp.usb.ctlQ == [[1]], ({ usbUp with usb := { usbUp.usb with ctlQ := [] } } : State).usbServes,
      usbUp.usb.configured && !usbUp.usb.haltOut && !usbUp.usb.haltIn && usbUp.usb.bulkQ == [[2]], usbUp.usbAnswers,
      decide (127 < 128), usbUp.usb.attached] = true := by decide +kernel

/-- A measurement whose last probe falls due, or awaits its echo. -/
def measuring (probe : Option (T64 × Word × Nat)) : State :=
  { up0 fun ch => (ch.put (portOff 2) 1 1).put (portOff 2) 2 3 with
    align := { up.align with running := true, x := 15, probe := probe } }

theorem witness_AlignmentCommandsComplete :
    every [
      takes up priv 0x4030 2 [1] && !up.align.running, takes (measuring none) priv 0x4030 2 [1] && (measuring none).align.running,
      (measuring none).reeveUp && decide ((measuring none).align.x < 16) && (measuring none).align.probe == none &&
        decide ((measuring none).align.nextProbe ≤ (measuring none).tclk),
      leaves .probeSend (measuring none) fun t => t.align.x == 16 && t.align.probe == some (up.now, 0, tclkOfUs 10),
      ((measuring none).chan alignChan).portUp alignPort, (measuring (some (5, 0, 0))).align.probe == some (5, 0, 0),
      up.chanUp 0, decide ((5 : T64).toNat < 2 ^ 62)] = true := by decide +kernel

theorem witness_ChannelCommandsLeaveOtherChannels :
    ofOneChannel (.tapReset 3 false) = some 3 ∧ leaves (.tapReset 3 false) up (fun t => t.chan 0 == up.chan 0) = true := by decide +kernel

theorem witness_NetworkCommandsLeaveChannels :
    every [ofNetwork .usbPortInfo, leaves .usbPortInfo usbUp fun t => t.out.length == 1] = true := by decide +kernel

/-- The cells of the test state are canonical. -/
theorem withCells_wf : memoryWf withCells := by
  have h : (allChans.all fun c => memWf (withCells.chan c).cellar && memWf (withCells.chan c).larder) = true := by decide +kernel
  intro c
  have hc : c ∈ allChans := by revert c; decide
  simpa using List.all_eq_true.mp h c hc

theorem witness_Bar4WriteChangesOnlyItsUnits :
    memoryWf withCells ∧
    leaves (.bar4Write 0 64 (zeros 64)) withCells (fun t => (t.chan 0).larder == [(0, 9)] && memGet (t.chan 0).cellar 5 == 1) = true :=
  ⟨withCells_wf, by decide +kernel⟩

/-! ## Ill-formed commands are refused -/

theorem test_wellFormed_refuses_lengths :
    [ wellFormed (.trainingBlockReceived 0 0 [] 0), wellFormed (.flitReceived 0 0 { flit 1 1 0 with payload := zeros 239 }),
      wellFormed (.descriptorFetched 0 (.good (zeros 31))), wellFormed (.temperatureSample 0 [1, 2, 3, 4, 5] 0),
      wellFormed (.fieldFrameReceived (zeros 1523)), wellFormed (.tlxWrite .usbBulk 1 1 0x1020 1 true 0 (zeros 1025)),
      wellFormed (.allocationTick 0 [0]), wellFormed (.probeReceived 0 0 (zeros 241)), wellFormed (.echoReceived (zeros 241)),
      wellFormed (.tileRetire 0 0 [.vector 0 (.hatch 0) .int8 129])].any id
      = false := by decide +kernel

theorem test_wellFormed_refuses_ranges :
    [ wellFormed (.bar4Write 0 (2 ^ 36 - 3) (zeros 4)), wellFormed (.bar4Read 0 (2 ^ 36 - 3) 4),
      wellFormed (.registerWrite (.bar0 0 0 3 0)), wellFormed (.registerWrite (.bar0 0 (2 ^ 25 - 3) 4 0)),
      wellFormed (.registerWrite (.window 0 0 (2 ^ 16 - 3) 4 0)), wellFormed (.registerWrite (.dict priv 0x10000 0 [])),
      wellFormed (.registerWrite (.dict priv 0 256 [])), wellFormed (.beaconReceived { nodeCount := 256, silentLocal := 0 }),
      wellFormed (.tlxRead .usbBulk 1 1 0x10000 0), wellFormed (.tlxReadSegment .usbBulk 1 1 (2 ^ 32)),
      wellFormed (.tlxSubscribe .usbBulk 1 1 0 0 0 (2 ^ 16) 0), wellFormed (.tlxUnknownService .usbBulk 1 1 64),
      wellFormed (.modulePowerOn [9] false), wellFormed (.usbTlxSend (2 ^ 16) []), wellFormed (.usbTlxReceive (2 ^ 16)),
      wellFormed (.usbStandardRequest 256 0 0 0), wellFormed (.usbStandardRequest 0 0 (2 ^ 16) 0),
      wellFormed (.pairLoRead .window 0 0 (2 ^ 16) 4), wellFormed (.pairLoRead .bar0 0 0 (2 ^ 25) 4),
      wellFormed (.pairLoRead .bar0 0 0 0 3), wellFormed (.wearMeasurement 0 [some 0] 0),
      wellFormed (.trigPeriodWidthWrite priv 0 0 true 0x10000)].any id = false := by decide +kernel

theorem test_wellFormed_refuses_long_values (b : Bytes) (h : 16777216 < b.length) :
    wellFormed (.keyBlobWrite priv 0 0 b) = false ∧ wellFormed (.registerWrite (.dict priv 0 0 b)) = false := by
  simp [wellFormed, targetOk, memberOk]
  omega

theorem test_wellFormed_takes_the_limits :
    [ wellFormed (.bar4Write 0 (2 ^ 36 - 4) (zeros 4)), wellFormed (.registerWrite (.bar0 0 (2 ^ 25 - 8) 8 0)),
      wellFormed (.tlxUnknownService .usbBulk 1 1 63), wellFormed (.trigPeriodWidthWrite priv 0 0 true 0xFFFF),
      wellFormed (.tileRetire 0 0 [.vector 0 (.hatch 0) .int8 128]),
      wellFormed (.trigPeriodWidthWrite priv 0 0 false 0xFFFFFFFF)].all id = true := by decide +kernel

/-! ## Results that the manual, or a standard it names, gives -/

/-- The check value of IEEE 802.3 CRC-32: that of the digits 1 to 9. -/
theorem test_crc32_check_value : crc32 ((List.range 9).map fun i => BitVec.ofNat 8 (0x31 + i)) = 0xCBF43926 := by decide +kernel

/-- The AES-256 example vector of FIPS 197. -/
theorem test_aes256_example :
    aesBlock (roundKeys ((List.range 32).map (BitVec.ofNat 8 ·))) ((List.range 16).map fun i => BitVec.ofNat 8 (17 * i)) =
      beBytes 16 0x8ea2b7ca516745bfeafc49904b496089 := by decide +kernel

/-- The tag of GCM over nothing under a zero key and nonce. -/
theorem test_gcm_empty_tag : (gcmSeal (zeros 32) (zeros 12) [] []).2 = beBytes 16 0x530f8afbc74536b9a963b4f1c4cb738b := by
  decide +kernel

/-- AES-256-CMAC of the empty message, the example of SP 800-38B. -/
theorem test_cmac_empty :
    cmac (beBytes 32 0x603deb1015ca71be2b73aef0857d77811f352c073b6108d72d9810a30914dff4) [] =
      beBytes 16 0x028962f61b7bf89efc6b551f4667d983 := by decide +kernel

/-- R38: one edge adds the increment, with the carry of the fraction. -/
theorem test_tick_carries : (TimeBase.tick { TimeBase.reset with t64 := 10, frac := 0xFFFFFFFF, incr := 0x200000001 }).t64 = 13 := by
  decide +kernel

/-- R50, R31: a step written in mode 1 waits for the slot and leaves the fraction. -/
theorem test_step_leaves_fraction :
    ({ TimeBase.reset with t64 := 10, frac := 7 }.applyLoad 0 (.step (-4))).t64 = 6 ∧
    ({ TimeBase.reset with t64 := 10, frac := 7 }.applyLoad 0 (.step (-4))).frac = 7 := by decide +kernel

/-- R62: the distance from the nearest whole second. -/
theorem test_phase_error : phaseError 999999999 = -1 ∧ phaseError 500000000 = -500000000 ∧ phaseError 499999999 = 499999999 := by
  decide +kernel

/-- R8: a TIME80 of 1 s and 5 ns. -/
theorem test_time80 : t64OfTime80 0x100000005 = 1000000005 := by decide +kernel

/-- R48: 16 ns and 20 cycles at 1000 MHz are 36 ns. -/
theorem test_launch_offset : launchOffset 1000 = 36 ∧ launchOffset 1500 = 29 := by decide

/-- R90: 1000 cycles at 600 MHz are 1,667 ns, rounded up. -/
theorem test_contract : contractNs 1000 600 = 1667 := by decide

/-- R75: -1 times 2 and 3 times 4 in INT8. -/
theorem test_loom_int8 : loomColumn .int8 .int8 true 0 [0xFF, 3] [2, 4] = 10 := by decide +kernel

/-- R112, R125: e^x of the largest finite numbers overflows, or is 0. -/
theorem test_exp_of_huge_numbers : stillExp (fp32 0x7F7FFFFF) = .inf false ∧ stillExp (fp32 0xFF7FFFFF) = .val false 0 := by
  decide +kernel

/-- R19: the board ring closes from channel 7 to channel 0. -/
theorem test_ring_closes : ringPeer 7 1 = some (0, 0) ∧ ringPeer 0 0 = some (7, 1) ∧ ringPeer 3 2 = none := by decide

/-- R82: byte k of a flit travels on lane k mod 4. -/
theorem test_lanes : laneBytes [10, 11, 12, 13, 14, 15] 1 = [11, 15] := by decide +kernel

/-- The Gregorian calendar: day 11,016 is 29 February 2000. -/
theorem test_leap_day : civilOfDay 11016 = (2000, 2, 29) := by decide +kernel

/-- R355, R361: a write by a READER is denied. -/
theorem test_reader_may_not_write : leaves (.nodeIdWrite (.tlx .reader) 9) up (fun t =>
    t.out == [.answer abortDenied] && t.mnat 0x1100 1 == 255) = true := by decide +kernel

/-- R311: node ID 0 listens before it beacons, 255 is unassigned. -/
theorem test_node_ids :
    leaves (.nodeIdWrite priv 0) up (fun t => t.plcaState == plcaStart && t.plca.listenEnd == some 5000000) = true ∧
    leaves (.nodeIdWrite priv 255) up (fun t => t.plcaState == plcaUnassigned) = true := by decide +kernel

/-- R191: a pulse of 24 edges is a stop; one edge less is not. -/
theorem test_sync_stop :
    leaves .syncStopRecognised (pins fun p => { p with syncRise := some 76 }) (fun t => t.pins.syncStop) = true ∧
    leaves .syncStopRecognised (pins fun p => { p with syncRise := some 77 }) (fun t => !t.pins.syncStop) = true := by decide +kernel

/-- R281: a function of a channel without power reads as all ones in BAR4. -/
theorem test_bar4_ones : leaves (.bar4Read 0 0 4) downCh (fun t => t.out == [.bar4 0 (ones 4)]) = true := by decide +kernel

/-- R216: from Shift-DR, two edges with TMS high and one low after Exit1-DR reach Run-Test/Idle. -/
theorem test_tap_path : TapSt.next (TapSt.next (TapSt.next .shiftDr true) true) false = .runTestIdle := by decide

/-- R286: a tail outside the ring sets TAIL_ERR and is not taken. -/
theorem test_doorbell_outside : leaves (.jobRingDoorbell .window 0 2 64) keyed (fun t =>
    ((t.chan 0).owner 2).job.tailErr && ((t.chan 0).owner 2).job.tail == 1) = true := by decide +kernel

/-- A step takes the front command and leaves the rest. -/
theorem test_step_takes_front :
    (match step { usbUp with pending := [.usbBulkIn, .usbPortInfo] } with
     | .next t => t.pending == [.usbPortInfo] && t.out == [.usb [2]] | .fault _ => false | .refused _ => false) = true := by
  decide +kernel

/-- The opcode table gives its rows no bits, so no word spells a command. -/
theorem test_no_word_spells_a_command : decodeTableWord 16 0 = none := rfl

end Sys2Proof.Tests
end

section
/-! SUPPORT. Numbers as bytes in both orders (R7, R326), and TLX's bytes of a fixed-length type (R353). -/

namespace Sys2Proof.Laws

open Sys2Proof Sys2Proof.Machine

@[simp] theorem length_leBytes (n v : Nat) : (leBytes n v).length = n := by
  induction n generalizing v with
  | zero => rfl
  | succ k ih => simp [leBytes, ih]

@[simp] theorem leNat_leBytes (n v : Nat) : leNat (leBytes n v) = v % 256 ^ n := by
  induction n generalizing v with
  | zero => simp [leBytes, leNat, Nat.mod_one]
  | succ k ih => rw [leBytes, leNat, ih, BitVec.toNat_ofNat, Nat.pow_succ' (m := 256), Nat.mod_mul]

@[simp] theorem length_beBytes (n v : Nat) : (beBytes n v).length = n := by simp [beBytes]

@[simp] theorem beNat_beBytes (n v : Nat) : beNat (beBytes n v) = v % 256 ^ n := by simp [beNat, beBytes]

/-- TLX reverses the mailbox's bytes of every fixed-length type. -/
theorem tlxBytes_of_size {m : Member} {n : Nat} (h : m.ty.size = some n) (b : Bytes) : tlxBytes m b = b.reverse := by
  simp [tlxBytes, h]

/-- Settles O8: the little-endian read-back by induction on the number of bytes, the big-endian one by reversal. -/
theorem byteOrdersReadBack : Obligations.ByteOrdersReadBack := by
  refine ⟨fun n v => ⟨leNat_leBytes n v, length_leBytes n v⟩, fun n v => ⟨beNat_beBytes n v, length_beBytes n v⟩,
    fun m v n h => ⟨?_, ?_⟩⟩
  · exact tlxBytes_of_size h _
  · rw [tlxBytes_of_size h, beBytes, List.reverse_reverse]

end Sys2Proof.Laws
end

section
/-! SUPPORT. Which outcome a register write has: every one through either view leaves a next state. -/

namespace Sys2Proof.Laws

open Sys2Proof Sys2Proof.Machine

theorem goesOn_iff (o : Host.Outcome State Fault Refusal) : goesOn o = true ↔ ∃ t, o = .next t := by
  cases o <;> simp [goesOn]

@[simp] theorem goesOn_next (s : State) : goesOn (.next s) = true := rfl

theorem goesOn_ite {p : Prop} [Decidable p] {a b : Host.Outcome State Fault Refusal} (ha : goesOn a = true)
    (hb : goesOn b = true) : goesOn (if p then a else b) = true := by split <;> assumption

theorem goesOn_viewWrite (s : State) (view : View) (c : Chan) (i : Slot) (off : Nat)
    (f : State → Host.Outcome State Fault Refusal) (h : ∀ t, goesOn (f t) = true) :
    goesOn (s.viewWrite view c i off f) = true := goesOn_ite (h _) rfl

/-- A TAIL write of each of the four rings goes on. -/
theorem goesOn_ringTail (view : View) (c : Chan) (i : Slot) (k : RingKind) (v : BitVec 32) (s : State) :
    goesOn (ringTail view c i k v s) = true := by
  cases k with
  | job => unfold ringTail execJobRingDoorbell; exact goesOn_viewWrite _ _ _ _ _ _ fun _ => rfl
  | result => unfold ringTail execResultRingTailWrite; exact goesOn_viewWrite _ _ _ _ _ _ fun _ => rfl
  | trace => unfold ringTail execTraceRingTailWrite; exact goesOn_viewWrite _ _ _ _ _ _ fun _ => rfl
  | decant => unfold ringTail execDecantRingTailWrite; exact goesOn_viewWrite _ _ _ _ _ _ fun _ => rfl

/-- ENABLE written 1 or 0 in each of the four rings goes on, and FLUSH after it changes the state alone. -/
theorem goesOn_ringCtrl (view : View) (c : Chan) (i : Slot) (k : RingKind) (v : BitVec 32) (s : State) :
    goesOn (ringCtrl view c i k v s) = true := by
  cases k with
  | job => exact goesOn_ite (goesOn_viewWrite _ _ _ _ _ _ fun _ => rfl) (goesOn_viewWrite _ _ _ _ _ _ fun _ => rfl)
  | result => exact goesOn_ite (goesOn_viewWrite _ _ _ _ _ _ fun _ => rfl) (goesOn_viewWrite _ _ _ _ _ _ fun _ => rfl)
  | trace =>
    have h : goesOn (if v.getLsbD 0 then execTraceRingEnable view c i (v.getLsbD 1) s
        else execTraceRingDisable view c i (v.getLsbD 1) s) = true :=
      goesOn_ite (goesOn_viewWrite _ _ _ _ _ _ fun _ => rfl) (goesOn_viewWrite _ _ _ _ _ _ fun _ => rfl)
    obtain ⟨t, ht⟩ := (goesOn_iff _).1 h
    simp only [ringCtrl, ht, goesOn_next]
  | decant =>
    have h : goesOn (if v.getLsbD 0 then execDecantRingEnable view c i (v.getLsbD 1) s
        else execDecantRingDisable view c i (v.getLsbD 1) s) = true :=
      goesOn_ite (goesOn_viewWrite _ _ _ _ _ _ fun _ => rfl) (goesOn_viewWrite _ _ _ _ _ _ fun _ => rfl)
    obtain ⟨t, ht⟩ := (goesOn_iff _).1 h
    simp only [ringCtrl, ht, goesOn_next]

theorem goesOn_writeSlot (view : View) (c : Chan) (i : Slot) (off : Nat) (v : BitVec 32) (s : State) :
    goesOn (writeSlot view c i off v s) = true := by
  unfold writeSlot
  cases ringAt off with
  | none => rfl
  | some k => exact goesOn_ite (goesOn_ringTail ..) (goesOn_ite (goesOn_ringCtrl ..) rfl)

theorem goesOn_writeWord (view : View) (c : Chan) (i : Slot) (off : Nat) (v : BitVec 32) (s : State) :
    goesOn (writeWord view c i off v s) = true := by
  cases view <;> exact goesOn_ite (goesOn_writeSlot ..) rfl

/-- A write of any size and alignment goes on: one word, a BASE pair, two words in address order, or PARTIAL. -/
theorem goesOn_writeAccess (view : View) (c : Chan) (i : Slot) (off size : Nat) (v : Word) (s : State) :
    goesOn (writeAccess view c i off size v s) = true := by
  refine goesOn_ite (goesOn_writeWord ..) (goesOn_ite ?_ rfl)
  cases basePair view i off with
  | some x => rfl
  | none =>
    obtain ⟨t, ht⟩ := (goesOn_iff _).1 (goesOn_writeWord view c i off (lo32 v) s)
    simp only [ht]
    exact goesOn_writeWord ..

theorem goesOn_regWrite (s : State) (view : View) (c : Chan) (i : Slot) (off size : Nat) (v : Word) :
    goesOn (s.regWrite view c i off size v) = true :=
  goesOn_ite (goesOn_writeAccess ..) (goesOn_ite (goesOn_writeAccess ..) rfl)

end Sys2Proof.Laws
end

section
/-! SUPPORT. What a write through BAR0 or an owner window does, register by register (R277, R280 to R284). -/

namespace Sys2Proof.Laws

open Sys2Proof Sys2Proof.Machine

variable {s : State} {c : Chan} {view : View} {i : Slot} {off size : Nat}

theorem regWrite_hostUp (up : s.hostUp c = true) (v : Word) :
    s.regWrite view c i off size v = writeAccess view c i off size v s := by simp [State.regWrite, up]

theorem regWrite_word (up : s.hostUp c = true) (h4 : off % 4 = 0) (v : Word) :
    s.regWrite view c i off 4 v = writeWord view c i off (lo32 v) s := by
  simp [regWrite_hostUp up, writeAccess, h4]

theorem regWrite_basePair {j : Slot} {k : RingKind} (up : s.hostUp c = true) (h8 : off % 8 = 0)
    (hb : basePair view i off = some (j, k)) (v : Word) :
    s.regWrite view c i off 8 v = .next ((s.access view c off).writeBasePair view c j k (pairKey view i off) v) := by
  simp [regWrite_hostUp up, writeAccess, h8, hb]

/-- Another size or alignment sets PARTIAL alone (R277). -/
theorem regWrite_partial (up : s.hostUp c = true) (h4 : ¬(size = 4 ∧ off % 4 = 0)) (h8 : ¬(size = 8 ∧ off % 8 = 0))
    (v : Word) : s.regWrite view c i off size v = .next ((s.access view c off).accessError c 0) := by
  simp [regWrite_hostUp up, writeAccess, h4, h8]

theorem writeBar0_low (h : off < 0x100) (v : BitVec 32) :
    writeBar0 c off v s = .next ((s.access .bar0 c off).writeLow c off v) := by
  have hs : ¬0x100000 ≤ off := by omega
  simp [writeBar0, hs, h]

theorem writeBar0_mbx (h : 0x1000 ≤ off) (h' : off < 0x1024) (v : BitVec 32) :
    writeBar0 c off v s = .next ((s.access .bar0 c off).writeMbxReg c off v) := by
  have hs : ¬0x100000 ≤ off := by omega
  have hl : ¬off < 0x100 := by omega
  have hp : ¬off < 0x900 := by omega
  simp [writeBar0, hs, hl, hp, h, h']

theorem writeWindow_mir (h : 0x8000 ≤ off) (h' : off < 0x8200) (v : BitVec 32) :
    writeWindow c i off v s = .next (s.writeMirReg c i off v) := by
  have hs : ¬off < 0x800 := by omega
  have hp : ¬off < 0x900 := by omega
  have hc : ¬off < 0x4000 := by omega
  have ht : off ≠ 0x1000 := by omega
  simp [writeWindow, hs, hp, hc, ht, h, h']

/-- BASE, SIZE and STATUS of a ring through the owner's window. -/
theorem writeWindow_ringReg {k : RingKind} (hk : ringAt off = some k) (h : 0x100 ≤ off) (h' : off < 0x800)
    (htail : off % 256 ≠ 0x10) (hctrl : off % 256 ≠ 0x14) (v : BitVec 32) :
    writeWindow c i off v s =
      .next (s.writeRingReg .window c i k (off % 256) (pairKey .window i (off / 8 * 8)) v) := by
  simp [writeWindow, writeSlot, State.access, h, h', hk, htail, hctrl]

end Sys2Proof.Laws
end

section
/-! SUPPORT. The pair rule on reads (R6, R277), the interrupt enable (R291), and a committed write of any dictionary
member (R361). -/

namespace Sys2Proof.Laws

open Sys2Proof Sys2Proof.Machine

@[simp] theorem find_latch_same (h : HostPort) (key : Nat) (v : BitVec 32) :
    (h.latch key (some v)).latches.find? (·.1 == key) = some (key, v) := by simp [HostPort.latch]

/-- A read of a _LO latches its _HI and answers with the _LO. -/
theorem readReg_lo {s : State} {view : View} {c : Chan} {i : Slot} {off : Nat} (up : (s.chan c).st ≠ .poweredDown)
    (hp : pairLo view (off / 4 * 4) = true) :
    let o := off / 4 * 4
    s.readReg view c i off = (s.modChan c fun ch =>
      { ch with host := ch.host.latch (pairKey view i o) (some (s.regWord view c i (o + 4))) }).drawn.emit
        (.readReg c (s.regWord view c i o)) := by
  simp [State.readReg, up, hp]

/-- An aligned 8-byte read of a pair takes both halves at once. -/
theorem readSized_pair {s : State} {view : View} {c : Chan} {i : Slot} {off : Nat} (h8 : off % 8 = 0)
    (up : (s.chan c).st ≠ .poweredDown) (hp : pairLo view off = true) :
    s.readSized view c i off 8 =
      s.drawn.emit (.readPair c (s.regWord view c i (off + 4) ++ s.regWord view c i off)) := by
  simp [State.readSized, h8, up, hp]

/-- An aligned 8-byte read elsewhere is two reads in address order. -/
theorem readSized_twoWords {s : State} {view : View} {c : Chan} {i : Slot} {off : Nat} (h8 : off % 8 = 0)
    (hp : pairLo view off = false) :
    s.readSized view c i off 8 = (s.readReg view c i off).readReg view c i (off + 4) := by
  simp [State.readSized, h8, hp]

/-- A read of any other size or alignment is a read of the word that contains it. -/
theorem readSized_oneWord {s : State} {view : View} {c : Chan} {i : Slot} {off size : Nat}
    (h : ¬(size = 8 ∧ off % 8 = 0)) : s.readSized view c i off size = s.readReg view c i off := by
  simp [State.readSized, h]

@[simp] theorem irqEnable_raiseVector (s : State) (c : Chan) (v : Nat) :
    ((s.raiseVector c v).chan c).host.irqEnable = (s.chan c).host.irqEnable := by
  unfold State.raiseVector
  split
  · rfl
  · split <;> simp

/-- CHAN_IRQ_ENABLE holds what was written: the vectors that it raises leave it alone. -/
theorem irqEnable_writeIrqEnable (s : State) (c : Chan) (v : Nat) :
    ((s.writeIrqEnable c v).chan c).host.irqEnable = BitVec.ofNat 7 v := by
  unfold State.writeIrqEnable
  refine List.foldlRecOn (motive := fun t : State => (t.chan c).host.irqEnable = BitVec.ofNat 7 v) _ _ (by simp) ?_
  intro t ht b _
  split
  · rw [irqEnable_raiseVector, ht]
  · exact ht

/-- A write of a member other than a key blob, whose commit succeeds. -/
theorem dictWrite_commits {s : State} {p : Path} {idx sub : Nat} {data : Bytes} {pl : Place} {m : Member}
    (h : accepts s p idx sub data pl m) (hpl : placeOf idx = some pl) (hm : pl.member sub = some m)
    (hblob : isBlob pl sub = false) (hc : (memberCommit pl m sub data s).1 = 0) :
    s.dictWrite p idx sub data = (0, (memberCommit pl m sub data s).2.committed pl m idx sub) := by
  simp [State.dictWrite, hpl, hm, hblob, State.write, h.2, hc]

end Sys2Proof.Laws
end

section
/-! The register commands: O38, each family of accesses in a theorem of its own. -/

namespace Sys2Proof.Laws

open Sys2Proof Sys2Proof.Machine

theorem exec_pairLoRead {s : State} {c : Chan} (view : View) (i : Slot) (off size : Nat) (up : s.endpointUp c = true) :
    exec (.pairLoRead view c i off size) s = .next ((s.access view c off false).readSized view c i off size) := by
  change execPairLoRead view c i off size s = _
  simp [execPairLoRead, up]

theorem exec_irqEnableWrite {s : State} {c : Chan} (v : BitVec 32) (up : s.hostUp c = true) :
    exec (.irqEnableWrite c v) s = .next ((s.access .bar0 c 0x44).writeIrqEnable c v.toNat) := by
  change execIrqEnableWrite c v s = _
  simp [execIrqEnableWrite, State.whenHost, up]

theorem exec_registerWrite_bar0 (s : State) (c : Chan) (off size : Nat) (v : Word) :
    exec (.registerWrite (.bar0 c off size v)) s = s.regWrite .bar0 c 0 off size v := rfl

theorem exec_registerWrite_window (s : State) (c : Chan) (i : Slot) (off size : Nat) (v : Word) :
    exec (.registerWrite (.window c i off size v)) s = s.regWrite .window c i off size v := rfl

theorem exec_registerWrite_dict {s : State} {p : Path} (idx sub : Nat) (data : Bytes) (up : s.pathUp p = true) :
    exec (.registerWrite (.dict p idx sub data)) s = .next (((s.dictWrite p idx sub data).2.answer
      (s.dictWrite p idx sub data).1).afterWrite idx sub data (s.dictWrite p idx sub data).1) := by
  change execRegisterWrite (.dict p idx sub data) s = _
  simp [execRegisterWrite, up]

/-- Settles O38: the reads by their size and by the pair rule, the interrupt enable, the dictionary writes, and the
register writes by the block that the offset lies in. -/
theorem registerCommandsComplete : Obligations.RegisterCommandsComplete := by
  intro s c
  refine ⟨?reads, ?irq, fun p idx sub data up => exec_registerWrite_dict idx sub data up, ?commit, ?writes⟩
  case reads =>
    intro view i off size up
    refine ⟨exec_pairLoRead view i off size up, ?_, ?_, readSized_oneWord, ?_⟩
    · rintro rfl h8 hst hp
      rw [readSized_pair h8 hst hp]
      exact ⟨rfl, rfl⟩
    · rintro rfl h8 hp
      exact readSized_twoWords h8 hp
    · intro hst hp
      rw [readReg_lo hst hp]
      exact ⟨rfl, by simp⟩
  case irq =>
    intro v up
    exact ⟨exec_irqEnableWrite v up, irqEnable_writeIrqEnable _ c _⟩
  case commit =>
    intro p idx sub data pl m h hpl hm hblob hc
    rw [exec_registerWrite_dict idx sub data h.1, dictWrite_commits h hpl hm hblob hc]
    rfl
  case writes =>
    intro i off v up
    simp only [exec_registerWrite_bar0, exec_registerWrite_window]
    refine ⟨?_, ?_, ?_, ?_, ?_, ?_, ?_⟩
    · intro h4 h
      rw [regWrite_word up h4]
      exact writeBar0_low h _
    · intro h4 h h'
      rw [regWrite_word up h4]
      exact writeBar0_mbx h h' _
    · intro h4 h h'
      rw [regWrite_word up h4]
      exact writeWindow_mir h h' _
    · intro k hk h h' h4 htail hctrl
      rw [regWrite_word up h4]
      exact writeWindow_ringReg hk h h' htail hctrl _
    · intro j k h8 hb
      exact regWrite_basePair up h8 hb v
    · intro size h4 h8
      exact ⟨regWrite_partial up h4 h8 v, regWrite_partial up h4 h8 v⟩
    · intro size
      exact ⟨(goesOn_iff _).1 (goesOn_regWrite ..), (goesOn_iff _).1 (goesOn_regWrite ..)⟩

end Sys2Proof.Laws
end

section
/-! SUPPORT. Commands whose every outcome stays in one channel: how whenChan, whenHost and viewWrite pass the frame of
what they guard, and the shared operations that the frame lemmas of Laws/Frame do not name yet. -/

namespace Sys2Proof.Laws

open Sys2Proof Sys2Proof.Machine

/-- Whatever next state an outcome is, it differs from s in channel c, the log of what left the module and the free
values drawn alone. -/
def ActsIn (c : Chan) (s : State) (o : Host.Outcome State Fault Refusal) : Prop :=
  ∀ t : State, o = .next t → onlyChannel c s t

variable {c : Chan} {s t : State} {f : State → Host.Outcome State Fault Refusal}

theorem actsIn_next (h : onlyChannel c s t) : ActsIn c s (.next t) := by
  rintro _ ⟨⟩
  exact h

theorem actsIn_stay : ActsIn c s (.next s) := actsIn_next (onlyChannel_refl c s)

theorem actsIn_modChan (g : Channel → Channel) : ActsIn c s (.next (s.modChan c g)) :=
  actsIn_next (onlyChannel_modChan c s g)

theorem actsIn_after {o : Host.Outcome State Fault Refusal} (h : onlyChannel c s t) (g : ActsIn c t o) :
    ActsIn c s o := fun u hu => onlyChannel_trans h (g u hu)

theorem actsIn_ite {p : Prop} [Decidable p] {a b : Host.Outcome State Fault Refusal} (ha : ActsIn c s a)
    (hb : ActsIn c s b) : ActsIn c s (if p then a else b) := by split <;> assumption

theorem actsIn_whenChan (h : ∀ t, ActsIn c t (f t)) : ActsIn c s (s.whenChan c f) := actsIn_ite (h s) actsIn_stay

theorem actsIn_whenHost (h : ∀ t, ActsIn c t (f t)) : ActsIn c s (s.whenHost c f) := actsIn_ite (h s) actsIn_stay

/-- A register write is an access, then what the register does. -/
theorem actsIn_viewWrite {view : View} {i : Slot} {off : Nat} (h : ∀ t, ActsIn c t (f t)) :
    ActsIn c s (s.viewWrite view c i off f) :=
  actsIn_whenHost fun t => actsIn_after (onlyChannel_access view c t _ _) (h _)

/-! ## Shared operations -/

theorem onlyChannel_foldl {α : Type} (l : List α) (g : State → α → State) (h : ∀ t x, onlyChannel c t (g t x)) :
    onlyChannel c s (l.foldl g s) :=
  List.foldlRecOn (motive := onlyChannel c s) l g (onlyChannel_refl c s) fun _ ht x _ => onlyChannel_trans ht (h _ x)

theorem onlyChannel_ite {p : Prop} [Decidable p] {a b : State} (ha : onlyChannel c s a) (hb : onlyChannel c s b) :
    onlyChannel c s (if p then a else b) := by split <;> assumption

theorem onlyChannel_foldlIf {α : Type} {p : Prop} [Decidable p] {l : List α} {g : State → α → State}
    (h : onlyChannel c s t) (hg : ∀ t x, onlyChannel c t (g t x)) : onlyChannel c s (if p then l.foldl g t else t) :=
  onlyChannel_ite (onlyChannel_trans h (onlyChannel_foldl l g hg)) h

theorem onlyChannel_stageOne (room : Nat) (x : Completion) : onlyChannel c s (s.stageOne c room x).2 := by
  unfold State.stageOne
  split
  · dsimp only
    exact onlyChannel_trans (onlyChannel_modChan c s _) (onlyChannel_event c _ _)
  · exact onlyChannel_refl c s

theorem onlyChannel_stageAll (used : Nat) (l : List Completion) : onlyChannel c s (s.stageAll c used l).2 := by
  induction l generalizing s used with
  | nil => exact onlyChannel_refl c s
  | cons x rest ih =>
    rw [State.stageAll]
    split
    · exact onlyChannel_trans (onlyChannel_stageOne _ x) (ih _)
    · exact ih _

theorem onlyChannel_trimStaging : onlyChannel c s (s.trimStaging c) :=
  by
  unfold State.trimStaging
  exact onlyChannel_trans (onlyChannel_stageAll 0 _) (onlyChannel_modChan c _ _)

/-- A counter takes an amount, and sends its wrap event where it wrapped. -/
theorem onlyChannel_counted (ch : Channel) (wrapped : Bool) (e : Ev) :
    onlyChannel c s (if wrapped then (s.setChan c ch).event c e else s.setChan c ch) :=
  onlyChannel_ite (onlyChannel_trans (onlyChannel_setChan c s ch) (onlyChannel_event c _ e))
    (onlyChannel_setChan c s ch)

theorem onlyChannel_land (u num n : Nat) : onlyChannel c s (s.land c u num n) := by
  unfold State.land
  split
  · exact onlyChannel_refl c s
  · dsimp only
    refine onlyChannel_foldlIf ?_ fun t i => onlyChannel_ite (onlyChannel_counted ..) (onlyChannel_refl c t)
    split
    · exact onlyChannel_refl c s
    · exact onlyChannel_counted ..

theorem onlyChannel_amount (u num n : Nat) : onlyChannel c s (s.amount c u num n) := 
  onlyChannel_ite (onlyChannel_refl c s) (onlyChannel_land u num n)

theorem onlyChannel_writeIrqEnable (v : Nat) : onlyChannel c s (s.writeIrqEnable c v) := by
  refine onlyChannel_trans (onlyChannel_modChan c s _) (onlyChannel_foldl _ _ fun t b => ?_)
  exact onlyChannel_ite (onlyChannel_raiseVector c t _) (onlyChannel_refl c t)

/-- An edge of the test clock moves the shift register, and puts a bit on TDO. -/
theorem onlyChannel_tapEdge (tdi : Bool) : onlyChannel c s (s.tapEdge c tdi) := by
  have put (t : State) (g : Channel → Channel) (o : Out) : onlyChannel c t ((t.modChan c g).emit o) :=
    onlyChannel_trans (onlyChannel_modChan c t g) (onlyChannel_emit c _ o)
  unfold State.tapEdge
  dsimp only
  split
  iterate 2 exact onlyChannel_trans (onlyChannel_modChan c s _) (onlyChannel_drawn c _)
  iterate 2
    split
    · exact put s _ _
    · split
      · exact put s _ _
      · exact onlyChannel_trans (onlyChannel_drawn c s) (onlyChannel_emit c _ _)
  exact onlyChannel_refl c s

end Sys2Proof.Laws
end

section
/-! Commands of one channel (O58): those that are more than one update of the channel behind a guard have a lemma of
their own. -/

namespace Sys2Proof.Laws

open Sys2Proof Sys2Proof.Machine

theorem actsIn_resultRingDisable {view : View} {c : Chan} {i : Slot} {s : State} :
    ActsIn c s (execResultRingDisable view c i s) :=
  actsIn_viewWrite fun t => actsIn_next (onlyChannel_trans (onlyChannel_modChan c t _) onlyChannel_trimStaging)

theorem actsIn_cellarTagDone {c : Chan} {s : State} : ActsIn c s (execCellarTagDone c s) := by
  refine actsIn_whenChan fun t => ?_
  split
  · exact actsIn_next (onlyChannel_setChan c t _)
  · exact actsIn_stay

theorem actsIn_bar4Write {c : Chan} {addr : Nat} {data : Bytes} {s : State} :
    ActsIn c s (execBar4Write c addr data s) :=
  actsIn_whenHost fun t => actsIn_after (onlyChannel_event c t _) (actsIn_modChan _)

theorem actsIn_irqEnableWrite {c : Chan} {v : BitVec 32} {s : State} : ActsIn c s (execIrqEnableWrite c v s) :=
  actsIn_whenHost fun t => actsIn_after (onlyChannel_access .bar0 c t _ _) (actsIn_next (onlyChannel_writeIrqEnable _))

/-- An amount brought in by the command, or the oldest one that waits in the channel. -/
theorem actsIn_countArrival {c : Chan} {q : Option (Byte × BitVec 16 × Nat)} {s : State} :
    ActsIn c s (execCountArrival c q s) := by
  refine actsIn_whenChan fun _ => ?_
  cases q with
  | some x => exact actsIn_ite (actsIn_next (onlyChannel_amount _ _ _)) actsIn_stay
  | none =>
    dsimp only
    split
    · exact actsIn_stay
    · exact actsIn_next (onlyChannel_trans (onlyChannel_modChan c _ _) (onlyChannel_land _ _ _))

theorem actsIn_energyUpdate {c : Chan} {microjoules : Nat} {s : State} :
    ActsIn c s (execEnergyUpdate c microjoules s) :=
  actsIn_whenChan fun t => actsIn_ite actsIn_stay (actsIn_after (onlyChannel_modChan c t _) (actsIn_modChan _))

theorem actsIn_scanShift {c : Chan} {tms tdi : Bool} {s : State} : ActsIn c s (execScanShift c tms tdi s) :=
  actsIn_whenChan fun _ => actsIn_ite actsIn_stay (actsIn_after (onlyChannel_tapEdge tdi) (actsIn_modChan _))

theorem actsIn_descriptorFetch {c : Chan} {s : State} : ActsIn c s (execDescriptorFetch c s) := by
  refine actsIn_whenHost fun t => actsIn_ite actsIn_stay ?_
  split
  · exact actsIn_next (onlyChannel_setChan c t _)
  · exact actsIn_stay

theorem actsIn_reservationExpiry {c : Chan} {i : Nat} {s : State} : ActsIn c s (execReservationExpiry c i s) := by
  refine actsIn_whenChan fun t => ?_
  split
  · split
    · exact actsIn_ite (actsIn_modChan _) actsIn_stay
    · exact actsIn_stay
  · exact actsIn_stay

theorem actsIn_relockLocked {c : Chan} {s : State} : ActsIn c s (execRelockLocked c s) := by
  refine actsIn_whenChan fun t => ?_
  split
  · exact actsIn_modChan _
  · exact actsIn_stay

theorem actsIn_pllLockTimeout {c : Chan} {s : State} : ActsIn c s (execPllLockTimeout c s) := by
  refine actsIn_whenChan fun t => ?_
  split
  · exact actsIn_ite (actsIn_modChan _) actsIn_stay
  · exact actsIn_stay

/-- A glide that ends is an event of its channel. -/
theorem actsIn_glideEnd {c : Chan} {s : State} : ActsIn c s (execGlideEnd c s) := by
  refine actsIn_whenChan fun t => ?_
  split
  · refine actsIn_ite (actsIn_next ?_) actsIn_stay
    exact onlyChannel_trans (onlyChannel_modChan c t _) (onlyChannel_event c _ _)
  · exact actsIn_stay

/-- A key installed is an event and an interrupt of its channel. -/
theorem actsIn_keyInstalled {c : Chan} {s : State} : ActsIn c s (execKeyInstalled c s) := by
  refine actsIn_whenChan fun t => ?_
  split
  · split
    · refine actsIn_next (onlyChannel_trans (onlyChannel_trans ?_ (onlyChannel_event c _ _)) (onlyChannel_raiseIrq c _ _))
      exact onlyChannel_modChan c t _
    · exact actsIn_modChan _
  · exact actsIn_stay

theorem actsIn_mbxSegmentTimeout {c : Chan} {s : State} : ActsIn c s (execMbxSegmentTimeout c s) := by
  refine actsIn_whenChan fun t => ?_
  split
  · exact actsIn_ite (actsIn_modChan _) actsIn_stay
  · exact actsIn_stay

/-- A listed command updates its channel behind a guard, or behind a register access, or has its lemma above. -/
theorem actsIn_of_ofOneChannel {i : Instr} {c : Chan} (h : ofOneChannel i = some c) {s : State} :
    ActsIn c s (exec i s) := by
  cases i <;> cases h
  case jobRingDoorbell | jobRingEnable | jobRingDisable | resultRingEnable | traceRingFlush | traceRingEnable
      | traceRingDisable | decantRingFlush | decantRingEnable | decantRingDisable =>
    delta exec
    exact actsIn_viewWrite fun _ => actsIn_modChan _
  case traceRecordMerge | tapInstructionUpdate | tapReset | scanEnd | powerMeasurementFault
      | powerMeasurementRecovered =>
    delta exec
    exact actsIn_whenChan fun _ => actsIn_modChan _
  case periodicTimestamp | flushInterval =>
    delta exec
    exact actsIn_whenChan fun _ => actsIn_ite (actsIn_modChan _) actsIn_stay
  case decantArm | decantDisarm | cellarTagGo =>
    delta exec
    exact actsIn_whenHost fun t => actsIn_after (onlyChannel_access _ c t _ _) (actsIn_modChan _)
  case resultRingDisable => exact actsIn_resultRingDisable
  case cellarTagDone => exact actsIn_cellarTagDone
  case bar4Write => exact actsIn_bar4Write
  case countArrival => exact actsIn_countArrival
  case energyUpdate => exact actsIn_energyUpdate
  case scanShift => exact actsIn_scanShift
  case descriptorFetch => exact actsIn_descriptorFetch
  case reservationExpiry => exact actsIn_reservationExpiry
  case relockLocked => exact actsIn_relockLocked
  case pllLockTimeout => exact actsIn_pllLockTimeout
  case glideEnd => exact actsIn_glideEnd
  case keyInstalled => exact actsIn_keyInstalled
  case mbxSegmentTimeout => exact actsIn_mbxSegmentTimeout
  case irqEnableWrite => exact actsIn_irqEnableWrite

/-- Settles O58: each listed command stays in its channel, and so leaves every other one. -/
theorem channelCommandsLeaveOtherChannels : Obligations.ChannelCommandsLeaveOtherChannels := by
  intro i c s t hi ht
  have only : onlyChannel c s t := actsIn_of_ofOneChannel hi t ht
  exact ⟨only, fun d hd => (onlyChannel_frame only hd).1⟩

end Sys2Proof.Laws
end

section
/-! SUPPORT. The part of the module that no frame, session or USB transfer touches: its channels, the time base, the
pins, PERST_N and the upstream link. One lemma for each operation of the network that leaves it. -/

namespace Sys2Proof.Laws

open Sys2Proof Sys2Proof.Machine

/-- The channels, the time base, the pins, PERST_N and the upstream link. -/
def hardware (s : State) : Vector Channel 8 × TimeBase × Pins × Bool × Bool :=
  (s.chans, s.time, s.pins, s.perst, s.upLink)

theorem hardware_eq_iff (s t : State) : hardware t = hardware s ↔
    t.chans = s.chans ∧ t.time = s.time ∧ t.pins = s.pins ∧ t.perst = s.perst ∧ t.upLink = s.upLink := by
  simp [hardware]

theorem hardware_ite {p : Prop} [Decidable p] {a b s : State} (ha : hardware a = hardware s)
    (hb : hardware b = hardware s) : hardware (if p then a else b) = hardware s := by split <;> assumption

/-! ## Frames (R310, R321) -/

theorem hardware_pushTsq (s : State) (e : TsqEntry) : hardware (s.pushTsq e) = hardware s :=
  hardware_ite rfl (hardware_ite rfl rfl)

theorem hardware_putFrame (s : State) (b : Bytes) (event : Option (Byte × BitVec 16)) :
    hardware (s.putFrame b event) = hardware s := by
  cases event with
  | none => rfl
  | some x => exact hardware_pushTsq _ _

theorem hardware_sendNext {s t : State} {b : Nat} (h : s.sendNext = some (t, b)) : hardware t = hardware s := by
  unfold State.sendNext at h
  split at h
  · cases h
  · cases h
    rw [hardware_putFrame]
    exact hardware_ite rfl rfl
  · cases h
    rw [hardware_putFrame]
    rfl

theorem hardware_sendFrames (s : State) (n : Nat) : hardware (s.sendFrames n).1 = hardware s := by
  induction n generalizing s with
  | zero => rfl
  | succ k ih =>
    unfold State.sendFrames
    split
    · rfl
    · rename_i t b sent
      have rest : hardware (t.sendFrames k).1 = hardware s := (ih t).trans (hardware_sendNext sent)
      split <;> simp_all

theorem hardware_missReleased (s : State) : hardware s.missReleased = hardware s := hardware_ite rfl rfl

theorem hardware_sendLate (s : State) : hardware s.sendLate = hardware s := by
  have sent := hardware_sendFrames s s.plca.framesMax
  unfold State.sendLate
  split
  · split
    · split
      · simp_all
      · rename_i u b _ e
        rw [e] at sent
        exact (hardware_missReleased u).trans sent
    · rfl
  · rfl

theorem hardware_enqueueTx (s : State) (f : TxFrame) : hardware (s.enqueueTx f) = hardware s :=
  hardware_ite rfl (hardware_ite rfl (hardware_ite rfl (hardware_sendLate _)))

/-! ## TLX (R327 to R336) -/

theorem hardware_sendTlx (s : State) (src : TlxSrc) (cls : TxClass) (k : Option (Fin 32)) (pdu : Bytes) :
    hardware (s.sendTlx src cls k pdu) = hardware s := by
  cases src with
  | network mac => exact hardware_enqueueTx _ _
  | usbControl => exact hardware_ite rfl rfl
  | usbBulk => exact hardware_ite rfl rfl

theorem hardware_respond (s : State) (k : Fin 32) (service : Nat) (tid : BitVec 16) (status : AbortCode)
    (body : Bytes) : hardware (s.respond k service tid status body) = hardware s := hardware_sendTlx ..

/-- A request that runs in a session leaves the hardware where what it serves does. -/
theorem hardware_inSession {s : State} {src : TlxSrc} {service : Nat} {sid tid : BitVec 16} {ok : SessSt → Bool}
    {serve : State → Fin 32 → State} (h : ∀ t k, hardware (serve t k) = hardware t) :
    hardware (s.inSession src service sid tid ok serve) = hardware s := by
  unfold State.inSession
  refine hardware_ite rfl ?_
  split
  · exact hardware_sendTlx ..
  · dsimp only
    split
    · exact hardware_ite (hardware_sendTlx ..) (h _ _)
    · exact h _ _

theorem hardware_serveReadSegment (s : State) (src : TlxSrc) (sid tid : BitVec 16) (off : Nat) :
    hardware (s.serveReadSegment src sid tid off) = hardware s := by
  refine hardware_inSession fun t k => ?_
  split
  · exact hardware_respond ..
  · exact hardware_ite (hardware_respond ..) (hardware_respond ..)

theorem hardware_serveUnsubscribe (s : State) (src : TlxSrc) (sid tid : BitVec 16) (handle : Byte) :
    hardware (s.serveUnsubscribe src sid tid handle) = hardware s :=
  hardware_inSession fun _ _ =>
    hardware_ite (hardware_respond ..) (hardware_ite (hardware_respond ..) (hardware_respond ..))

theorem hardware_serveUnknown (s : State) (src : TlxSrc) (sid tid : BitVec 16) (service : Nat) :
    hardware (s.serveUnknown src sid tid service) = hardware s := by
  unfold State.serveUnknown
  refine hardware_ite rfl ?_
  split
  · exact hardware_sendTlx ..
  · exact hardware_inSession fun _ _ => hardware_respond ..

theorem hardware_serveAck (s : State) (src : TlxSrc) (sid seq : BitVec 16) :
    hardware (s.serveAck src sid seq) = hardware s := by
  unfold State.serveAck
  refine hardware_ite rfl ?_
  split <;> rfl

end Sys2Proof.Laws
end

section
/-! Commands of the network and of USB (O59). -/

namespace Sys2Proof.Laws

open Sys2Proof Sys2Proof.Machine

/-- Whatever next state an outcome is, the hardware is that of s. -/
def KeepsHardware (s : State) (o : Host.Outcome State Fault Refusal) : Prop :=
  ∀ t : State, o = .next t → hardware t = hardware s

section
variable {s t : State}

theorem keepsHardware_next (h : hardware t = hardware s) : KeepsHardware s (.next t) := by
  rintro _ ⟨⟩
  exact h

theorem keepsHardware_stay : KeepsHardware s (.next s) := keepsHardware_next rfl

theorem keepsHardware_ite {p : Prop} [Decidable p] {a b : Host.Outcome State Fault Refusal} (ha : KeepsHardware s a)
    (hb : KeepsHardware s b) : KeepsHardware s (if p then a else b) := by split <;> assumption

theorem keepsHardware_whenReeve {f : State → Host.Outcome State Fault Refusal} (h : ∀ t, KeepsHardware t (f t)) :
    KeepsHardware s (s.whenReeve f) := keepsHardware_ite (h s) keepsHardware_stay

theorem keepsHardware_tlxWriteIdleTimeout {k : Fin 32} : KeepsHardware s (execTlxWriteIdleTimeout k s) := by
  unfold execTlxWriteIdleTimeout
  split
  · exact keepsHardware_next (hardware_ite rfl rfl)
  · exact keepsHardware_stay

/-- A notification not acknowledged is sent again, or given up. -/
theorem keepsHardware_tlxEventRetry {k : Fin 32} : KeepsHardware s (execTlxEventRetry k s) := by
  unfold execTlxEventRetry
  refine keepsHardware_ite keepsHardware_stay ?_
  split
  · exact keepsHardware_stay
  · exact keepsHardware_ite (keepsHardware_next rfl) (keepsHardware_next (hardware_sendTlx ..))

theorem keepsHardware_usbTlxReceive {n : Nat} : KeepsHardware s (execUsbTlxReceive n s) := by
  unfold execUsbTlxReceive
  refine keepsHardware_ite keepsHardware_stay (keepsHardware_ite (keepsHardware_next rfl) ?_)
  split <;> exact keepsHardware_next rfl

theorem keepsHardware_usbBulkIn : KeepsHardware s (execUsbBulkIn s) := by
  unfold execUsbBulkIn
  refine keepsHardware_ite ?_ keepsHardware_stay
  split <;> exact keepsHardware_next rfl

theorem keepsHardware_usbBusReset {detach : Bool} : KeepsHardware s (execUsbBusReset detach s) :=
  keepsHardware_ite keepsHardware_stay (keepsHardware_next rfl)

theorem keepsHardware_beaconSend : KeepsHardware s (execBeaconSend s) :=
  keepsHardware_whenReeve fun _ => keepsHardware_ite (keepsHardware_next rfl) keepsHardware_stay

/-- The frames released are sent at once in an opportunity that is still open. -/
theorem keepsHardware_tlFrameRelease : KeepsHardware s (execTlFrameRelease s) :=
  keepsHardware_whenReeve fun _ => keepsHardware_ite (keepsHardware_next (hardware_sendLate _)) keepsHardware_stay

theorem keepsHardware_syncBurstEnd : KeepsHardware s (execSyncBurstEnd s) := by
  refine keepsHardware_whenReeve fun _ => ?_
  split
  · exact keepsHardware_ite (keepsHardware_next rfl) keepsHardware_stay
  · exact keepsHardware_stay

theorem keepsHardware_delayReqSend : KeepsHardware s (execDelayReqSend s) :=
  keepsHardware_whenReeve fun _ => keepsHardware_ite (keepsHardware_next (hardware_enqueueTx _ _)) keepsHardware_stay

theorem keepsHardware_of_ofNetwork {i : Instr} (h : ofNetwork i = true) : KeepsHardware s (exec i s) := by
  cases i <;> cases h
  case tlxIdentify => exact keepsHardware_next (hardware_ite (hardware_sendTlx ..) rfl)
  case tlxRenew => exact keepsHardware_next (hardware_inSession fun _ _ => hardware_respond ..)
  case tlxClose => exact keepsHardware_next (hardware_inSession fun _ _ => hardware_respond ..)
  case tlxWriteCancel => exact keepsHardware_next (hardware_inSession fun _ _ => hardware_respond ..)
  case tlxReadSegment => exact keepsHardware_next (hardware_serveReadSegment ..)
  case tlxEventAck => exact keepsHardware_next (hardware_serveAck ..)
  case tlxUnsubscribe => exact keepsHardware_next (hardware_serveUnsubscribe ..)
  case tlxUnknownService => exact keepsHardware_next (hardware_serveUnknown ..)
  case tlxWriteIdleTimeout => exact keepsHardware_tlxWriteIdleTimeout
  case tlxEventRetry => exact keepsHardware_tlxEventRetry
  case usbTlxReceive => exact keepsHardware_usbTlxReceive
  case usbPortInfo | usbAttach => exact keepsHardware_next (hardware_ite rfl rfl)
  case usbBulkIn => exact keepsHardware_usbBulkIn
  case usbBusReset => exact keepsHardware_usbBusReset
  case beaconSend => exact keepsHardware_beaconSend
  case tlFrameRelease => exact keepsHardware_tlFrameRelease
  case syncBurstEnd => exact keepsHardware_syncBurstEnd
  case delayReqSend => exact keepsHardware_delayReqSend

end

/-- Settles O59: each listed command leaves the hardware, whose five parts the statement names. -/
theorem networkCommandsLeaveChannels : Obligations.NetworkCommandsLeaveChannels :=
  fun _ s t hi ht => (hardware_eq_iff s t).1 (keepsHardware_of_ofNetwork hi t ht)

end Sys2Proof.Laws
end

section
/-! The idle step (O2), and the events of the time base and of the calendar (O13). -/

namespace Sys2Proof.Laws

open Sys2Proof Sys2Proof.Machine

/-- Settles O2: step's first case. -/
theorem idleStepIsOneTclkEdge : Obligations.IdleStepIsOneTclkEdge := by
  intro s empty
  simp [step, empty]

/-! ## What a module event leaves -/

/-- A fold over the channels keeps what its function keeps. -/
theorem eachChan_keeps {α : Type} (g : State → α) {f : State → Chan → State} (h : ∀ t c, g (f t c) = g t)
    (s : State) : g (s.eachChan f) = g s :=
  List.foldlRecOn (motive := fun t => g t = g s) allChans f rfl fun t ht c _ => (h t c).trans ht

theorem event_dict (s : State) (c : Chan) (e : Ev) : (s.event c e).dict = s.dict := by
  obtain ⟨_, _, _, h⟩ := onlyChannel_event c s e
  rw [h]

theorem event_tclk (s : State) (c : Chan) (e : Ev) : (s.event c e).tclk = s.tclk := by
  obtain ⟨_, _, _, h⟩ := onlyChannel_event c s e
  rw [h]

theorem moduleEvent_dict (s : State) (e : Ev) : (s.moduleEvent e).dict = s.dict :=
  eachChan_keeps State.dict (fun t c => event_dict t c e) s

theorem moduleEvent_tclk (s : State) (e : Ev) : (s.moduleEvent e).tclk = s.tclk :=
  eachChan_keeps State.tclk (fun t c => event_tclk t c e) s

section
variable {s : State}

theorem whenLive_live (f : State → Host.Outcome State Fault Refusal) (h : s.live = true) : s.whenLive f = f s :=
  if_pos h

theorem whenReeve_reeveUp (f : State → Host.Outcome State Fault Refusal) (h : s.reeveUp = true) :
    s.whenReeve f = f s := if_pos h

/-- Where the Reeve serves, the module has power and its clock, and the Reeve runs. -/
theorem reeveUp_iff : s.reeveUp = true ↔ s.live = true ∧ s.reeve.running = true ∧ s.reeve.recovery = false := by
  simp [State.reeveUp, and_assoc]

/-! ## The time base's own events (R31, R36, R39, R53 to R55) -/

theorem exec_ref10mQualified (h : s.live = true) :
    exec .ref10mQualified s = .next
      (let t : State := { s with time := { s.time with refQualified := true } }
       if s.mon 0x3000 3 then t.useReference 1 else t) := by
  change execRef10mQualified s = _
  exact whenLive_live _ h

theorem exec_ref10mLost (h : s.live = true) (used : s.mon 0x3000 2 = true) :
    let t := (({ s with time := { s.time with refQualified := false } } : State).useReference 0).timeFlag refLostBit
    exec .ref10mLost s = .next (if t.reeve.running then t.enterHoldover refLostBit else t) := by
  change execRef10mLost s = _
  exact (whenLive_live _ h).trans (if_pos used)

theorem exec_ppsLoadTimeout {l : PpsLoad} (h : s.reeveUp = true) (armed : s.time.ppsLoad = some l)
    (noEdge : l.edge = none) (due : l.deadline ≤ s.tclk) :
    exec .ppsLoadTimeout s = .next (({ s with time := { s.time with ppsLoad := none } }).timeFlag ppsMissingBit) := by
  change execPpsLoadTimeout s = _
  simp [execPpsLoadTimeout, whenReeve_reeveUp _ h, armed, noEdge, due]

theorem exec_correctionSlot (h : s.reeveUp = true) (due : s.time.nextSlot ≤ s.tclk) :
    exec .correctionSlot s = .next { s with time := s.time.slot s.tclk } := by
  obtain ⟨live, running, -⟩ := reeveUp_iff.1 h
  change execCorrectionSlot s = _
  simp [execCorrectionSlot, whenLive_live _ live, due, running]

theorem exec_loadStrobe {t : Nat} {l : Load} (h : s.reeveUp = true) (waits : s.time.load = some (t, l))
    (due : t ≤ s.tclk) : exec .loadStrobe s = .next (s.strobe l) := by
  change execLoadStrobe s = _
  simp [execLoadStrobe, whenLive_live _ (reeveUp_iff.1 h).1, waits, due]

theorem exec_ppsMissing {t : Nat} (h : s.reeveUp = true) (last : s.time.lastPps = some t)
    (source : s.mon 0x3001 2 = true) (due : t + tclkOfMs 3500 ≤ s.tclk)
    (follows : s.time.ts = .acquiring ∨ s.time.ts = .locked) :
    exec .ppsMissing s = .next (s.enterHoldover (ppsMissingBit ||| masterLostBit)) := by
  change execPpsMissing s = _
  simp [execPpsMissing, whenReeve_reeveUp _ h, last, source, due, follows]

/-- A capture with PTP as source measures nothing: the captured time stands in 0x3006:01, and the pulse is noted. -/
theorem exec_ppsCapture (h : s.reeveUp = true) (source : s.mon 0x3001 2 = false) :
    ∃ t : State, exec .ppsCapture s = .next t ∧
      t.mget 0x3006 1 = BitVec.ofNat 64 ((s.time.acc - 2 * s.time.incr.toNat) / 2 ^ 32) ∧
      t.time.lastPps = some s.tclk := by
  have other : dkey 0x3001 2 ≠ dkey 0x3006 2 ∧ dkey 0x3001 2 ≠ dkey 0x3006 1 ∧ dkey 0x3006 1 ≠ dkey 0x3006 2 := by
    decide
  obtain ⟨source2, source1, capture2⟩ := other
  change ∃ t, execPpsCapture s = .next t ∧ _
  simp only [execPpsCapture, whenReeve_reeveUp _ h]
  refine ⟨_, rfl, ?_⟩
  rw [if_neg]
  · simp only [State.mget, State.mput, moduleEvent_dict, moduleEvent_tclk, Dict.find_put_other _ _ capture2,
      Dict.find_put_same, Option.getD_some, and_self]
  · simpa only [State.mon, State.mget, State.mput, moduleEvent_dict, Dict.find_put_other _ _ source2,
      Dict.find_put_other _ _ source1, Bool.not_eq_true] using source

/-! ## The calendar (R367 to R369) -/

/-- In FREE_RUN the calendar takes any time of the years 2000 to 2399. -/
theorem calendarCommit_freeRun {v : BitVec 80} (free : s.time.ts = .freeRun)
    (low : 2000 ≤ (civilOfDay (((v.toNat / 2 ^ 32 : Nat) - s.taiOffset) / 86400)).1)
    (high : (civilOfDay (((v.toNat / 2 ^ 32 : Nat) - s.taiOffset) / 86400)).1 ≤ 2399) :
    calendarCommit v s = (0, s.setCalendar (v.toNat / 2 ^ 32)) := by
  have inYears := not_or.2 ⟨Int.not_lt.2 low, Int.not_lt.2 high⟩
  exact (if_neg inYears).trans (if_neg fun other => other free)

theorem exec_calendarSync (h : s.reeveUp = true) (kept : s.time.ts ≠ .freeRun) :
    exec .calendarSync s = .next (s.setCalendar (taiSecond s.now)) := by
  change execCalendarSync s = _
  simp [execCalendarSync, whenReeve_reeveUp _ h, kept]

theorem exec_leapSecond {a : Nat} (h : s.reeveUp = true) (leapAt : s.reeve.leapAt = some a)
    (due : a ≤ taiSecond s.now) : exec .leapSecond s = .next s.leap := by
  change execLeapSecond s = _
  simp [execLeapSecond, whenReeve_reeveUp _ h, leapAt, due]

end

/-- Settles O13: each event and each command of the calendar by its own lemma. -/
theorem timeEventsComplete : Obligations.TimeEventsComplete := by
  refine ⟨⟨fun s live => ⟨exec_ref10mQualified live, exec_ref10mLost live⟩, fun s up => ?events⟩, fun s => ?calendar⟩
  case events =>
    exact ⟨fun _ => exec_ppsLoadTimeout up, exec_correctionSlot up, fun _ _ => exec_loadStrobe up, exec_ppsCapture up,
      fun _ => exec_ppsMissing up⟩
  case calendar =>
    refine ⟨?set, exec_calendarSync, fun _ => exec_leapSecond⟩
    case set =>
      intro p v pl m h free low high
      exact writeRow_commits h (calendarCommit_freeRun free low high)

end Sys2Proof.Laws
end

section
/-! SUPPORT. A write that does not commit: no check of R361 answers 0, and a commit that refuses and keeps the state makes
the whole write refuse and keep it. -/

namespace Sys2Proof.Laws

open Sys2Proof Sys2Proof.Machine

section
variable {s : State} {p : Path} {idx sub : Nat} {data : Bytes}

theorem checkAccess_error_ne_zero {e : AbortCode} (h : s.checkAccess p idx sub = .error e) : e ≠ 0 := by
  unfold State.checkAccess at h
  repeat' split at h
  all_goals cases h
  all_goals decide

theorem checkWrite_error_ne_zero {e : AbortCode} (h : s.checkWrite p idx sub data = .error e) : e ≠ 0 := by
  unfold State.checkWrite at h
  split at h
  case h_1 access => cases h; exact checkAccess_error_ne_zero access
  case h_2 =>
    split at h
    case isTrue => cases h
    case isFalse refused => cases h; exact refused

/-- Where the commit refuses and keeps the state, so does the write, whichever check comes first. -/
theorem write_keeps {commit : Commit} {code : AbortCode} (refuses : commit s = (code, s)) (h : code ≠ 0) :
    (s.write p idx sub data commit).1 ≠ 0 ∧ (s.write p idx sub data commit).2 = s := by
  unfold State.write
  cases check : s.checkWrite p idx sub data with
  | error e => exact ⟨checkWrite_error_ne_zero check, rfl⟩
  | ok x => simpa only [refuses, if_neg h, and_true] using h

/-- The same for a write of any member but a key blob. -/
theorem dictWrite_keeps {pl : Place} {code : AbortCode} (place : placeOf idx = some pl) (blob : isBlob pl sub = false)
    (refuses : ∀ m, memberCommit pl m sub data s = (code, s)) (h : code ≠ 0) :
    (s.dictWrite p idx sub data).1 ≠ 0 ∧ (s.dictWrite p idx sub data).2 = s := by
  unfold State.dictWrite
  rw [place]
  dsimp only
  cases pl.member sub with
  | none => exact write_keeps rfl (by decide : abortNotFound ≠ 0)
  | some m =>
    dsimp only
    rw [blob]
    exact write_keeps (refuses m) h

end

end Sys2Proof.Laws
end

section
/-! Writes to the time base (O11, O12): what each commit of the chapter answers (R36, R50 to R56). -/

namespace Sys2Proof.Laws

open Sys2Proof Sys2Proof.Machine

section
variable {s : State}

/-! ## Mode 0: the servo alone writes (R51) -/

theorem incrementCommit_servo (servo : s.mnat 0x3001 1 = 0) (v : Word) : incrementCommit v s = (abortConflict, s) :=
  if_pos servo

theorem timeStepCommit_servo (servo : s.mnat 0x3001 1 = 0) (v : Word) : timeStepCommit v s = (abortConflict, s) :=
  if_pos servo

theorem exec_timeStepWrite_servo {p : Path} {pl : Place} {m : Member} {v : Word} (servo : s.mnat 0x3001 1 = 0)
    (h : accepts s p 0x3003 0 (leBytes 8 v.toNat) pl m) :
    exec (.timeStepWrite p v) s = .next (s.answer abortConflict) :=
  writeRow_aborts h (timeStepCommit_servo servo v) (by decide)

/-- In mode 0 no dictionary write of the increment or of a step takes effect. -/
theorem dictWrite_servo {p : Path} {idx : Nat} {data : Bytes} (servo : s.mnat 0x3001 1 = 0)
    (member : idx = 0x3002 ∨ idx = 0x3003) :
    (s.dictWrite p idx 0 data).1 ≠ 0 ∧ (s.dictWrite p idx 0 data).2 = s := by
  have conflict : abortConflict ≠ 0 := by decide
  rcases member with rfl | rfl
  · exact dictWrite_keeps (pl := .module 0x3002) (by decide) rfl (fun m => incrementCommit_servo servo _) conflict
  · exact dictWrite_keeps (pl := .module 0x3003) (by decide) rfl (fun m => timeStepCommit_servo servo _) conflict

/-! ## REF10M (R36), and modes 1 and 2 (R50, R51, R56) -/

theorem ref10mCommit_commits (v : Nat) : ref10mCommit v s = (0, (s.mput 0x3000 3 (w v)).useReference
    (if v ≠ 0 ∧ s.time.refQualified = true then 1 else 0)) := rfl

theorem incrementCommit_external (external : s.mnat 0x3001 1 ≠ 0) (v : Word) :
    incrementCommit v s = (0, ({ s with time := { s.time with pendIncr := some v } }).mput 0x3002 0 v) :=
  if_neg external

theorem timeStepCommit_allowed (mode : s.mnat 0x3001 1 = 1) (allowed : s.time.allowance = true) (v : Word) :
    timeStepCommit v s = (0, { s with time := { s.time with allowance := false, pendStep := some v } }) := by
  simp [timeStepCommit, mode, allowed]

theorem timeStepCommit_spent (mode : s.mnat 0x3001 1 = 1) (spent : s.time.allowance = false) (v : Word) :
    timeStepCommit v s = (abortStep, s.timeFlag stepRefused) := by
  simp [timeStepCommit, mode, spent]

/-! ## PPS loads, the correction mode, REACQUIRE (R52, R54, R55) -/

theorem ppsLoadCommit_freeRun (free : s.time.ts = .freeRun) (v : BitVec 80) :
    ppsLoadCommit v s = (0, { s with time := { s.time with
      ppsLoad := some { value := t64OfTime80 v, deadline := s.tclk + tclkOfS 2, edge := none } } }) :=
  if_pos free

theorem correctionCommit_changes {sub v : Nat} (changes : s.mget 0x3001 sub ≠ w v) :
    correctionCommit sub v s = (0, (s.mput 0x3001 sub (w v)).reacquireConfig) :=
  congrArg (Prod.mk 0) (if_neg changes)

theorem reacquireCommit_kept (kept : s.time.ts ≠ .freeRun) : reacquireCommit s = (0, s.acquire true) :=
  congrArg (Prod.mk 0) (if_neg kept)

end

/-- Settles O11: in mode 0 both commits refuse and keep the state, whatever command brings the write. -/
theorem servoIsTheOnlyWriterInModeZero : Obligations.ServoIsTheOnlyWriterInModeZero := by
  intro s p pl m v servo
  refine ⟨fun h => ?increment, exec_timeStepWrite_servo servo, fun idx data => dictWrite_servo servo, rfl, rfl⟩
  case increment => exact writeRow_aborts h (incrementCommit_servo servo v) (by decide)

/-- Settles O12: each write by the answer of its commit. -/
theorem timeWritesCommit : Obligations.TimeWritesCommit := by
  refine ⟨fun s p pl m => ⟨?reference, ?increment, ?step, ?pps, ?mode, ?reacquire⟩,
    fun s p pl m v h => ⟨?servo, ?spent⟩⟩
  case reference => exact fun v h => writeRow_commits h (ref10mCommit_commits v.toNat)
  case increment => exact fun v h external => writeRow_commits h (incrementCommit_external external v)
  case step => exact fun v h mode allowed => writeRow_commits h (timeStepCommit_allowed mode allowed v)
  case pps => exact fun v h free => writeRow_commits h (ppsLoadCommit_freeRun free v)
  case mode => exact fun source v h changes => writeRow_commits h (correctionCommit_changes changes)
  case reacquire => exact fun v h kept => writeRow_commits h (reacquireCommit_kept kept)
  case servo => exact fun servo => exec_timeStepWrite_servo servo h
  case spent => exact fun mode spent => writeRow_aborts h (timeStepCommit_spent mode spent v) (by decide)

end Sys2Proof.Laws
end

section
/-! T64 between corrections (O14), and a target against T32 (O15). -/

namespace Sys2Proof.Laws

open Sys2Proof Sys2Proof.Machine

theorem acc_lt (t : TimeBase) : t.acc < 2 ^ 96 := by
  have := t.t64.isLt
  have := t.frac.isLt
  unfold TimeBase.acc
  omega

/-- One edge is the addition of the increment to the counter and its fraction as one number of 96 bits. -/
theorem acc_tick (t : TimeBase) : t.tick.acc = (t.acc + t.incr.toNat) % 2 ^ 96 := by
  have := t.t64.isLt
  have := t.frac.isLt
  have := t.incr.isLt
  simp only [TimeBase.acc, TimeBase.tick, BitVec.toNat_add, BitVec.toNat_ofNat]
  omega

theorem incr_repeat_tick (n : Nat) (t : TimeBase) : (Nat.repeat TimeBase.tick n t).incr = t.incr := by
  induction n with
  | zero => rfl
  | succ n ih => exact ih

/-- Settles O14, by induction on the number of edges. -/
theorem counterAccumulatesIncrements : Obligations.CounterAccumulatesIncrements := by
  intro n t
  induction n with
  | zero => simpa [Nat.repeat] using (Nat.mod_eq_of_lt (acc_lt t)).symm
  | succ n ih =>
    calc (Nat.repeat TimeBase.tick (n + 1) t).acc
        = ((Nat.repeat TimeBase.tick n t).acc + (Nat.repeat TimeBase.tick n t).incr.toNat) % 2 ^ 96 := acc_tick _
      _ = ((t.acc + n * t.incr.toNat) % 2 ^ 96 + t.incr.toNat) % 2 ^ 96 := by rw [ih, incr_repeat_tick]
      _ = (t.acc + (n + 1) * t.incr.toNat) % 2 ^ 96 := by rw [Nat.mod_add_mod, Nat.add_one_mul, Nat.add_assoc]

/-- Settles O15: the difference is that of the two numbers, reduced to the signed 32-bit range, and x lies within it. -/
theorem targetsAliasIntoTheWindow : Obligations.TargetsAliasIntoTheWindow := by
  intro now target x congruent below above
  have residue := BitVec.toNat_sub now target
  have := now.isLt
  have := target.isLt
  rw [cmpDiff, BitVec.toInt_eq_toNat_cond]
  split <;> omega

end Sys2Proof.Laws
end

section
/-! SUPPORT. The schedule of a comparator, its target with its mode, period and skipped count: which operations on the
channel leave it alone (R41 to R46, R173 to R200). -/

namespace Sys2Proof.Laws

open Sys2Proof Sys2Proof.Machine

/-- What the schedule of comparator k rests on: its target, and its members of mode, period and skipped count (R45). -/
def schedule (k : Fin 5) (ch : Channel) : T32 × Word × Word × Word :=
  (ch.cmp[k.val].target, ch.get (cmpOff k) 1, ch.get (cmpOff k) 3, ch.get (cmpOff k) (cmpSkip k))

section
variable {k : Fin 5}

/-! ## Channels -/

/-- The members beside the mode, the period and the counts of the comparators. -/
def besideSchedule (off sub : Nat) : Prop :=
  0x200 ≤ off ∨ sub < 256 ∧ sub ≠ 1 ∧ sub ≠ 3 ∧ sub ≠ 7 ∧ sub ≠ 9

theorem schedule_put (ch : Channel) {off sub : Nat} (h : besideSchedule off sub) (v : Word) :
    schedule k (ch.put off sub v) = schedule k ch := by
  have low : cmpOff k < 0x121 := by unfold cmpOff; split <;> omega
  have skip : cmpSkip k = 9 ∨ cmpSkip k = 7 := by unfold cmpSkip; split <;> simp
  have other : ∀ j, j = 1 ∨ j = 3 ∨ j = cmpSkip k → dkey (cmpOff k) j ≠ dkey off sub := by
    intro j hj
    unfold dkey
    rcases h with high | ⟨small, ne1, ne3, ne7, ne9⟩ <;> omega
  simp only [schedule, Channel.get_put_other ch v (other _ (.inl rfl)),
    Channel.get_put_other ch v (other _ (.inr (.inl rfl))), Channel.get_put_other ch v (other _ (.inr (.inr rfl)))]
  rfl

theorem schedule_orBits (ch : Channel) {off sub : Nat} (h : besideSchedule off sub) (m : Word) :
    schedule k (ch.orBits off sub m) = schedule k ch := schedule_put ch h _

theorem schedule_count (ch : Channel) {off sub : Nat} (h : besideSchedule off sub) (n bits : Nat) :
    schedule k (ch.count off sub n bits) = schedule k ch := schedule_put ch h _

/-- A change of a comparator that keeps its target. -/
theorem schedule_modCmp (ch : Channel) (j : Fin 5) {f : Cmp → Cmp} (h : ∀ m, (f m).target = m.target) :
    schedule k (ch.modCmp j f) = schedule k ch := by
  have target : (ch.modCmp j f).cmp[k.val].target = ch.cmp[k.val].target := by
    simp only [Channel.modCmp, Vector.getElem_set]
    split
    case isTrue e => simp only [h, e]
    case isFalse => rfl
  exact congrArg (·, _) target

theorem schedule_ite {p : Prop} [Decidable p] {a b ch : Channel} (ha : schedule k a = schedule k ch)
    (hb : schedule k b = schedule k ch) : schedule k (if p then a else b) = schedule k ch := by
  split <;> assumption

theorem schedule_foldl {α : Type} (l : List α) {f : Channel → α → Channel}
    (h : ∀ ch x, schedule k (f ch x) = schedule k ch) (ch : Channel) : schedule k (l.foldl f ch) = schedule k ch :=
  List.foldlRecOn (motive := fun x => schedule k x = schedule k ch) l f rfl fun x hx a _ => (h x a).trans hx

theorem schedule_writeDaybook (ch : Channel) (u num : Nat) (t : T64) (pay : Word) :
    schedule k (ch.writeDaybook u num t pay) = schedule k ch := schedule_ite rfl rfl

theorem schedule_pushCount (ch : Channel) (u num : Nat) (t : T64) (n : Nat) :
    schedule k (ch.pushCount u num t n) = schedule k ch := schedule_ite rfl rfl

theorem schedule_lose (ch : Channel) (now : T64) (i : Slot) (cause : BitVec 16) (n : Nat) (first last : T64) :
    schedule k (ch.lose now i cause n first last) = schedule k ch := by
  have counted : schedule k ((ch.modOwner i (·.lose cause n first last)).pushCount 0x3D 0x0B80 now n) = schedule k ch :=
    schedule_pushCount _ _ _ _ _
  exact schedule_ite rfl (schedule_ite ((schedule_orBits _ (.inl (by decide)) _).trans counted) counted)

theorem schedule_enqueue (ch : Channel) (now : T64) (r : Rec) : schedule k (ch.enqueue now r) = schedule k ch := by
  unfold Channel.enqueue
  refine schedule_ite rfl (schedule_ite rfl ?_)
  dsimp only
  split <;> exact schedule_foldl _ (fun x i => schedule_lose x now i _ _ _ _) ch

theorem schedule_hand (ch : Channel) (r : Rec) : schedule k (ch.hand r) = schedule k ch := schedule_ite rfl rfl

theorem schedule_occur (ch : Channel) (now t : T64) (epoch : Nat) (e : Ev) :
    schedule k (ch.occur now t epoch e) = schedule k ch := by
  unfold Channel.occur
  extract_lets noted counted _ matched
  have : schedule k noted = schedule k ch := schedule_ite (schedule_writeDaybook ch _ _ _ _) rfl
  have : schedule k counted = schedule k ch := (schedule_pushCount _ _ _ _ _).trans this
  have : schedule k matched = schedule k ch := schedule_ite this this
  exact schedule_ite ((schedule_enqueue _ _ _).trans this) this

theorem schedule_addFixed (ch : Channel) (j n : Nat) : schedule k (ch.addFixed j n).1 = schedule k ch := by
  unfold Channel.addFixed
  dsimp only
  split
  · exact (schedule_put _ (.inl (by decide)) _).trans (schedule_put ch (.inl (by decide)) _)
  · exact schedule_put ch (.inl (by decide)) _

theorem schedule_addProg (ch : Channel) (u i n : Nat) : schedule k (ch.addProg u i n).1 = schedule k ch := by
  have high : ∀ sub, besideSchedule (0x240 + u) sub := fun sub => .inl (by omega)
  unfold Channel.addProg
  dsimp only
  split
  · exact (schedule_put _ (high _) _).trans (schedule_put ch (high _) _)
  · exact schedule_put ch (high _) _

/-! ## States: operations on channel c -/

variable {c : Chan}

/-- The schedule of comparator k of channel c is the same in both states. -/
def SameSchedule (c : Chan) (k : Fin 5) (s t : State) : Prop := schedule k (t.chan c) = schedule k (s.chan c)

theorem SameSchedule.trans {s t u : State} (h : SameSchedule c k s t) (g : SameSchedule c k t u) : SameSchedule c k s u :=
  Eq.trans g h

theorem sameSchedule_setChan (s : State) {ch : Channel} (h : schedule k ch = schedule k (s.chan c)) :
    SameSchedule c k s (s.setChan c ch) := by
  rw [SameSchedule, State.chan_setChan_same, h]

theorem sameSchedule_modChan (s : State) {f : Channel → Channel} (h : ∀ ch, schedule k (f ch) = schedule k ch) :
    SameSchedule c k s (s.modChan c f) := sameSchedule_setChan s (h _)

theorem sameSchedule_ccount (s : State) {off sub : Nat} (h : besideSchedule off sub) (n bits : Nat) :
    SameSchedule c k s (s.ccount c off sub n bits) := sameSchedule_modChan s fun ch => schedule_count ch h n bits

theorem sameSchedule_ite {p : Prop} [Decidable p] {s a b : State} (ha : SameSchedule c k s a)
    (hb : SameSchedule c k s b) : SameSchedule c k s (if p then a else b) := by split <;> assumption

theorem sameSchedule_foldl {α : Type} (l : List α) {f : State → α → State} (h : ∀ t x, SameSchedule c k t (f t x))
    (s : State) : SameSchedule c k s (l.foldl f s) :=
  List.foldlRecOn (motive := SameSchedule c k s) l f rfl fun t ht x _ => ht.trans (h t x)

theorem sameSchedule_stamp (s : State) (u : Nat) : SameSchedule c k s (s.stamp c u).2 := by
  unfold State.stamp
  split
  · rfl
  · exact sameSchedule_setChan s.drawn rfl

theorem sameSchedule_event (s : State) (e : Ev) : SameSchedule c k s (s.event c e) := by
  unfold State.event
  refine sameSchedule_ite rfl ?_
  split
  · exact sameSchedule_modChan s fun ch => schedule_occur ch _ _ _ e
  · exact (sameSchedule_stamp s e.unit).trans (sameSchedule_modChan _ fun ch => schedule_occur ch _ _ _ e)

theorem sameSchedule_raiseVector (s : State) (v : Nat) : SameSchedule c k s (s.raiseVector c v) := by
  unfold State.raiseVector
  split
  · rfl
  · exact sameSchedule_ite (sameSchedule_modChan s fun _ => rfl) rfl

theorem sameSchedule_raiseIrq (s : State) (b : Fin 7) : SameSchedule c k s (s.raiseIrq c b) := by
  have status : SameSchedule c k s (s.modChan c fun ch => { ch with host := { ch.host with
      irqStatus := ch.host.irqStatus ||| BitVec.ofNat 7 (2 ^ b.val) } }) := sameSchedule_modChan s fun _ => rfl
  exact sameSchedule_ite rfl (sameSchedule_ite (status.trans (sameSchedule_raiseVector _ _)) status)

/-! ### Counters and Stocktake (R175 to R200) -/

theorem sameSchedule_land (s : State) (u num n : Nat) : SameSchedule c k s (s.land c u num n) := by
  have landed : ∀ (t : State) (x : Channel × Bool) (e : Ev), schedule k x.1 = schedule k (t.chan c) →
      SameSchedule c k t (if x.2 then (t.setChan c x.1).event c e else t.setChan c x.1) := fun t x e h =>
    sameSchedule_ite ((sameSchedule_setChan t h).trans (sameSchedule_event _ e)) (sameSchedule_setChan t h)
  unfold State.land
  refine sameSchedule_ite rfl ?_
  extract_lets fixed
  have first : SameSchedule c k s fixed := by
    dsimp only [fixed]
    split
    · rfl
    · next j _ => exact landed s ((s.chan c).addFixed j n) (wrapEvent 0x3E 0xFF j) (schedule_addFixed _ _ _)
  refine sameSchedule_ite (first.trans (sameSchedule_foldl _ (fun t i => ?_) fixed)) first
  exact sameSchedule_ite (landed t ((t.chan c).addProg u i n) (wrapEvent u i 0xFF) (schedule_addProg _ _ _ _)) rfl

theorem sameSchedule_landDue (s : State) : SameSchedule c k s (s.landDue c) := by
  have emptied : SameSchedule c k s (s.modChan c fun ch => { ch with
      countQ := ch.countQ.filter fun it => !(it.stamp.toNat + 8 ≤ s.now.toNat) }) := sameSchedule_modChan s fun _ => rfl
  exact emptied.trans (sameSchedule_foldl _ (fun t it => sameSchedule_land t _ _ _) _)

theorem sameSchedule_handAll (s : State) (l : Channel → List Rec) :
    SameSchedule c k s (s.modChan c fun ch => if ch.tracing then (l ch).foldl Channel.hand ch else ch) :=
  sameSchedule_modChan s fun ch => schedule_ite (schedule_foldl _ schedule_hand ch) rfl

theorem sameSchedule_gather (s : State) : SameSchedule c k s (s.gather c) := by
  have marked : SameSchedule c k s (s.modChan c fun ch => { ch with st0 := { ch.st0 with gatherAt := s.tclk } }) :=
    sameSchedule_modChan s fun _ => rfl
  refine sameSchedule_ite (marked.trans (sameSchedule_ccount _ (.inl (by decide)) _ _)) ?_
  exact (marked.trans (sameSchedule_landDue _)).trans (sameSchedule_handAll _ _)

theorem sameSchedule_freeze (s : State) (code trig : Nat) (e : Edge) : SameSchedule c k s (s.freeze c code trig e) := by
  unfold State.freeze
  extract_lets gathered latched counted recorded raised
  have : SameSchedule c k s gathered := sameSchedule_ite (sameSchedule_gather s) rfl
  have : SameSchedule c k s latched := this.trans (sameSchedule_modChan _ fun _ => rfl)
  have : SameSchedule c k s counted := this.trans (sameSchedule_ccount _ (.inl (by decide)) _ _)
  have : SameSchedule c k s recorded := this.trans (sameSchedule_event _ _)
  have : SameSchedule c k s raised := this.trans (sameSchedule_raiseIrq _ _)
  exact sameSchedule_ite (this.trans (sameSchedule_handAll _ _)) this

theorem sameSchedule_missTrigger (s : State) (code : Nat) : SameSchedule c k s (s.missTrigger c code) := by
  have missed : SameSchedule c k s (s.modChan c fun ch => { ch with st0 := { ch.st0 with missed := true } }) :=
    sameSchedule_modChan s fun _ => rfl
  exact (missed.trans (sameSchedule_ccount _ (.inl (by decide)) _ _)).trans (sameSchedule_event _ _)

theorem sameSchedule_trigger (s : State) (code trig : Nat) (e : Edge) : SameSchedule c k s (s.trigger c code trig e) := by
  unfold State.trigger
  dsimp only
  split
  · exact sameSchedule_freeze s code trig e
  · have merged : SameSchedule c k s (s.mergeTrigger c code trig) := sameSchedule_modChan s fun ch => schedule_ite rfl rfl
    exact sameSchedule_ite merged (sameSchedule_ite (sameSchedule_freeze s code trig e) (sameSchedule_missTrigger s code))
  · rfl

theorem sameSchedule_stocktake (s : State) (code trig : Nat) : SameSchedule c k s (s.stocktake c code trig) :=
  sameSchedule_ite ((sameSchedule_landDue s).trans (sameSchedule_trigger _ _ _ _)) rfl

/-! ### Pulses and ticks (R44, R46, R47) -/

theorem sameSchedule_pulse (s : State) (n : Fin 4) : SameSchedule c k s (s.pulse c n) := by
  have beside : ∀ sub, sub = 8 ∨ sub = 6 ∨ sub = 0x0A → besideSchedule (0x110 + n.val) sub := fun sub h => .inr (by omega)
  unfold State.pulse
  extract_lets j off edge
  have started : SameSchedule c k s edge := sameSchedule_ite rfl rfl
  refine started.trans (sameSchedule_modChan _ fun ch => Eq.trans (schedule_modCmp _ j fun _ => rfl) ?_)
  calc schedule k (((ch.count off 8 1).orBits off 6 bitFired).put off 0x0A edge.now)
      = schedule k ((ch.count off 8 1).orBits off 6 bitFired) := schedule_put _ (beside _ (by simp)) _
    _ = schedule k (ch.count off 8 1) := schedule_orBits _ (beside _ (by simp)) _
    _ = schedule k ch := schedule_count ch (beside _ (by simp)) _ _

theorem sameSchedule_cycleTick (s : State) : SameSchedule c k s (s.cycleTick c) := by
  unfold State.cycleTick
  extract_lets counted told pulsed
  have : SameSchedule c k s counted := sameSchedule_ccount s (.inr (by decide)) _ _
  have : SameSchedule c k s told := this.trans (sameSchedule_event _ _)
  have : SameSchedule c k s pulsed :=
    this.trans (sameSchedule_foldl _ (fun t n => sameSchedule_ite (sameSchedule_pulse t n) rfl) _)
  exact sameSchedule_ite (this.trans (sameSchedule_raiseVector _ _)) this

end

end Sys2Proof.Laws
end

section
/-! A periodic comparator keeps its schedule (O18). -/

namespace Sys2Proof.Laws

open Sys2Proof Sys2Proof.Machine

section
variable {s : State} {c : Chan} {k : Fin 5}

theorem whenChan_chanUp (f : State → Host.Outcome State Fault Refusal) (up : s.chanUp c = true) :
    s.whenChan c f = f s := if_pos up

/-! ## The next target (R45) -/

/-- The least multiple of the period past the fire. -/
theorem lt_boundaries_mul {late period : Nat} (h : 0 < period) : late < boundaries late period * period := by
  rw [boundaries, Nat.mul_comm]
  exact Nat.lt_mul_div_succ late h

theorem boundaries_mul_le (late period : Nat) : boundaries late period * period ≤ late + period := by
  rw [boundaries, Nat.add_one_mul]
  exact Nat.add_le_add_right (Nat.div_mul_le_self late period) period

theorem get_modCmp (ch : Channel) (f : Cmp → Cmp) (off sub : Nat) : (ch.modCmp k f).get off sub = ch.get off sub := rfl

theorem cmp_modCmp (ch : Channel) (f : Cmp → Cmp) : (ch.modCmp k f).cmp[k.val] = f ch.cmp[k.val] :=
  Vector.getElem_set_self _

/-- What the next target makes of the schedule. -/
def advanced (late : Nat) (x : T32 × Word × Word × Word) : T32 × Word × Word × Word :=
  (x.1 + BitVec.ofNat 32 (boundaries late x.2.2.1.toNat * x.2.2.1.toNat), x.2.1, x.2.2.1,
    w ((x.2.2.2.toNat + (boundaries late x.2.2.1.toNat - 1)) % 2 ^ 32))

theorem schedule_nextTarget (s : State) (c : Chan) (k : Fin 5) (late : Nat) :
    schedule k ((s.nextTarget c k late).chan c) = advanced late (schedule k (s.chan c)) := by
  have mode : dkey (cmpOff k) 1 ≠ dkey (cmpOff k) (cmpSkip k) := by unfold dkey cmpSkip; split <;> omega
  have period : dkey (cmpOff k) 3 ≠ dkey (cmpOff k) (cmpSkip k) := by unfold dkey cmpSkip; split <;> omega
  unfold State.nextTarget
  extract_lets per m moved
  have moves : schedule k (moved.chan c) = advanced late (schedule k (s.chan c)) := by
    simp only [moved, State.chan_modChan_same, schedule, advanced, cmp_modCmp, get_modCmp, Channel.count,
      Channel.get_put_same, Channel.get_put_other _ _ mode, Channel.get_put_other _ _ period]
    rfl
  have kept : SameSchedule c k moved (if m = 1 then moved else moved.event c
      { unit := 0x00, num := 0x0107, pay := payAt 8 k.val ||| payAt 12 (m - 1) }) :=
    sameSchedule_ite rfl (sameSchedule_event _ _)
  exact Eq.trans kept moves

/-! ## Firing (R41, R45, R65) -/

/-- A periodic comparator fires: after all the rest, which keeps its schedule, comes its next target. -/
theorem fireCmp_periodic {late : Nat} {isLate : Bool} (periodic : k.val < 4 → s.cnat c (cmpOff k) 1 = 2) :
    ∃ t, s.fireCmp c k late isLate = t.nextTarget c k late ∧ SameSchedule c k s t := by
  have status : besideSchedule (cmpOff k) (cmpStatus k) := .inr (by unfold cmpStatus; split <;> decide)
  unfold State.fireCmp
  extract_lets target pay marked fired told
  have : SameSchedule c k s marked := sameSchedule_modChan s fun ch => schedule_orBits ch status _
  have : SameSchedule c k s fired := this.trans (sameSchedule_event _ _)
  have same : SameSchedule c k s told := sameSchedule_ite (this.trans (sameSchedule_event _ _)) this
  by_cases trig : k.val < 4
  case neg => exact ⟨told.cycleTick c, dif_neg trig, same.trans (sameSchedule_cycleTick _)⟩
  case pos =>
    rw [dif_pos trig]
    extract_lets n pulsed taken
    have : SameSchedule c k s pulsed := same.trans (sameSchedule_pulse _ n)
    have same : SameSchedule c k s taken := sameSchedule_ite (this.trans (sameSchedule_stocktake _ _ _)) this
    have off : cmpOff k = 0x110 + n.val := if_pos trig
    have mode : taken.cnat c (0x110 + n.val) 1 = 2 := by
      rw [← off, ← periodic trig]
      exact congrArg (fun x => x.2.1.toNat) same
    exact ⟨taken, if_pos mode, same⟩

/-- An armed comparator that a step has crossed fires late (R65). -/
theorem exec_comparatorFire_crossed {d : Nat} (up : s.chanUp c = true) (armed : (s.chan c).armed k = true)
    (crossed : (s.chan c).cmp[k.val].crossed = some d) :
    exec (.comparatorFire c k) s = .next (s.fireCmp c k d true) := by
  change execComparatorFire c k s = _
  simp [execComparatorFire, whenChan_chanUp _ up, armed, crossed]

/-- An armed comparator whose target T32 has reached fires. -/
theorem exec_comparatorFire_reached (up : s.chanUp c = true) (armed : (s.chan c).armed k = true)
    (uncrossed : (s.chan c).cmp[k.val].crossed = none) (reached : 0 ≤ cmpDiff s.now32 (s.chan c).cmp[k.val].target) :
    exec (.comparatorFire c k) s =
      .next (s.fireCmp c k (cmpDiff s.now32 (s.chan c).cmp[k.val].target).toNat false) := by
  change execComparatorFire c k s = _
  simp [execComparatorFire, whenChan_chanUp _ up, armed, uncrossed, reached]

/-- An armed comparator whose target lies ahead does not fire. -/
theorem exec_comparatorFire_ahead (up : s.chanUp c = true) (armed : (s.chan c).armed k = true)
    (uncrossed : (s.chan c).cmp[k.val].crossed = none) (ahead : cmpDiff s.now32 (s.chan c).cmp[k.val].target < 0) :
    exec (.comparatorFire c k) s = .next s := by
  change execComparatorFire c k s = _
  simp [execComparatorFire, whenChan_chanUp _ up, armed, uncrossed, Int.not_le.2 ahead]

/-- A target less than 2^31 ns behind T32 is reached, by just that difference. -/
theorem cmpDiff_of_behind {now target : T32} (h : (now - target).toNat < 2 ^ 31) :
    cmpDiff now target = (now - target).toNat := by
  rw [cmpDiff, BitVec.toInt_eq_toNat_cond, if_pos (by omega)]

end

/-- Settles O18: either way to fire ends in the next target, and everything before it keeps the schedule. -/
theorem periodicTargetsKeepTheSchedule : Obligations.PeriodicTargetsKeepTheSchedule := by
  intro s c k period late up armed hperiod positive periodic fires
  refine ⟨lt_boundaries_mul positive, boundaries_mul_le late period, ?_⟩
  have fired : ∃ isLate, exec (.comparatorFire c k) s = .next (s.fireCmp c k late isLate) := by
    rcases fires with crossed | ⟨uncrossed, rfl, behind⟩
    · exact ⟨true, exec_comparatorFire_crossed up armed crossed⟩
    · have diff := cmpDiff_of_behind behind
      refine ⟨false, (exec_comparatorFire_reached up armed uncrossed (by omega)).trans ?_⟩
      rw [diff, Int.toNat_natCast]
  obtain ⟨isLate, fired⟩ := fired
  obtain ⟨u, ends, same⟩ := fireCmp_periodic (late := late) (isLate := isLate) periodic
  have moves : schedule k ((u.nextTarget c k late).chan c) = advanced late (schedule k (s.chan c)) :=
    (schedule_nextTarget u c k late).trans (congrArg (advanced late) same)
  subst hperiod
  refine ⟨_, fired.trans (congrArg _ ends), congrArg Prod.fst moves, ?_⟩
  calc _ = (advanced late (schedule k (s.chan c))).2.2.2.toNat := congrArg (fun x => x.2.2.2.toNat) moves
    _ = _ := BitVec.toNat_ofNat _ _
    _ = _ := Nat.mod_eq_of_lt (Nat.lt_trans (Nat.mod_lt _ (by decide)) (by decide))

end Sys2Proof.Laws
end

section
/-! The comparators' commands (O17): what each commit answers (R41, R44, R46, R47, R64), and each event that falls due. -/

namespace Sys2Proof.Laws

open Sys2Proof Sys2Proof.Machine

section
variable {s : State} {c : Chan} {n : Fin 4}

/-! ## The rows that write a member -/

theorem exec_trigTargetWrite (p : Path) (c : Chan) (n : Fin 4) (v : T32) (s : State) :
    exec (.trigTargetWrite p c n v) s =
      s.writeRow p (chanIndex c (0x110 + n.val)) 2 (leBytes 4 v.toNat) (trigTargetCommit c n v) := rfl

theorem exec_trigModeWrite (p : Path) (c : Chan) (n : Fin 4) (v : Byte) (s : State) :
    exec (.trigModeWrite p c n v) s =
      s.writeRow p (chanIndex c (0x110 + n.val)) 1 [v] (trigModeCommit c n v.toNat) := rfl

theorem exec_trigPeriodWrite (p : Path) (c : Chan) (n : Fin 4) (v : T32) (s : State) :
    exec (.trigPeriodWidthWrite p c n false v) s =
      s.writeRow p (chanIndex c (0x110 + n.val)) 3 (leBytes 4 v.toNat) (trigShapeCommit c n false v.toNat) := rfl

theorem exec_trigWidthWrite (p : Path) (c : Chan) (n : Fin 4) (v : T32) (s : State) :
    exec (.trigPeriodWidthWrite p c n true v) s =
      s.writeRow p (chanIndex c (0x110 + n.val)) 4 (leBytes 2 v.toNat) (trigShapeCommit c n true (v.toNat % 65536)) := rfl

theorem exec_cycleEnableWrite (p : Path) (c : Chan) (v : Byte) (s : State) :
    exec (.cycleEnableWrite p c v) s =
      s.writeRow p (chanIndex c 0x120) 1 [v] (cycleEnableCommit c v.toNat) := rfl

theorem exec_cycleFirstTickWrite (p : Path) (c : Chan) (v : T32) (s : State) :
    exec (.cycleFirstTickWrite p c v) s =
      s.writeRow p (chanIndex c 0x120) 2 (leBytes 4 v.toNat) (firstTickCommit c v.toNat) := rfl

/-! ## Commits -/

theorem trigTargetCommit_arms {v : T32}
    (fits : s.cnat c (0x110 + n.val) 1 = 2 → (s.chan c).widthClash (0x110 + n.val) = false) :
    trigTargetCommit c n v s = (0, s.modChan c fun ch =>
      let ch := ch.put (0x110 + n.val) 2 (w v.toNat)
      if s.cnat c (0x110 + n.val) 1 = 1 ∨ s.cnat c (0x110 + n.val) 1 = 2 then ch.startArming s.tclk ⟨n.val, by omega⟩
      else ch) :=
  if_neg fun ⟨mode, clash⟩ => by simp [fits mode] at clash

theorem trigTargetCommit_clash {v : T32} (mode : s.cnat c (0x110 + n.val) 1 = 2)
    (clash : (s.chan c).widthClash (0x110 + n.val) = true) : trigTargetCommit c n v s = (abortConflict, s) :=
  if_pos ⟨mode, clash⟩

theorem trigModeCommit_off : trigModeCommit c n 0 s =
    (0, s.modChan c fun ch => (ch.put (0x110 + n.val) 1 0).disarm ⟨n.val, by omega⟩) := rfl

theorem trigModeCommit_once : trigModeCommit c n 1 s = (0, s.cput c (0x110 + n.val) 1 1) := rfl

theorem trigModeCommit_follow : trigModeCommit c n 3 s = (0, s.modChan c fun ch =>
    ((ch.put (0x110 + n.val) 1 3).disarm ⟨n.val, by omega⟩).restartCounts ⟨n.val, by omega⟩) := rfl

theorem trigModeCommit_clash (arming : (s.chan c).arming ⟨n.val, by omega⟩ = true)
    (clash : (s.chan c).widthClash (0x110 + n.val) = true) : trigModeCommit c n 2 s = (abortConflict, s) :=
  if_pos ⟨rfl, arming, clash⟩

/-- Outside mode 2 a period or a width is taken, whatever the other is. -/
theorem trigShapeCommit_takes (mode : s.cnat c (0x110 + n.val) 1 ≠ 2) (width : Bool) (v : Nat) :
    trigShapeCommit c n width v s = (0, s.cput c (0x110 + n.val) (if width then 4 else 3) (w v)) :=
  if_neg fun other => mode other.1

theorem cycleEnableCommit_zero :
    cycleEnableCommit c 0 s = (0, s.modChan c fun ch => (ch.put 0x120 1 0).disarm 4) := rfl

theorem cycleEnableCommit_one (off : s.con c 0x120 1 = false) :
    cycleEnableCommit c 1 s = (0, s.modChan c fun ch => (ch.put 0x120 1 1).startArming s.tclk 4) := by
  simp [cycleEnableCommit, off, w]

theorem firstTickCommit_commits (v : Nat) : firstTickCommit c v s = (0, s.modChan c fun ch =>
    if (ch.put 0x120 2 (w v)).on 0x120 1 then (ch.put 0x120 2 (w v)).startArming s.tclk 4
    else ch.put 0x120 2 (w v)) := rfl

/-! ## Events that fall due -/

theorem exec_armingComplete {k : Fin 5} {t : Nat} (up : s.chanUp c = true)
    (arming : (s.chan c).cmp[k.val].arming = some t) (due : t ≤ s.tclk) :
    exec (.armingComplete c k) s = .next (s.completeArming c k) := by
  change execArmingComplete c k s = _
  simp [execArmingComplete, whenChan_chanUp _ up, arming, due]

theorem exec_trigPulseEnd {t : Nat} (up : s.chanUp c = true) (pulse : (s.chan c).cmp[n.val].pulseEnd = some t)
    (due : t ≤ s.tclk) :
    exec (.trigPulseEnd c n) s = .next ((s.modChan c fun ch =>
      ch.modCmp ⟨n.val, by omega⟩ fun m => { m with pulseEnd := none }).trigPin c n.val false) := by
  change execTrigPulseEnd c n s = _
  simp [execTrigPulseEnd, whenChan_chanUp _ up, pulse, due]

end

/-- Settles O17: each write by the answer of its commit, each event by its own lemma. -/
theorem triggerCommandsComplete : Obligations.TriggerCommandsComplete := by
  refine ⟨fun s p c pl m => ⟨?target, ?off, ?once, ?follow, ?period, ?width, ?disable, ?enable, ?firstTick⟩,
    fun s p c n pl m => ⟨?targetClash, ?modeClash⟩, fun s c up => ⟨?armed, ?reached, ?crossed, ?ahead, ?pulseEnd⟩⟩
  case target => exact fun n v h fits => (exec_trigTargetWrite ..).trans (writeRow_commits h (trigTargetCommit_arms fits))
  case off => exact fun n h => (exec_trigModeWrite ..).trans (writeRow_commits h trigModeCommit_off)
  case once => exact fun n h => (exec_trigModeWrite ..).trans (writeRow_commits h trigModeCommit_once)
  case follow => exact fun n h => (exec_trigModeWrite ..).trans (writeRow_commits h trigModeCommit_follow)
  case period =>
    exact fun n v h mode =>
      (exec_trigPeriodWrite ..).trans (writeRow_commits h (trigShapeCommit_takes mode false v.toNat))
  case width =>
    intro n v h mode small
    rw [exec_trigWidthWrite, Nat.mod_eq_of_lt small]
    exact writeRow_commits h (trigShapeCommit_takes mode true v.toNat)
  case disable => exact fun h => (exec_cycleEnableWrite ..).trans (writeRow_commits h cycleEnableCommit_zero)
  case enable => exact fun h off => (exec_cycleEnableWrite ..).trans (writeRow_commits h (cycleEnableCommit_one off))
  case firstTick =>
    exact fun v h _ => (exec_cycleFirstTickWrite ..).trans (writeRow_commits h (firstTickCommit_commits v.toNat))
  case targetClash =>
    exact fun v h mode clash =>
      (exec_trigTargetWrite ..).trans (writeRow_aborts h (trigTargetCommit_clash mode clash) (by decide))
  case modeClash =>
    exact fun h arming clash =>
      (exec_trigModeWrite ..).trans (writeRow_aborts h (trigModeCommit_clash arming clash) (by decide))
  case armed => exact fun k t => exec_armingComplete up
  case reached => exact fun k => exec_comparatorFire_reached up
  case crossed => exact fun k d => exec_comparatorFire_crossed up
  case ahead => exact fun k => exec_comparatorFire_ahead up
  case pulseEnd => exact fun n t => exec_trigPulseEnd up

end Sys2Proof.Laws
end

section
/-! PTP's messages and roles (O16), each command by a lemma of its own (R49, R55, R58 to R60). -/

namespace Sys2Proof.Laws

open Sys2Proof Sys2Proof.Machine

section
variable {s : State} {m : PtpMsg}

/-! ## Messages received (R58, R59) -/

theorem exec_announceReceived {a : Announce} (up : s.reeveUp = true) (hears : s.ptpHears a.domain = true)
    (other : a.sender ≠ s.clockId) (steps : a.stepsRemoved < 255) :
    exec (.announceReceived a) s = .next ((s.copyUtc a).bmca a) := by
  change execAnnounceReceived a s = _
  simp [execAnnounceReceived, whenReeve_reeveUp _ up, hears, other, steps]

/-- A Sync from the master starts an exchange, under the stamp of its reception. -/
theorem exec_syncReceived (up : s.reeveUp = true) (h : s.fromMaster m = true) :
    exec (.syncReceived m) s = .next { s.rxStamp.2 with ptp := { s.ptp with
      lastSync := some s.tclk, advertised := some m.logInterval
      exch := { s.ptp.exch with
        corr := m.correction, syncSeq := m.seqId, t1 := if m.twoStep then none else some m.stamp
        t2 := some s.rxStamp.1 } } } := by
  change execSyncReceived m s = _
  rw [execSyncReceived, whenReeve_reeveUp _ up]
  exact if_pos h

theorem exec_followUpReceived (up : s.reeveUp = true) (h : s.fromMaster m = true) (seq : s.ptp.exch.syncSeq = m.seqId)
    (t2 : s.ptp.exch.t2 ≠ none) (t1 : s.ptp.exch.t1 = none) :
    exec (.followUpReceived m) s = .next (({ s with ptp := { s.ptp with
      exch := { s.ptp.exch with t1 := some m.stamp, corr := s.ptp.exch.corr + m.correction } } }).completeExchange) := by
  change execFollowUpReceived m s = _
  simp [execFollowUpReceived, whenReeve_reeveUp _ up, h, seq, t1, Option.isSome_iff_ne_none.2 t2]

theorem exec_delayRespReceived (up : s.reeveUp = true) (h : s.fromMaster m = true) (own : m.requester = s.clockId)
    (seq : s.ptp.exch.reqSeq = m.seqId) (t4 : s.ptp.exch.t4 = none) :
    exec (.delayRespReceived m) s = .next (({ s with ptp := { s.ptp with
      exch := { s.ptp.exch with t4 := some (tInt m.stamp - m.correction) } } }).completeExchange) := by
  change execDelayRespReceived m s = _
  simp [execDelayRespReceived, whenReeve_reeveUp _ up, h, own, seq, t4]

theorem exec_delayReqReceived (up : s.reeveUp = true) (hears : s.ptpHears m.domain = true)
    (role : s.ptp.role = .master) :
    exec (.delayReqReceived m) s = .next (s.rxStamp.2.queuePtp (s.rxStamp.2.ptpFrame 9 0 m.correction m.seqId 3
      (s.rxStamp.2.mint 0x3010 7) (ptpStamp s.rxStamp.1 ++ beBytes 8 m.requester.toNat ++ [0, 1])) none) := by
  change execDelayReqReceived m s = _
  simp [execDelayReqReceived, whenReeve_reeveUp _ up, hears, role]

/-! ## Messages owed (R49, R58 to R60) -/

theorem exec_delayReqSend (up : s.reeveUp = true) (on : s.mon 0x3010 1 = true) (role : s.ptp.role = .slave)
    (due : s.ptp.lastReq + s.reqInterval ≤ s.tclk) :
    exec .delayReqSend s = .next (({ s with ptp := { s.ptp with
      reqSeq := s.ptp.reqSeq + 1, lastReq := s.tclk
      exch := { s.ptp.exch with reqSeq := s.ptp.reqSeq + 1, t3 := none, t4 := none } } }).queuePtp
        (s.ptpFrame 1 0 (-(s.mint 0x3010 0x0A)) (s.ptp.reqSeq + 1) 1 0x7F (zeros 10)) (some (1, s.ptp.reqSeq + 1))) := by
  change execDelayReqSend s = _
  simp [execDelayReqSend, whenReeve_reeveUp _ up, on, role, due]

/-- A node that waits for a beacon sends nothing by itself (R313). -/
theorem sendLate_waiting (waiting : s.plcaState = plcaWaiting) : s.sendLate = s := by
  have silent : s.mayTransmit = false := by rw [State.mayTransmit, waiting]; rfl
  unfold State.sendLate
  split
  · rw [silent]; rfl
  · rfl

/-- What such a node queues stays in the queue, where there is room (R321). -/
theorem enqueueTx_waiting (waiting : s.plcaState = plcaWaiting) (room : s.txq.length < 32) (f : TxFrame) :
    s.enqueueTx f = { s with txq := s.txq ++ [f] } := by
  have kept : ({ s with txq := s.txq ++ [f] } : State).sendLate = { s with txq := s.txq ++ [f] } :=
    sendLate_waiting waiting
  have assigned : ¬s.plcaState = plcaUnassigned := by rw [waiting]; decide
  have admits : ¬(s.plcaState = plcaListen ∧ f.cls ≠ .tlxEvent) := fun h => absurd (waiting.symm.trans h.1) (by decide)
  rw [State.enqueueTx, if_neg assigned, if_neg admits, if_neg (Nat.not_le.2 room), kept]

theorem exec_ptpSyncSend (up : s.reeveUp = true) (role : s.ptp.role = .master)
    (due : s.ptp.nextSyncT64.toNat ≤ s.now.toNat) (waiting : s.plcaState = plcaWaiting) :
    ∃ (t : State) (f : TlFrame), exec .ptpSyncSend s = .next t ∧ f ∈ t.tlq ∧ f.launch = s.ptp.nextSyncT64 ∧
      f.sync = some (s.ptp.syncSeq + 1) ∧ f.released = some s.tclk ∧ t.ptp.syncSeq = s.ptp.syncSeq + 1 := by
  change ∃ t f, execPtpSyncSend s = .next t ∧ _
  have queues : ¬(s.plcaState = plcaListen ∨ s.plcaState = plcaUnassigned) := by rw [waiting]; decide
  rw [execPtpSyncSend, whenReeve_reeveUp _ up, if_pos ⟨role, due⟩]
  extract_lets seq log f keep tlq
  refine ⟨_, f, congrArg _ (sendLate_waiting waiting), ?_, rfl, rfl, rfl, rfl⟩
  simp [tlq, if_neg queues]

theorem exec_announceSend (up : s.reeveUp = true) (role : s.ptp.role = .master)
    (due : s.ptp.lastAnn + tclkOfNs (logNs (s.mint 0x3010 8)) ≤ s.tclk) (waiting : s.plcaState = plcaWaiting)
    (room : s.txq.length < 32) :
    ∃ (t : State) (f : TxFrame), exec .announceSend s = .next t ∧ f ∈ t.txq ∧ f.cls = .ptpGeneral ∧
      t.ptp.annSeq = s.ptp.annSeq + 1 ∧ t.ptp.lastAnn = s.tclk := by
  change ∃ t f, execAnnounceSend s = .next t ∧ _
  rw [execAnnounceSend, whenReeve_reeveUp _ up, if_pos ⟨role, due⟩]
  have queues := enqueueTx_waiting
    (s := { s with ptp := { s.ptp with annSeq := s.ptp.annSeq + 1, lastAnn := s.tclk } }) waiting room
  exact ⟨_, _, congrArg _ (queues _), List.mem_append_right _ List.mem_cons_self, rfl, rfl, rfl⟩

theorem exec_syncBurstEnd {t : Nat} (up : s.reeveUp = true) (burst : s.ptp.burstEnd = some t) (due : t ≤ s.tclk) :
    exec .syncBurstEnd s = .next { s with ptp := { s.ptp with
      burstEnd := none, nextSyncT64 := nextMultiple s.now (logNs (s.mint 0x3010 6)) } } := by
  change execSyncBurstEnd s = _
  simp [execSyncBurstEnd, whenReeve_reeveUp _ up, burst, due]

/-- The transmit timestamp of the Delay_Req of the present exchange is its t3. -/
theorem exec_tsqDrain_delayReq {e : TsqEntry} {rest : List TsqEntry} (up : s.reeveUp = true)
    (oldest : s.ptp.tsq = e :: rest) (type : e.messageType ≠ syncType) (seq : e.seqId = s.ptp.exch.reqSeq) :
    exec .tsqDrain s = .next
      (let t := ({ s with ptp := { s.ptp with tsq := rest } }).mput 0x3020 1 (w rest.length)
       ({ t with ptp := { t.ptp with exch := { t.ptp.exch with t3 := some e.stamp } } }).completeExchange) := by
  change execTsqDrain s = _
  simp [execTsqDrain, whenReeve_reeveUp _ up, oldest, type, seq]

/-! ## Losses and changes of role (R55, R58) -/

theorem exec_masterLost {t : Nat} (up : s.reeveUp = true) (last : s.ptp.lastSync = some t)
    (source : s.mon 0x3001 2 = false) (state : s.time.ts = .acquiring ∨ s.time.ts = .locked)
    (due : t + 3 * s.lossInterval ≤ s.tclk) : exec .masterLost s = .next (s.enterHoldover masterLostBit) := by
  change execMasterLost s = _
  simp [execMasterLost, whenReeve_reeveUp _ up, last, source, state, due]

theorem exec_announceReceiptTimeout (up : s.reeveUp = true) (on : s.mon 0x3010 1 = true) (role : s.ptp.role ≠ .master)
    (due : s.ptp.lastAnnounce.getD 0 + s.mnat 0x3010 9 * tclkOfNs (logNs (s.mint 0x3010 8)) ≤ s.tclk)
    (mayLead : s.slaveOnly = false) :
    exec .announceReceiptTimeout s = .next
      ({ s with ptp := { s.ptp with lastAnnounce := some s.tclk } }).becomeMaster := by
  change execAnnounceReceiptTimeout s = _
  rw [execAnnounceReceiptTimeout, whenReeve_reeveUp _ up]
  dsimp only
  rw [if_pos ⟨on, role, due⟩]
  exact if_neg (ne_true_of_eq_false mayLead)

theorem exec_ptpEnableWrite (p : Path) (v : Byte) (s : State) :
    exec (.ptpEnableWrite p v) s = s.writeRow p 0x3010 1 [v] (ptpEnableCommit v.toNat) := rfl

theorem ptpEnableCommit_one : ptpEnableCommit 1 s = (0,
    let t := s.mput 0x3010 1 1
    { t with ptp := { t.ptp with lastAnnounce := some t.tclk } }) := rfl

theorem ptpEnableCommit_zero : ptpEnableCommit 0 s = (0,
    let t := s.mput 0x3010 1 0
    let t := if t.mon 0x3001 2 then t else t.enterHoldover masterLostBit
    { t with ptp := { t.ptp.dropMaster t.time.ts with role := .listening, burstEnd := none } }) := rfl

end

/-- Settles O16: each command by its own lemma. -/
theorem ptpCommandsComplete : Obligations.PtpCommandsComplete := by
  refine ⟨fun s up => ⟨?announce, ?sync, ?followUp, ?delayResp, ?delayReq, ?owed⟩,
    fun s => ⟨?lost, ?timeout, ?on, ?off⟩⟩
  case announce => exact fun a => exec_announceReceived up
  case sync => exact fun m h => ⟨_, exec_syncReceived up h, rfl, rfl, rfl, rfl, rfl⟩
  case followUp => exact fun m => exec_followUpReceived up
  case delayResp => exact fun m => exec_delayRespReceived up
  case delayReq => exact fun m => exec_delayReqReceived up
  case owed =>
    exact ⟨exec_delayReqSend up, exec_ptpSyncSend up, exec_announceSend up, fun t => exec_syncBurstEnd up,
      fun e rest => exec_tsqDrain_delayReq up⟩
  case lost => exact fun up t => exec_masterLost up
  case timeout => exact exec_announceReceiptTimeout
  case on => exact fun p pl m h => (exec_ptpEnableWrite ..).trans (writeRow_commits h ptpEnableCommit_one)
  case off => exact fun p pl m h => (exec_ptpEnableWrite ..).trans (writeRow_commits h ptpEnableCommit_zero)

end Sys2Proof.Laws
end

section
/-! The order of the admission test (O23, R94). -/

namespace Sys2Proof.Laws

open Sys2Proof Sys2Proof.Machine

section
variable {ch : Channel} {i : Slot} {b : Bytes} {now : T64}

theorem admission_notComputing (idle : ch.computing = false) : ch.admission i b now = .error rejNotComputing := by
  simp [Channel.admission, idle]

/-- A slot in retirement takes no descriptor (R265, log entry 130). -/
theorem admission_retiring (computing : ch.computing = true) (retiring : (ch.owner i).st = .retiring) :
    ch.admission i b now = .error rejCancelled := by
  simp [Channel.admission, computing, retiring]

theorem admission_badDescriptor (computing : ch.computing = true) (kept : (ch.owner i).st ≠ .retiring)
    (bad : descBad b = true) : ch.admission i b now = .error rejBadDescriptor := by
  simp [Channel.admission, computing, kept, bad]

/-- The port of an arrival is compared with the plan's ports only where the plan is ready. -/
theorem admission_noPlan (computing : ch.computing = true) (kept : (ch.owner i).st ≠ .retiring)
    (good : descBad b = false) (unready : (ch.plan (descOf b).plan).readyFor i = false) :
    ch.admission i b now = .error rejNoPlan := by
  simp [Channel.admission, computing, kept, good, unready]

/-- A test that refuses where p holds passes where p fails and what follows passes. -/
theorem ite_error_eq_ok {α : Type} {p : Prop} [Decidable p] {e : Nat} {x : Except Nat α} {r : α} :
    (if p then .error e else x) = .ok r ↔ ¬p ∧ x = .ok r := by
  split <;> simp [*]

theorem admission_ok {r : Nat × Nat × Bool} (h : ch.admission i b now = .ok r) :
    ch.computing = true ∧ (ch.plan (descOf b).plan).readyFor i = true ∧ ch.jobs.length < 64 ∧
      (ch.plan (descOf b).plan).floor ≤ ch.admitCeiling ∧ ch.overlaps (r.1, r.2.1) = false := by
  simp only [Channel.admission, ite_error_eq_ok] at h
  obtain ⟨computing, _, _, ready, _, room, floor, h⟩ := h
  split at h
  · cases h
  · obtain ⟨free, h⟩ := ite_error_eq_ok.1 h
    cases h
    exact ⟨by simpa using computing, by simpa using ready, Nat.not_le.1 room, Nat.not_lt.1 floor, by simpa using free⟩

end

/-- Settles O23: each refusal by its own lemma, and what an admitted descriptor has passed. -/
theorem admissionOrder : Obligations.AdmissionOrder :=
  fun _ _ _ _ => ⟨admission_notComputing, admission_retiring, admission_badDescriptor, admission_noPlan,
    fun _ => admission_ok⟩

end Sys2Proof.Laws
end

section
/-! SUPPORT. The dictionary members of a channel that an event leaves: all but the trace status 0x8300:06, where a loss
of staging is noted (R153, R173). -/

namespace Sys2Proof.Laws

open Sys2Proof Sys2Proof.Machine

section
variable {off sub : Nat}

theorem get_writeDaybook (ch : Channel) (u num : Nat) (t : T64) (pay : Word) :
    (ch.writeDaybook u num t pay).get off sub = ch.get off sub := by
  unfold Channel.writeDaybook
  split <;> rfl

theorem get_pushCount (ch : Channel) (u num : Nat) (t : T64) (n : Nat) :
    (ch.pushCount u num t n).get off sub = ch.get off sub := by
  unfold Channel.pushCount
  split <;> rfl

theorem get_lose (h : dkey off sub ≠ dkey 0x300 6) (ch : Channel) (now : T64) (i : Slot) (cause : BitVec 16) (n : Nat)
    (first last : T64) : (ch.lose now i cause n first last).get off sub = ch.get off sub := by
  unfold Channel.lose
  extract_lets counted
  have count : counted.get off sub = ch.get off sub := get_pushCount _ _ _ _ _
  split
  · rfl
  · split
    · exact (Channel.get_put_other _ _ h).trans count
    · exact count

theorem get_enqueue (h : dkey off sub ≠ dkey 0x300 6) (ch : Channel) (now : T64) (r : Rec) :
    (ch.enqueue now r).get off sub = ch.get off sub := by
  have lost : ∀ l : List Slot, (l.foldl (fun ch i => ch.lose now i lossSourceQueue 1 r.t r.t) ch).get off sub =
      ch.get off sub := fun l =>
    List.foldlRecOn (motive := fun x => Channel.get x off sub = ch.get off sub) l _ rfl
      fun x hx i _ => (get_lose h x now i _ _ _ _).trans hx
  unfold Channel.enqueue
  dsimp only
  split
  · rfl
  · split
    · rfl
    · split <;> exact lost _

theorem get_occur (h : dkey off sub ≠ dkey 0x300 6) (ch : Channel) (now t : T64) (epoch : Nat) (e : Ev) :
    (ch.occur now t epoch e).get off sub = ch.get off sub := by
  unfold Channel.occur
  extract_lets noted counted _ matched
  have note : noted.get off sub = ch.get off sub := by
    dsimp only [noted]
    split
    · exact get_writeDaybook ..
    · rfl
  have count : counted.get off sub = ch.get off sub := (get_pushCount ..).trans note
  have matching : matched.get off sub = ch.get off sub := by
    dsimp only [matched]
    split <;> exact count
  split
  · exact (get_enqueue h ..).trans matching
  · exact matching

variable {c : Chan}

theorem get_stamp (s : State) (u : Nat) : ((s.stamp c u).2.chan c).get off sub = (s.chan c).get off sub := by
  unfold State.stamp
  split
  · rfl
  · dsimp only
    rw [State.chan_setChan_same]
    rfl

theorem get_event (h : dkey off sub ≠ dkey 0x300 6) (s : State) (e : Ev) :
    ((s.event c e).chan c).get off sub = (s.chan c).get off sub := by
  unfold State.event
  split
  · rfl
  · split
    · rw [State.chan_modChan_same, get_occur h]
    · dsimp only
      rw [State.chan_modChan_same, get_occur h, get_stamp]

theorem portState_event (s : State) (e : Ev) (p : Port) :
    ((s.event c e).chan c).portState p = (s.chan c).portState p :=
  congrArg BitVec.toNat (get_event (by unfold dkey portOff; omega) s e)

end

end Sys2Proof.Laws
end

section
/-! Training of a link, its loss and its mode (O19). -/

namespace Sys2Proof.Laws

open Sys2Proof Sys2Proof.Machine

section
variable {s : State} {c : Chan} {p : Port}

/-! ## Blocks sent (R83, R84) -/

theorem blockCrcOk_block (r : RPort) (p : Port) (kind : Byte) (lane : Nat) : blockCrcOk (r.block p kind lane) = true :=
  beq_self_eq_true _

theorem out_sendBlocks (s : State) (c : Chan) (p : Port) (kind : Byte) :
    ∃ lanes, (s.sendBlocks c p kind).out =
      s.out ++ [.training c p ((List.range 4).map (((s.chan c).port p).block p kind)) lanes] := ⟨_, rfl⟩

/-- What a port sends turns its scramblers alone. -/
theorem sender_sendBlocks (s : State) (c : Chan) (p : Port) (kind : Byte) :
    (((s.sendBlocks c p kind).chan c).port p).sender = ((s.chan c).port p).sender := by
  unfold State.sendBlocks
  dsimp only
  rw [State.emit_chan, State.chan_modChan_same, Channel.port_setPort_same]
  rfl

theorem portState_setPort (ch : Channel) (p q : Port) (r : RPort) : (ch.setPort p r).portState q = ch.portState q := rfl

theorem portState_put (ch : Channel) (p : Port) (v : Word) : (ch.put (portOff p) 2 v).portState p = v.toNat :=
  congrArg BitVec.toNat (Channel.get_put_same ..)

theorem portState_put_other (ch : Channel) (p : Port) {sub : Nat} (h : sub ≠ 2) (v : Word) :
    (ch.put (portOff p) sub v).portState p = ch.portState p :=
  congrArg BitVec.toNat (Channel.get_put_other _ _ (by unfold dkey; omega))

theorem portState_sendBlocks (s : State) (c : Chan) (p : Port) (kind : Byte) :
    ((s.sendBlocks c p kind).chan c).portState p = (s.chan c).portState p := by
  unfold State.sendBlocks
  dsimp only
  rw [State.emit_chan, State.chan_modChan_same, portState_setPort]

/-! ## Training's steps (R84) -/

/-- The port as its training starts: its sender ID, and the receive slots and scramblers that the manual leaves open. -/
def portTraining (s : State) (c : Chan) (p : Port) : RPort :=
  { (s.chan c).port p with
    sender := s.senderId c p, offered := s.freeIn 1 65535
    scram := (List.range 4).map fun i => BitVec.ofNat 58 (Config.freeNat (s.free + 1 + i)) }

/-- The state as the port enters TRAIN, before it sends. -/
def trainEntered (s : State) (c : Chan) (p : Port) : State :=
  { s.modChan c fun ch => (ch.setPort p (portTraining s c p)).put (portOff p) 2 1 with free := s.free + 5 }

theorem chan_trainEntered (s : State) (c : Chan) (p : Port) :
    (trainEntered s c p).chan c = ((s.chan c).setPort p (portTraining s c p)).put (portOff p) 2 1 :=
  State.chan_modChan_same s c fun ch => (ch.setPort p (portTraining s c p)).put (portOff p) 2 1

theorem port_trainEntered (s : State) (c : Chan) (p : Port) :
    ((trainEntered s c p).chan c).port p = portTraining s c p := by
  rw [chan_trainEntered]
  exact Channel.port_setPort_same ..

theorem exec_linkTrainStart (up : s.chanUp c = true) (down : (s.chan c).portState p = 0)
    (mode : (s.chan c).nat (portOff p) 1 ≠ 0) (booted : (s.chan c).st ≠ .booting) (free : (s.chan c).st ≠ .quarantine)
    (runs : (s.chan c).stopped = false) (due : ((s.chan c).port p).downSince + tclkOfMs 1 ≤ s.tclk) :
    exec (.linkTrainStart c p) s = .next ((trainEntered s c p).sendBlocks c p 1) := by
  change execLinkTrainStart c p s = _
  exact (whenChan_chanUp _ up).trans (if_pos ⟨down, mode, booted, free, runs, due⟩)

/-- In TRAIN a TS1 leaves on every lane under the port's sender ID. -/
theorem trainEntered_sends (s : State) (c : Chan) (p : Port) :
    (((trainEntered s c p).sendBlocks c p 1).chan c).portState p = 1 ∧
      ((((trainEntered s c p).sendBlocks c p 1).chan c).port p).sender = s.senderId c p ∧
      ∃ (blocks : List TrainingBlock) (lanes : List Bytes),
        ((trainEntered s c p).sendBlocks c p 1).out = s.out ++ [.training c p blocks lanes] ∧
        blocks.map (·.lane) = [0, 1, 2, 3] ∧
        ∀ b, b ∈ blocks → b.marker = 0xB5C3E11D ∧ b.kind = 1 ∧ b.port = BitVec.ofNat 8 p.val ∧ b.version = 1 ∧
          b.sender = s.senderId c p ∧ blockCrcOk b = true := by
  obtain ⟨lanes, sent⟩ := out_sendBlocks (trainEntered s c p) c p 1
  rw [port_trainEntered] at sent
  refine ⟨?state, ?sender, _, lanes, sent, rfl, ?blocks⟩
  case state =>
    rw [portState_sendBlocks, chan_trainEntered, portState_put]
    rfl
  case sender =>
    rw [sender_sendBlocks, port_trainEntered]
    rfl
  case blocks =>
    intro b hb
    obtain ⟨lane, _, rfl⟩ := List.mem_map.1 hb
    exact ⟨rfl, rfl, rfl, rfl, rfl, blockCrcOk_block ..⟩

section
variable {lanes : List TrainingBlock} (up : s.chanUp c = true) (arrive : s.blocksArrive c p lanes = true)
include up arrive

theorem exec_trainingBlockReceived_train (skew : Nat) (train : (s.chan c).portState p = 1) :
    exec (.trainingBlockReceived c p lanes skew) s = .next (s.trainStep c p lanes skew) := by
  change execTrainingBlockReceived c p lanes skew s = _
  simp [execTrainingBlockReceived, whenChan_chanUp _ up, arrive, train]

theorem exec_trainingBlockReceived_confirm (skew : Nat) (confirm : (s.chan c).portState p = 2) :
    exec (.trainingBlockReceived c p lanes skew) s = .next (s.confirmStep c p lanes) := by
  change execTrainingBlockReceived c p lanes skew s = _
  simp [execTrainingBlockReceived, whenChan_chanUp _ up, arrive, confirm]

/-- A port in UP takes no training block (R86). -/
theorem exec_trainingBlockReceived_up (skew : Nat) (isUp : (s.chan c).portState p = 3) :
    exec (.trainingBlockReceived c p lanes skew) s = .next (s.linkFault c p causeTraining) := by
  change execTrainingBlockReceived c p lanes skew s = _
  simp [execTrainingBlockReceived, whenChan_chanUp _ up, arrive, isUp]

end

/-- Four valid blocks in lane order, close enough to one another, are answered with TS2. -/
theorem portState_trainStep {lanes : List TrainingBlock} {skew : Nat} (four : lanes.length = 4)
    (valid : lanes.all blockValid = true) (order : lanes.map (·.lane) = [0, 1, 2, 3]) (close : skew ≤ 16) :
    ((s.trainStep c p lanes skew).chan c).portState p = 2 := by
  have taken : ((lanes.length == 4 && lanes.all blockValid) && lanes.map (·.lane) == [0, 1, 2, 3] &&
      decide (skew ≤ 16)) = true := by simp [four, valid, order, close]
  unfold State.trainStep
  dsimp only
  rw [if_pos taken, portState_sendBlocks, State.chan_modChan_same, portState_put]
  rfl

theorem chan_startMeasure (s : State) : s.startMeasure.chan = s.chan := by
  unfold State.startMeasure
  dsimp only
  split
  · rfl
  · split <;> rfl

theorem portState_linkUp (b : TrainingBlock) : ((s.linkUp c p b).chan c).portState p = 3 := by
  unfold State.linkUp
  extract_lets fresh entered reported
  have enters : (entered.chan c).portState p = 3 := by
    dsimp only [entered]
    rw [State.chan_modChan_same, portState_put_other _ _ (by decide), portState_put]
    rfl
  have reports : (reported.chan c).portState p = 3 := (portState_event _ _ p).trans enters
  split
  · rw [chan_startMeasure]
    exact reports
  · exact reports

/-- The sixteenth set of valid TS2. -/
theorem portState_confirmStep {b : TrainingBlock} {rest : List TrainingBlock} (four : (b :: rest).length = 4)
    (valid : (b :: rest).all blockValid = true) (ts2 : ((b :: rest).all fun x => x.kind == 2) = true)
    (last : 15 ≤ ((s.chan c).port p).ts2) : ((s.confirmStep c p (b :: rest)).chan c).portState p = 3 := by
  have taken : ((b :: rest).length == 4 && (b :: rest).all fun x => blockValid x && x.kind == 2) = true := by
    simp only [Bool.and_eq_true, beq_iff_eq, List.all_eq_true] at valid ts2 ⊢
    exact ⟨four, fun x hx => ⟨valid x hx, ts2 x hx⟩⟩
  unfold State.confirmStep
  rw [if_pos taken]
  dsimp only
  rw [if_pos (Nat.succ_le_succ last), portState_linkUp]

/-! ## Loss and mode (R84, R86, R87) -/

theorem exec_signalLoss (up : s.chanUp c = true) (portUp : (s.chan c).portUp p = true) :
    exec (.signalLoss c p) s = .next (s.linkFault c p causeSignal) := by
  change execSignalLoss c p s = _
  simp [execSignalLoss, whenChan_chanUp _ up, portUp]

theorem exec_portModeWrite (path : Path) (c : Chan) (p : Port) (v : Byte) (s : State) :
    exec (.portModeWrite path c p v) s =
      s.writeRow path (chanIndex c (portOff p)) 1 [v] (portModeCommit c p v.toNat) := rfl

theorem portModeCommit_refused (board : p.val < 2) : portModeCommit c p 2 s = (abortInvalid, s) :=
  if_pos ⟨rfl, board⟩

theorem portModeCommit_allowed {v : Nat} (fits : ¬(v = 2 ∧ p.val < 2)) : portModeCommit c p v s =
    (0, (if (s.chan c).portUp p then s.linkFault c p causeMode
      else if (s.chan c).portState p ≠ 0 then s.portDown c p causeMode else s).cput c (portOff p) 1 (w v)) :=
  if_neg fits

theorem portModeCommit_down {v : Nat} (fits : ¬(v = 2 ∧ p.val < 2)) (down : (s.chan c).portState p = 0) :
    portModeCommit c p v s = (0, s.cput c (portOff p) 1 (w v)) := by
  simp [portModeCommit_allowed fits, Channel.portUp, down]

theorem portModeCommit_training {v : Nat} (fits : ¬(v = 2 ∧ p.val < 2)) (notUp : (s.chan c).portUp p = false)
    (trains : (s.chan c).portState p ≠ 0) :
    portModeCommit c p v s = (0, (s.portDown c p causeMode).cput c (portOff p) 1 (w v)) := by
  simp [portModeCommit_allowed fits, notUp, trains]

theorem portModeCommit_up {v : Nat} (fits : ¬(v = 2 ∧ p.val < 2)) (isUp : (s.chan c).portUp p = true) :
    portModeCommit c p v s = (0, (s.linkFault c p causeMode).cput c (portOff p) 1 (w v)) := by
  simp [portModeCommit_allowed fits, isUp]

end

/-- Settles O19: training's commands and steps each by its own lemma, the mode writes by what their commit answers. -/
theorem linkTrainingCompletes : Obligations.LinkTrainingCompletes := by
  refine ⟨fun s c p up => ⟨?start, ?blocks, ?loss⟩, fun s path c p v pl m h => ⟨?refused, fun allowed => ?mode⟩,
    fun s c p lanes skew four valid => ⟨?train, ?confirm⟩⟩
  case start =>
    intro down mode booted free runs due
    obtain ⟨state, sender, blocks, lanes, sent⟩ := trainEntered_sends s c p
    exact ⟨_, blocks, lanes, exec_linkTrainStart up down mode booted free runs due, state, sender, sent⟩
  case blocks =>
    exact fun lanes skew arrive => ⟨exec_trainingBlockReceived_train up arrive skew,
      exec_trainingBlockReceived_confirm up arrive skew, exec_trainingBlockReceived_up up arrive skew⟩
  case loss => exact exec_signalLoss up
  case refused =>
    rintro rfl board
    exact (exec_portModeWrite ..).trans (writeRow_aborts h (portModeCommit_refused board) (by decide))
  case mode =>
    have fits : ¬(v.toNat = 2 ∧ p.val < 2) := by
      rintro ⟨two, board⟩
      exact allowed.elim (fun other => other (BitVec.eq_of_toNat_eq two)) (Nat.not_le.2 board)
    refine ⟨fun down => ?_, fun notUp trains => ?_, fun isUp => ?_⟩
    · exact (exec_portModeWrite ..).trans (writeRow_commits h (portModeCommit_down fits down))
    · exact (exec_portModeWrite ..).trans (writeRow_commits h (portModeCommit_training fits notUp trains))
    · exact (exec_portModeWrite ..).trans (writeRow_commits h (portModeCommit_up fits isUp))
  case train => exact portState_trainStep four valid
  case confirm =>
    rintro b rest rfl ts2 last -
    exact portState_confirmStep four valid ts2 last

end Sys2Proof.Laws
end

section
/-! Flits received (O20) and sent (O21). -/

namespace Sys2Proof.Laws

open Sys2Proof Sys2Proof.Machine

section
variable {s t : State} {c : Chan} {p : Port} {f : Flit}

/-! ## Reception (R82, R85) -/

theorem exec_flitReceived (up : s.chanUp c = true) (portUp : (s.chan c).portUp p = true)
    (arrives : s.arrive c p f = some t) : exec (.flitReceived c p f) s = .next (t.takeFlit c p f) := by
  change execFlitReceived c p f s = _
  simp [execFlitReceived, whenChan_chanUp _ up, portUp, arrives]

theorem takeFlit_badCrc (bad : crc32 (flitBytes f) ≠ f.crc) : s.takeFlit c p f =
    ((s.modChan c fun ch => ch.setPort p ((s.chan c).port p).wantNak).ccount c (portOff p) 4 1).event c
      { unit := 0x38 + p.val, num := 0x0940, pay := payAt 8 ((s.chan c).port p).rxNext.toNat } := if_pos bad

/-- The state once the credits and the acknowledgement of a good flit are taken. -/
def creditsTaken (s : State) (c : Chan) (p : Port) (f : Flit) : State :=
  s.modChan c fun ch => ch.modPort p fun r => r.takeFields s.tclk f

section
variable (good : crc32 (flitBytes f) = f.crc)
include good

theorem takeFlit_idle (type : f.type = 0) : s.takeFlit c p f = creditsTaken s c p f := by
  rw [State.takeFlit, if_neg (not_not_intro good), type]
  rfl

theorem takeFlit_data (type : f.type = 1) : s.takeFlit c p f = (creditsTaken s c p f).takeData c p f := by
  rw [State.takeFlit, if_neg (not_not_intro good), type]
  rfl

theorem takeFlit_nak (type : f.type = 3) : s.takeFlit c p f =
    ((creditsTaken s c p f).modChan c fun ch =>
      ch.modPort p (·.takeNak (BitVec.ofNat 16 (leField f.payload 0 2)))).replay c p := by
  rw [State.takeFlit, if_neg (not_not_intro good), type]
  rfl

theorem takeFlit_reserved (type : f.type ≠ 0 ∧ f.type ≠ 1 ∧ f.type ≠ 3) :
    s.takeFlit c p f = (creditsTaken s c p f).forbidden c p := by
  obtain ⟨idle, data, nak⟩ := type
  rw [State.takeFlit, if_neg (not_not_intro good)]
  dsimp only
  split
  · exact absurd ‹_› idle
  · exact absurd ‹_› data
  · exact absurd ‹_› nak
  · rfl

end

theorem takeData_badLength (length : f.length = 0 ∨ 240 < f.length.toNat) : s.takeData c p f = s.forbidden c p :=
  if_pos length

section
variable (fits : ¬(f.length = 0 ∨ 240 < f.length.toNat))
include fits

theorem takeData_outOfOrder (other : f.seq ≠ ((s.chan c).port p).rxNext) :
    s.takeData c p f = s.modChan c fun ch => ch.setPort p ((s.chan c).port p).wantNak :=
  (if_neg fits).trans (if_pos other)

variable (next : f.seq = ((s.chan c).port p).rxNext)
include next

theorem takeData_noCredit (spent : ((s.chan c).port p).offered = 0) :
    s.takeData c p f = s.linkFault c p causeCredit :=
  (if_neg fits).trans ((if_neg (not_not_intro next)).trans (if_pos spent))

variable (credit : ((s.chan c).port p).offered ≠ 0)
include credit

theorem takeData_outOfFrame (outside : ((s.chan c).port p).outOfFrame f = true) :
    s.takeData c p f = s.forbidden c p :=
  (if_neg fits).trans ((if_neg (not_not_intro next)).trans ((if_neg credit).trans (if_pos outside)))

theorem takeData_accepted (inside : ((s.chan c).port p).outOfFrame f = false) : s.takeData c p f =
    ((s.modChan c fun ch => ch.setPort p { (s.chan c).port p with
      rxNext := ((s.chan c).port p).rxNext + 1, nakked := false, nakDue := false
      offered := ((s.chan c).port p).offered - 1 }).modChan c
        (·.pushCount (0x38 + p.val) 0x0981 s.now)).acceptData c p f :=
  (if_neg fits).trans
    ((if_neg (not_not_intro next)).trans ((if_neg credit).trans (if_neg (ne_true_of_eq_false inside))))

end

theorem freeIn_le (s : State) (lo hi : Nat) (h : lo ≤ hi) : s.freeIn lo hi ≤ hi := by
  have below : Config.freeNat s.free % (hi - lo + 1) < hi - lo + 1 := Nat.mod_lt _ (Nat.succ_pos _)
  unfold State.freeIn
  omega

/-- The three reactions that the manual leaves open (R1, log entry 100). -/
theorem forbidden_cases (s : State) (c : Chan) (p : Port) :
    s.forbidden c p = s.drawn ∨ s.forbidden c p = s.drawn.modChan c (fun ch => ch.modPort p (·.wantNak)) ∨
      ∃ cause : Nat, 1 ≤ cause ∧ cause ≤ 7 ∧ s.forbidden c p = s.drawn.drawn.linkFault c p cause := by
  unfold State.forbidden
  split
  · exact .inl rfl
  · exact .inr (.inl rfl)
  · exact .inr (.inr ⟨_, Nat.le_add_right _ _, freeIn_le _ _ _ (by decide), rfl⟩)

/-- A flit that R82 or R85 forbids. -/
theorem takeFlit_forbidden (good : crc32 (flitBytes f) = f.crc)
    (h : (f.type ≠ 0 ∧ f.type ≠ 1 ∧ f.type ≠ 3) ∨ (f.type = 1 ∧ (f.length = 0 ∨ 240 < f.length.toNat)) ∨
      (f.type = 1 ∧ f.seq = (((creditsTaken s c p f).chan c).port p).rxNext ∧
        (((creditsTaken s c p f).chan c).port p).offered ≠ 0 ∧
        (((creditsTaken s c p f).chan c).port p).outOfFrame f = true)) :
    s.takeFlit c p f = (creditsTaken s c p f).forbidden c p := by
  rcases h with reserved | ⟨data, length⟩ | ⟨data, next, credit, outside⟩
  · exact takeFlit_reserved good reserved
  · exact (takeFlit_data good data).trans (takeData_badLength length)
  · rw [takeFlit_data good data]
    by_cases length : f.length = 0 ∨ 240 < f.length.toNat
    · exact takeData_badLength length
    · exact takeData_outOfFrame length next credit outside

/-! ## Sending (R85) -/

/-- An IDLE is sent, and rate matching starts anew. -/
def idleSent (s : State) (c : Chan) (p : Port) : State :=
  (s.sendFlit c p idleFlit).modChan c fun ch => ch.modPort p fun r => { r with sinceIdle := 0 }

section
variable {d : TxData} {rest : List TxData} {pay : Bytes}
variable (up : s.chanUp c = true) (portUp : (s.chan c).portUp p = true)
include up portUp

theorem exec_dataFlitSend_rateMatching (due : 4095 ≤ ((s.chan c).port p).sinceIdle) :
    exec (.dataFlitSend c p) s = .next (idleSent s c p) := by
  change execDataFlitSend c p s = _
  simp [execDataFlitSend, whenChan_chanUp _ up, portUp, due, idleSent]

theorem exec_replayTimeout (kept : ((s.chan c).port p).replay ≠ [])
    (due : ((s.chan c).port p).ackAt + tclkOfUs 2 ≤ s.tclk) : exec (.replayTimeout c p) s = .next (s.replay c p) := by
  change execReplayTimeout c p s = _
  simp [execReplayTimeout, whenChan_chanUp _ up, portUp, kept, due]

variable (sending : ((s.chan c).port p).sinceIdle < 4095)
include sending

theorem exec_dataFlitSend_nak (nak : ((s.chan c).port p).nakDue = true) : exec (.dataFlitSend c p) s = .next
    ((s.modChan c fun ch => ch.setPort p { (s.chan c).port p with nakDue := false }).sendFlit c p
      (nakFlit ((s.chan c).port p).rxNext)) := by
  change execDataFlitSend c p s = _
  simp [execDataFlitSend, whenChan_chanUp _ up, portUp, Nat.not_le.2 sending, nak]

variable (noNak : ((s.chan c).port p).nakDue = false)
include noNak

theorem exec_dataFlitSend_resend {g : Flit} {rest : List Flit} (resend : ((s.chan c).port p).resend = g :: rest) :
    exec (.dataFlitSend c p) s = .next (s.resendFlit c p g rest) := by
  change execDataFlitSend c p s = _
  simp [execDataFlitSend, whenChan_chanUp _ up, portUp, Nat.not_le.2 sending, noNak, resend]

variable (noResend : ((s.chan c).port p).resend = [])
include noResend

theorem exec_dataFlitSend_data (waits : ((s.chan c).port p).txq = d :: rest) (credit : 0 < ((s.chan c).port p).credits)
    (room : ((s.chan c).port p).replay.length < 128) (ready : (s.chan c).nextPayload d = some pay) :
    exec (.dataFlitSend c p) s = .next (s.sendData c p d rest pay) := by
  change execDataFlitSend c p s = _
  simp [execDataFlitSend, whenChan_chanUp _ up, portUp, Nat.not_le.2 sending, noNak, noResend, waits, credit, room,
    ready]

theorem exec_dataFlitSend_held (waits : ((s.chan c).port p).txq = d :: rest)
    (held : ((s.chan c).port p).credits = 0 ∨ 128 ≤ ((s.chan c).port p).replay.length) :
    exec (.dataFlitSend c p) s = .next (idleSent s c p) := by
  have blocked : ¬(0 < ((s.chan c).port p).credits ∧ ((s.chan c).port p).replay.length < 128) := by omega
  change execDataFlitSend c p s = _
  simp [execDataFlitSend, whenChan_chanUp _ up, portUp, Nat.not_le.2 sending, noNak, noResend, waits, if_neg blocked,
    idleSent]

theorem exec_dataFlitSend_nothing (empty : ((s.chan c).port p).txq = []) :
    exec (.dataFlitSend c p) s = .next (idleSent s c p) := by
  change execDataFlitSend c p s = _
  simp [execDataFlitSend, whenChan_chanUp _ up, portUp, Nat.not_le.2 sending, noNak, noResend, empty, idleSent]

end

end

/-- Settles O20: a flit is taken as its CRC, its type and its order say. -/
theorem flitReceptionCompletes : Obligations.FlitReceptionCompletes := by
  refine ⟨fun s₀ s c p f up portUp arrives => ?_, fun s₀ s c p f up portUp arrives good => ?_⟩
  · have inRange : f.length ≠ 0 → f.length.toNat ≤ 240 → ¬(f.length = 0 ∨ 240 < f.length.toNat) :=
      fun nonempty fits => not_or.2 ⟨nonempty, Nat.not_lt.2 fits⟩
    rw [exec_flitReceived up portUp arrives]
    refine ⟨fun bad => congrArg _ (takeFlit_badCrc bad), fun good => ⟨?idle, ?nak, ?order, ?credit, ?accepted⟩⟩
    case idle => exact fun type => congrArg _ (takeFlit_idle good type)
    case nak => exact fun type => congrArg _ (takeFlit_nak good type)
    case order =>
      exact fun type nonempty fits other =>
        congrArg _ ((takeFlit_data good type).trans (takeData_outOfOrder (inRange nonempty fits) other))
    case credit =>
      exact fun type nonempty fits next spent =>
        congrArg _ ((takeFlit_data good type).trans (takeData_noCredit (inRange nonempty fits) next spent))
    case accepted =>
      exact fun type nonempty fits next credit inside =>
        congrArg _ ((takeFlit_data good type).trans (takeData_accepted (inRange nonempty fits) next credit inside))
  · intro t forbidden
    refine ⟨_, exec_flitReceived up portUp arrives, ?_⟩
    rw [takeFlit_forbidden good forbidden]
    exact forbidden_cases _ c p

/-- Settles O21: what is sent, in the order of R85, each by its own lemma. -/
theorem flitSendingCompletes : Obligations.FlitSendingCompletes :=
  fun _ _ _ up portUp => ⟨exec_dataFlitSend_rateMatching up portUp,
    fun sending => ⟨exec_dataFlitSend_nak up portUp sending,
      fun _ _ noNak => exec_dataFlitSend_resend up portUp sending noNak,
      fun _ _ _ => exec_dataFlitSend_data up portUp sending, fun _ _ => exec_dataFlitSend_held up portUp sending,
      exec_dataFlitSend_nothing up portUp sending⟩,
    exec_replayTimeout up portUp⟩

end Sys2Proof.Laws
end

section
/-! Plans loaded and unloaded, the doorbell, and descriptors fetched (O22). -/

namespace Sys2Proof.Laws

open Sys2Proof Sys2Proof.Machine

section
variable {s : State} {c : Chan}

/-! ## Plans (R91, R267) -/

theorem exec_planLoad (p : Path) (c : Chan) (s : State) :
    exec (.planLoad p c) s = s.writeRow p (chanIndex c 0x510) 5 [1] (planLoadCommit c) := rfl

theorem exec_planUnload (p : Path) (c : Chan) (s : State) :
    exec (.planUnload p c) s = s.writeRow p (chanIndex c 0x510) 5 [2] (planUnloadCommit c) := rfl

theorem planLoadCommit_booting (booting : (s.chan c).st = .booting) : planLoadCommit c s = (abortConflict, s) :=
  if_pos (.inr booting)

/-- A keyed owner's load into an empty slot begins. -/
theorem planLoadCommit_begins (idle : (s.chan c).nat 0x510 6 ≠ loadBusy) (booted : (s.chan c).st ≠ .booting)
    (keyed : ((s.chan c).owner (Fin.ofNat 16 ((s.chan c).nat 0x510 3))).st = .keyed)
    (empty : ((s.chan c).plan (Fin.ofNat 16 ((s.chan c).nat 0x510 4))).st = 0) :
    planLoadCommit c s = (0, s.setChan c
      (({ (s.chan c).setPlan (Fin.ofNat 16 ((s.chan c).nat 0x510 4)) { Plan.reset with
          st := 1, owner := Fin.ofNat 16 ((s.chan c).nat 0x510 3) } with
        loading := some { slot := Fin.ofNat 16 ((s.chan c).nat 0x510 4), off := (s.chan c).nat 0x510 1
                          len := (s.chan c).nat 0x510 2, owner := Fin.ofNat 16 ((s.chan c).nat 0x510 3)
                          image := none } }).put 0x510 6 (w loadBusy))) :=
  (if_neg (not_or.2 ⟨idle, booted⟩)).trans ((if_neg (not_not_intro keyed)).trans (if_neg (not_not_intro empty)))

theorem planUnloadCommit_unloads (idle : (s.chan c).nat 0x510 6 ≠ loadBusy) (booted : (s.chan c).st ≠ .booting)
    (unused : ((s.chan c).jobs.any fun j => j.desc.plan == Fin.ofNat 16 ((s.chan c).nat 0x510 4)) = false) :
    planUnloadCommit c s = (0, s.unloadPlan c (Fin.ofNat 16 ((s.chan c).nat 0x510 4))) :=
  if_neg (not_or.2 ⟨idle, not_or.2 ⟨booted, ne_true_of_eq_false unused⟩⟩)

/-- A load ends with the code of its first failing check, or well; the plan of an owner whose key was destroyed is
unloaded at once (R267). -/
theorem exec_planLoadComplete {facts : ProgramFacts} {r : LoadReq} (up : s.chanUp c = true)
    (loading : (s.chan c).loading = some r) (served : (s.chan c).xtsFault = false) :
    let b := (r.image.map (·.1)).getD ((s.chan c).cellarRead c r.owner r.off r.len)
    let code := s.imageCheck c b r.len facts
    exec (.planLoadComplete c facts) s = .next (
      if code ≠ 0 then (s.modChan c fun ch =>
        ({ ch with loading := none }.setPlan r.slot Plan.reset).put 0x510 6 (w code)).event c
          { unit := 0x01, num := 0x0206, pay := payAt 8 r.slot.val ||| payAt 9 code }
      else if r.image = none then s.planLoaded c r b facts
      else (s.planLoaded c r b facts).unloadPlan c r.slot) := by
  intro b code
  change execPlanLoadComplete c facts s = _
  rw [execPlanLoadComplete, whenChan_chanUp _ up, loading]
  dsimp only
  rw [served, if_neg Bool.false_ne_true]
  by_cases passes : code = 0
  · rw [if_pos passes, if_neg (not_not_intro passes)]
    by_cases kept : r.image = none
    · rw [if_pos kept, if_neg (Option.not_isSome_iff_eq_none.2 kept)]
    · rw [if_neg kept, if_pos (Option.isSome_iff_ne_none.2 kept)]
  · rw [if_neg passes, if_pos passes]

/-! ## The doorbell (R286, R306) -/

theorem viewWrite_hostUp (view : View) (i : Slot) (off : Nat) (f : State → Host.Outcome State Fault Refusal)
    (up : s.hostUp c = true) : s.viewWrite view c i off f = f (s.access view c (slotCopy i off)) := if_pos up

theorem exec_jobRingDoorbell (view : View) (i : Slot) (v : BitVec 32) (up : s.hostUp c = true) :
    exec (.jobRingDoorbell view c i v) s = .next ((s.access view c (slotCopy i 0x110)).modChan c fun ch =>
      if (ch.owner i).st = .retiring then
        { ch with host := { ch.host with accessErr := ch.host.accessErr ||| 8 } }
      else ch.modOwner i (·.doorbell (v.toNat % 4096))) := by
  change execJobRingDoorbell view c i v s = _
  exact viewWrite_hostUp view i 0x110 _ up

/-- An update with a test is the update of the branch that holds in the channel. -/
theorem modChan_ite_pos {g : Channel → Prop} [DecidablePred g] {a b : Channel → Channel} (h : g (s.chan c)) :
    (s.modChan c fun ch => if g ch then a ch else b ch) = s.modChan c a :=
  congrArg (s.setChan c) (if_pos h)

theorem modChan_ite_neg {g : Channel → Prop} [DecidablePred g] {a b : Channel → Channel} (h : ¬g (s.chan c)) :
    (s.modChan c fun ch => if g ch then a ch else b ch) = s.modChan c b :=
  congrArg (s.setChan c) (if_neg h)

/-! ## Descriptors (R92, R109) -/

theorem exec_descriptorFetch {i : Slot} (up : s.hostUp c = true) (idle : (s.chan c).fetching = none)
    (runs : (s.chan c).stopped = false) (booted : (s.chan c).st ≠ .booting) (next : (s.chan c).nextRing = some i) :
    exec (.descriptorFetch c) s = .next (s.setChan c { s.chan c with fetching := some i }) := by
  change execDescriptorFetch c s = _
  simp [execDescriptorFetch, State.whenHost, up, idle, runs, booted, next]

theorem exec_descriptorFetched_good {i : Slot} {b : Bytes} (up : s.chanUp c = true)
    (fetching : (s.chan c).fetching = some i) : exec (.descriptorFetched c (.good b)) s = .next
      (((s.modChan c fun ch => { ch with fetching := none, served := i }).modChan c fun ch => ch.modOwner i fun o =>
        { o with job := { o.job with
          head := BitVec.ofNat 32 ((o.job.head.toNat + 1) % 2 ^ o.job.size.toNat) } }).admitDesc c i b) := by
  change execDescriptorFetched c (.good b) s = _
  rw [execDescriptorFetched, whenChan_chanUp _ up, fetching]

theorem exec_descriptorFetched_failed {i : Slot} (up : s.chanUp c = true)
    (fetching : (s.chan c).fetching = some i) : exec (.descriptorFetched c .failed) s = .next
      (((s.modChan c fun ch => { ch with fetching := none, served := i }).modChan c fun ch => ch.modOwner i fun o =>
        { o with job := { o.job with fault := true } }).raiseIrq c irqRingFault) := by
  change execDescriptorFetched c .failed s = _
  rw [execDescriptorFetched, whenChan_chanUp _ up, fetching]

end

/-- Settles O22: the plan's writes by the answers of their commits, every other command by its own lemma. -/
theorem planAndDescriptorCommandsComplete : Obligations.PlanAndDescriptorCommandsComplete := by
  refine ⟨fun s c => ⟨?load, ?loaded, ?unload, ?booting⟩, fun s c => ⟨?doorbell, ?fetch, ?good, ?failed⟩⟩
  case load =>
    exact fun p pl m h idle booted keyed empty =>
      (exec_planLoad ..).trans (writeRow_commits h (planLoadCommit_begins idle booted keyed empty))
  case loaded => exact fun facts r => exec_planLoadComplete
  case unload =>
    exact fun p pl m h idle booted unused =>
      (exec_planUnload ..).trans (writeRow_commits h (planUnloadCommit_unloads idle booted unused))
  case booting =>
    exact fun p pl m h booting =>
      (exec_planLoad ..).trans (writeRow_aborts h (planLoadCommit_booting booting) (by decide))
  case doorbell =>
    intro view i v up
    rw [exec_jobRingDoorbell view i v up]
    exact ⟨fun kept => congrArg _ (modChan_ite_neg kept), fun retiring => congrArg _ (modChan_ite_pos retiring)⟩
  case fetch => exact fun i => exec_descriptorFetch
  case good => exact fun i b => exec_descriptorFetched_good
  case failed => exact fun i => exec_descriptorFetched_failed

end Sys2Proof.Laws
end

section
/-! A job's life (O24): its launch, the windows that pass, its tiles, and its end. -/

namespace Sys2Proof.Laws

open Sys2Proof Sys2Proof.Machine

section
variable {s : State} {c : Chan} {j : Job} {k : Nat} {x : Tile}

/-! ## What a tile does (R80, R97, R98) -/

theorem runTile_ended {work : List TileOp} (ended : ((s.flow c work).1.chan c).stillRuns j = false) :
    s.runTile c j k work = (s.flow c work).1 := by
  simp [State.runTile, ended]

theorem runTile_done {work : List TileOp} (runs : ((s.flow c work).1.chan c).stillRuns j = true)
    (done : (s.flow c work).2 = []) : s.runTile c j k work = (s.flow c work).1.retire c k := by
  simp [State.runTile, runs, done]

/-- Work that a Hatch holds stays with the tile (log entry 105). -/
theorem runTile_left {work : List TileOp} (runs : ((s.flow c work).1.chan c).stillRuns j = true)
    (left : (s.flow c work).2 ≠ []) :
    s.runTile c j k work = (s.flow c work).1.modChan c (·.keepWork k (s.flow c work).2) := by
  simp [State.runTile, runs, left]

theorem judgeTile_misses (cellar : Bool) (first : x.missed = false) (past : x.deadline.toNat < s.now.toNat) :
    s.judgeTile c j x cellar = (s.missTile c j x (s.breachCause c j cellar)).drawn := by
  simp [State.judgeTile, first, past]

section
variable (up : s.chanUp c = true)
include up

/-! ## Launch and expiry (R93 to R96) -/

theorem exec_timeLaunch (fast : (s.chan c).onSafeClock = false) (runs : (s.chan c).stopped = false)
    (free : (s.chan c).runningJob = none) (due : (s.chan c).nextDue s.now = some j) :
    exec (.timeLaunch c) s = .next (s.launchDue c j ((j.due s.now).getD 0)) := by
  change execTimeLaunch c s = _
  simp [execTimeLaunch, whenChan_chanUp _ up, fast, runs, free, due]

theorem exec_noInputExpiry {i : Nat} (queued : (s.chan c).jobs[i]? = some j) (arrival : j.desc.arrival = true)
    (waits : j.running = false) (noFrame : j.arrived = none) (closed : j.desc.t1.toNat < s.now.toNat)
    (runs : (s.chan c).stopped = false) : exec (.noInputExpiry c i) s = .next (s.endJob c j statusNoInput) := by
  change execNoInputExpiry c i s = _
  simp [execNoInputExpiry, whenChan_chanUp _ up, queued, arrival, waits, noFrame, closed, runs]

theorem exec_reservationExpiry {i a e : Nat} (queued : (s.chan c).jobs[i]? = some j) (resv : j.resv = some (a, e))
    (past : e ≤ s.now.toNat) : exec (.reservationExpiry c i) s = .next
      (s.modChan c fun ch => { ch with jobs := ch.jobs.set i { j with resv := none } }) := by
  change execReservationExpiry c i s = _
  simp [execReservationExpiry, whenChan_chanUp _ up, queued, resv, past]

/-! ## Tiles (R97, R98) -/

variable (running : (s.chan c).runningJob = some j)
include running

theorem exec_tileRetire {work : List TileOp} (found : (s.chan c).slate.find? (·.k == k) = some x)
    (computes : (s.chan c).computes j = true) :
    let t := s.drawn.judgeTile c j x (s.freeIn 0 1 == 1)
    exec (.tileRetire c k work) s =
      .next (if (t.chan c).stopped then t else t.runTile c j k (x.left.getD work)) := by
  intro t
  change execTileRetire c k work s = _
  simp only [execTileRetire, whenChan_chanUp _ up, running, found, computes, if_true]
  rfl

theorem exec_tileDeadlineMiss {cellar : Bool} (found : (s.chan c).slate.find? (·.k == k) = some x)
    (runs : (s.chan c).stopped = false) (first : x.missed = false) (past : x.deadline.toNat < s.now.toNat) :
    exec (.tileDeadlineMiss c k cellar) s = .next ((s.missTile c j x (s.breachCause c j cellar)).drawn) := by
  change execTileDeadlineMiss c k cellar s = _
  simp [execTileDeadlineMiss, whenChan_chanUp _ up, running, found, runs, judgeTile_misses cellar first past]

/-! ## Completion (R96) -/

theorem exec_jobDone (computes : (s.chan c).computes j = true) (retired : (s.chan c).slate = [])
    (issued : ((s.chan c).plan j.desc.plan).facts.tiles.length ≤ j.issued)
    (sent : ((s.chan c).ports.any fun r => r.txq.any fun d => d.job == some j.num) = false) :
    exec (.jobDone c) s = .next (s.endJob c j statusDone) := by
  change execJobDone c s = _
  simp only [execJobDone, whenChan_chanUp _ up, running, computes, retired, sent, decide_eq_true issued]
  rfl

end

end

/-- Settles O24: each command by its own lemma, a tile's retirement by what is left of its work. -/
theorem jobCommandsComplete : Obligations.JobCommandsComplete := by
  refine fun s c up => ⟨?launch, ?noInput, ?expiry, ?retire, ?miss, ?done⟩
  case launch => exact fun j => exec_timeLaunch up
  case noInput => exact fun i j => exec_noInputExpiry up
  case expiry => exact fun i j a e => exec_reservationExpiry up
  case retire =>
    intro k work j x running found computes t u
    rw [exec_tileRetire up running found computes]
    refine ⟨fun stopped => ?_, fun runs ended => ?_, fun runs still done => ?_, fun runs still left => ?_⟩
    · exact congrArg _ (if_pos stopped)
    · exact congrArg _ ((if_neg (ne_true_of_eq_false runs)).trans (runTile_ended ended))
    · exact congrArg _ ((if_neg (ne_true_of_eq_false runs)).trans (runTile_done still done))
    · exact congrArg _ ((if_neg (ne_true_of_eq_false runs)).trans (runTile_left still left))
  case miss => exact fun k cellar j x running => exec_tileDeadlineMiss up running
  case done => exact fun j => exec_jobDone up

end Sys2Proof.Laws
end

section
/-! Faults of memory, of a table and of a cipher (O25). -/

namespace Sys2Proof.Laws

open Sys2Proof Sys2Proof.Machine

section
variable {s : State} {c : Chan} (up : s.chanUp c = true)
include up

theorem exec_cellarUncorrectable (addr : Word) : exec (.cellarUncorrectable c addr) s = .next
    ((s.event c { unit := 0x21, num := 0x0701, pay := addr }).failRunning c statusMemoryFail
      fun j => (s.chan c).jobPage j (addr.toNat / pageSize)) := by
  change execCellarUncorrectable c addr s = _
  exact whenChan_chanUp _ up

theorem exec_stillroomTableFault (n : Fin 2) : exec (.stillroomTableFault c n) s = .next
    ((((s.corBits c (0x550 + n.val) 3 stillTableFault).event c
      { unit := 0x18 + n.val, num := 0x0502, pay := payAt 8 n.val
        owner := (s.chan c).runningJob.map (·.owner) }).failRunning c statusMemoryFail
        fun _ => true).disableCompute c reasonStillroom) := by
  change execStillroomTableFault c n s = _
  exact whenChan_chanUp _ up

theorem exec_hbmFailure : exec (.hbmFailure c) s = .next (s.disableCompute c reasonHbm) := by
  change execHbmFailure c s = _
  exact whenChan_chanUp _ up

/-- A fault of the XTS engine disables compute (R272). -/
theorem exec_cipherFault_xts : exec (.cipherFault c 0) s =
    .next ((((s.event c { unit := 0x42, num := 0x0F03, pay := payAt 8 0 }).modChan c
      fun ch => { ch with xtsFault := true }).disableCompute c reasonXts)) := by
  change execCipherFault c 0 s = _
  exact whenChan_chanUp _ up

/-- A fault of the GCM engine leaves trace (R171, R272). -/
theorem exec_cipherFault_gcm : exec (.cipherFault c 1) s =
    .next ((((s.event c { unit := 0x42, num := 0x0F03, pay := payAt 8 1 }).changeTraceMode c 0 0 3).modChan c
      fun ch => { ch with chute := { ch.chute with gcmFault := true } }).markSaved) := by
  change execCipherFault c 1 s = _
  exact whenChan_chanUp _ up

/-- A fault of the whitening engine disables compute (R272). -/
theorem exec_cipherFault_whitening : exec (.cipherFault c 2) s =
    .next ((((s.event c { unit := 0x42, num := 0x0F03, pay := payAt 8 2 }).modChan c
      fun ch => { ch with whtFault := true }).disableCompute c reasonWhitening)) := by
  change execCipherFault c 2 s = _
  exact whenChan_chanUp _ up

end

/-- Settles O25: each fault by its own lemma. -/
theorem computeFaultsComplete : Obligations.ComputeFaultsComplete :=
  ⟨fun _ _ up => ⟨exec_cellarUncorrectable up, exec_stillroomTableFault up, exec_hbmFailure up⟩,
    fun _ _ up => ⟨exec_cipherFault_xts up, exec_cipherFault_whitening up, exec_cipherFault_gcm up⟩⟩

end Sys2Proof.Laws
end

section
/-! Trace writes and the Chute's own events (O27): what each commit answers (R138, R161), and each event that is due. -/

namespace Sys2Proof.Laws

open Sys2Proof Sys2Proof.Machine

section
variable {s : State} {c : Chan}

/-! ## Power and mode (R138, R161, R172) -/

/-- A byte is tested for zero as the number that it spells. -/
theorem byte_bne_zero (v : Byte) : (v != 0) = (v.toNat != 0) := by
  rw [Bool.eq_iff_iff, bne_iff_ne, bne_iff_ne]
  exact BitVec.toNat_ne

theorem exec_observatoryPowerWrite (p : Path) (c : Chan) (v : Byte) (s : State) :
    exec (.observatoryPowerWrite p c v) s =
      s.writeRow p (chanIndex c 0x300) 1 [v] (commitOk (·.powerObservatory c (v.toNat != 0))) := by
  rw [← byte_bne_zero]
  rfl

theorem exec_traceModeWrite (p : Path) (c : Chan) (v : Byte) (s : State) :
    exec (.traceModeWrite p c v) s = s.writeRow p (chanIndex c 0x300) 2 [v] (traceModeCommit c v.toNat) := rfl

theorem traceModeCommit_passes {m : Nat} (passes : (s.chan c).traceModeCheck m = 0) :
    traceModeCommit c m s = (0, s.changeTraceMode c m 0 3 true) := if_pos passes

theorem traceModeCommit_refuses {m : Nat} (refused : (s.chan c).traceModeCheck m ≠ 0) :
    traceModeCommit c m s = ((s.chan c).traceModeCheck m, s) := if_neg refused

/-! ## Events of the Chute (R144, R147, R152, R159, R171) -/

/-- DISTURBED (bit 1 of 0x8300:06) is set, and a mode other than 0 is locked out until a channel reset (R157, R172). -/
def noteDisturbed (ch : Channel) : Channel :=
  { ch.orBits 0x300 6 2 with chute := { ch.chute with locked := true } }

theorem bitOf_get_noteDisturbed (ch : Channel) : bitOf ((noteDisturbed ch).get 0x300 6) 1 = true := by
  change bitOf ((ch.put 0x300 6 (ch.get 0x300 6 ||| 2)).get 0x300 6) 1 = true
  simp [bitOf]

theorem chan_markSaved (s : State) (c : Chan) : s.markSaved.chan c = s.chan c := rfl

section
variable (up : s.chanUp c = true)
include up

theorem exec_traceRecordMerge : exec (.traceRecordMerge c) s =
    .next (s.modChan c fun ch => (ch.mergeOne s.now s.tclk (some s.now)).watchFull s.tclk) := by
  change execTraceRecordMerge c s = _
  exact whenChan_chanUp _ up

theorem exec_periodicTimestamp (due : s.periodicDue c = true) : exec (.periodicTimestamp c) s =
    .next (s.modChan c fun ch => ({ ch with chute := { ch.chute with periodicAt := s.tclk } }).periodic s.now
      (BitVec.ofNat 64 (s.now.toNat / span28 * span28)) s.tclk) := by
  change execPeriodicTimestamp c s = _
  exact (whenChan_chanUp _ up).trans (if_pos due)

theorem exec_flushInterval {i : Slot} {decant : Bool} (due : (s.chan c).flushDue s.tclk i decant = true) :
    exec (.flushInterval c i decant) s =
      .next (s.modChan c fun ch => if decant then ch.sealStream .decant i else ch.sealTrace s.now i) := by
  change execFlushInterval c i decant s = _
  exact (whenChan_chanUp _ up).trans (if_pos due)

theorem exec_stagingParityError : exec (.stagingParityError c) s = .next (s.modChan c fun ch =>
    ((allSlots.foldl (fun ch i => ch.loseStaged s.now i) ch).orBits 0x300 6 8).watchFull s.tclk) := by
  change execStagingParityError c s = _
  exact whenChan_chanUp _ up

theorem exec_faithfulTimeout {f : Slot} {t0 : Nat} (faithful : (s.chan c).faithful = some f)
    (since : (s.chan c).chute.fullSince = some t0) (full : ((s.chan c).owner f).trace.full = true)
    (active : ((s.chan c).owner f).trace.active = true) (late : t0 + tclkOfMs ((s.chan c).nat 0x300 9) < s.tclk) :
    exec (.faithfulTimeout c) s = .next (s.abandonFaithful c f) := by
  change execFaithfulTimeout c s = _
  simp [execFaithfulTimeout, whenChan_chanUp _ up, faithful, since, full, active, late]

/-- A disturbance in bounded mode is counted and reported, and trace goes to mode 0. -/
theorem exec_traceDisturbed {n : Nat} (bounded : (s.chan c).traceMode = 1) (held : n ≠ 0) :
    let counted := s.ccount c 0x300 4 n 64
    let told := counted.event c { unit := 0x3D, num := 0x0B01, pay := counted.cget c 0x300 4 }
    exec (.traceDisturbed c n) s = .next ((told.changeTraceMode c 0 0 3).modChan c noteDisturbed).markSaved := by
  intro counted told
  change execTraceDisturbed c n s = _
  exact (whenChan_chanUp _ up).trans (if_pos ⟨bounded, held⟩)

end

end

/-- Settles O27: the writes by the answers of their commits, each event by its own lemma. -/
theorem traceCommandsComplete : Obligations.TraceCommandsComplete := by
  refine ⟨fun s p c v pl m => ⟨?power, ?mode, ?refused⟩,
    fun s c up => ⟨exec_traceRecordMerge up, exec_periodicTimestamp up, fun i => exec_flushInterval up,
      fun i => exec_flushInterval up, exec_stagingParityError up, fun f t0 => exec_faithfulTimeout up, ?disturbed⟩⟩
  case power => exact fun h => (exec_observatoryPowerWrite ..).trans (writeRow_commitOk _ h)
  case mode => exact fun h passes => (exec_traceModeWrite ..).trans (writeRow_commits h (traceModeCommit_passes passes))
  case refused =>
    exact fun h refused => (exec_traceModeWrite ..).trans (writeRow_aborts h (traceModeCommit_refuses refused) refused)
  case disturbed =>
    intro n bounded held
    refine ⟨_, exec_traceDisturbed up bounded held, ?_⟩
    rw [chan_markSaved, State.chan_modChan_same]
    exact ⟨rfl, bitOf_get_noteDisturbed _⟩

end Sys2Proof.Laws
end

section
/-! The trace ring's commands in both views, and its blocks (O28, R152 to R154, R167, R171). -/

namespace Sys2Proof.Laws

open Sys2Proof Sys2Proof.Machine

section
variable {s : State} {c : Chan} {i : Slot}

/-! ## Flush, enable and disable (R152, R153) -/

/-- A ring that is disabled with no enable waiting stays disabled as it drains. -/
theorem enable_drained {r : Ring} (off : r.enable = false) (idle : r.reenable = false) (keyed : Bool) :
    (r.drained keyed).enable = false := by
  unfold Ring.drained
  dsimp only
  split
  · rw [idle]
    exact off
  · exact off

/-- ENABLE of slot i's trace ring is cleared, and its silence forgotten. -/
def stopTraceRing (o : Owner) (irq : Bool) : Owner :=
  let r := { o.trace with enable := false, reenable := false, irqOnBlock := irq }
  { o with
    trace := if o.ts.sealedQ.isEmpty then r.drained o.keyed else r
    ts := { o.ts with silent := none } }

theorem enable_stopTraceRing (o : Owner) (irq : Bool) : (stopTraceRing o irq).trace.enable = false := by
  unfold stopTraceRing
  dsimp only
  split
  · exact enable_drained rfl rfl _
  · rfl

section
variable (up : s.hostUp c = true)
include up

theorem exec_traceRingFlush (view : View) :
    let t := s.access view c (slotCopy i 0x314)
    exec (.traceRingFlush view c i) s =
      .next (t.modChan c fun ch => if (ch.owner i).trace.routing then ch.sealTrace t.now i else ch) := by
  intro t
  change execTraceRingFlush view c i s = _
  exact viewWrite_hostUp view i 0x314 _ up

/-- A write of 1 to a ring that is enabled keeps its loss count and its silence. -/
theorem exec_traceRingEnable (view : View) (irq : Bool) :
    let t := s.access view c (slotCopy i 0x314)
    exec (.traceRingEnable view c i irq) s = .next (t.modChan c fun ch => ch.modOwner i fun o =>
      { o with
        trace := o.trace.enableWrite o.keyed irq
        lost := if o.trace.enable then o.lost else 0
        ts := if o.trace.enable then o.ts else { o.ts with silent := none, gap := none, lastT := t.now } }) := by
  intro t
  change execTraceRingEnable view c i irq s = _
  exact viewWrite_hostUp view i 0x314 _ up

theorem exec_traceRingDisable (view : View) (irq : Bool) :
    let t := s.access view c (slotCopy i 0x314)
    exec (.traceRingDisable view c i irq) s = .next (t.modChan c fun ch =>
      (ch.disableTrace t.now t.tclk i).modOwner i (stopTraceRing · irq)) := by
  intro t
  change execTraceRingDisable view c i irq s = _
  exact viewWrite_hostUp view i 0x314 _ up

/-! ## Blocks (R153, R154, R167, R171) -/

theorem exec_traceBlockWritten {b : Block} {rest : List Block} (next : ((s.chan c).owner i).ts.sealedQ = b :: rest)
    (active : ((s.chan c).owner i).trace.active = true) (room : ((s.chan c).owner i).trace.full = false)
    (runs : (s.chan c).dmaRuns .trace i = true) (ok : Bool) :
    let t := s.modChan c (·.wrote .trace)
    exec (.traceBlockWritten c i ok) s = .next (if ok then t.traceBlockDone c i b rest else t.traceBlockFailed c i) := by
  intro t
  change execTraceBlockWritten c i ok s = _
  simp [execTraceBlockWritten, State.whenHost, up, next, active, room, runs, t]

/-- While the ring is FULL its blocks wait (R167). -/
theorem exec_traceBlockWritten_full {b : Block} {rest : List Block}
    (next : ((s.chan c).owner i).ts.sealedQ = b :: rest) (full : ((s.chan c).owner i).trace.full = true) (ok : Bool) :
    exec (.traceBlockWritten c i ok) s = .next s := by
  change execTraceBlockWritten c i ok s = _
  simp [execTraceBlockWritten, State.whenHost, up, next, full]

end

end

/-- Settles O28: each command by its own lemma; a disabled ring reads back from what its owner's slot is left with. -/
theorem traceRingCommandsComplete : Obligations.TraceRingCommandsComplete := by
  refine fun s c i up => ⟨fun view irq => ⟨exec_traceRingFlush up view, exec_traceRingEnable up view irq, ?disable⟩,
    fun b rest next active room runs =>
      ⟨exec_traceBlockWritten up next active room runs true, exec_traceBlockWritten up next active room runs false⟩,
    fun b rest ok next full => exec_traceBlockWritten_full up next full ok⟩
  case disable =>
    refine ⟨_, exec_traceRingDisable up view irq, ?_⟩
    rw [State.chan_modChan_same, Channel.modOwner, Channel.owner_setOwner_same]
    exact ⟨enable_stopTraceRing _ irq, rfl⟩

end Sys2Proof.Laws
end

section
/-! Counters (O29): what each write's commit answers (R176, R177), what lands, a gather, and the energy reading. -/

namespace Sys2Proof.Laws

open Sys2Proof Sys2Proof.Machine

section
variable {s : State} {c : Chan}

/-! ## The rows that write a counter's members (R176, R177) -/

theorem exec_counterSelectWrite (p : Path) (c : Chan) (u : Byte) (i : Fin 8) (v : BitVec 16) (s : State) :
    exec (.counterSelectWrite p c u i v) s = s.writeRow p (chanIndex c (0x240 + u.toNat)) (1 + i.val)
      (leBytes 2 v.toNat) (counterSelectCommit c u.toNat i.val (w v.toNat)) := rfl

theorem exec_counterPresetWrite (p : Path) (c : Chan) (u : Byte) (i : Fin 8) (v : Word) (s : State) :
    exec (.counterPresetWrite p c u i v) s = s.writeRow p (chanIndex c (0x240 + u.toNat)) (0x11 + i.val)
      (leBytes 8 v.toNat) (commitOk fun s => s.modChan c fun ch =>
        (ch.noteBefore s.tclk (0x240 + u.toNat) (0x11 + i.val) (w (wrap48 - 1))).put (0x240 + u.toNat)
          (0x11 + i.val) v) := rfl

theorem exec_counterEnableWrite (p : Path) (c : Chan) (u v : Byte) (s : State) :
    exec (.counterEnableWrite p c u v) s = s.writeRow p (chanIndex c (0x240 + u.toNat)) 9 [v]
      (commitOk (·.cput c (0x240 + u.toNat) 9 (w v.toNat))) := rfl

/-! ## A selection's commit -/

/-- Counter i of block u takes selection v, and starts from 0 with its wrap bit clear. -/
def selectCounter (ch : Channel) (u i : Nat) (v : Word) : Channel :=
  ((ch.put (0x240 + u) (1 + i) v).put (0x240 + u) (0x11 + i) 0).clearBits (0x240 + u) 0x0A (w (2 ^ i))

/-- The members that a selection replaces, noted for a freeze on the same edge (R198). -/
def noteSelection (ch : Channel) (tclk u i : Nat) : Channel :=
  ((ch.noteBefore tclk (0x240 + u) (1 + i) (w 0xFFFF)).noteBefore tclk (0x240 + u) (0x11 + i)
    (w (wrap48 - 1))).noteBefore tclk (0x240 + u) 0x0A (w (2 ^ i))

theorem counterSelectCommit_takes {u : Nat} {v : Word} (counted : selectable u v.toNat = true) (i : Nat) :
    counterSelectCommit c u i v s = (0, s.modChan c fun ch => selectCounter (noteSelection ch s.tclk u i) u i v) :=
  if_pos counted

theorem fst_counterSelectCommit {u : Nat} {v : Word} (counted : selectable u v.toNat = true) (i : Nat) :
    (counterSelectCommit c u i v s).1 = 0 := congrArg Prod.fst (counterSelectCommit_takes counted i)

theorem counterSelectCommit_refuses {u : Nat} {v : Word} (other : selectable u v.toNat = false) (i : Nat) :
    counterSelectCommit c u i v s = (abortInvalid, s) := if_neg (ne_true_of_eq_false other)

section
variable (ch : Channel) (u : Nat) (i : Fin 8) (v : Word)

theorem get_selectCounter_selection : (selectCounter ch u i.val v).get (0x240 + u) (1 + i.val) = v := by
  have wrap : dkey (0x240 + u) (1 + i.val) ≠ dkey (0x240 + u) 0x0A := by unfold dkey; omega
  have value : dkey (0x240 + u) (1 + i.val) ≠ dkey (0x240 + u) (0x11 + i.val) := by unfold dkey; omega
  rw [selectCounter, Channel.clearBits, Channel.get_put_other _ _ wrap, Channel.get_put_other _ _ value,
    Channel.get_put_same]

theorem get_selectCounter_value : (selectCounter ch u i.val v).get (0x240 + u) (0x11 + i.val) = 0 := by
  have wrap : dkey (0x240 + u) (0x11 + i.val) ≠ dkey (0x240 + u) 0x0A := by unfold dkey; omega
  rw [selectCounter, Channel.clearBits, Channel.get_put_other _ _ wrap, Channel.get_put_same]

theorem bitOf_w_two_pow : bitOf (w (2 ^ i.val)) i.val = true := by
  revert i
  decide

/-- Clearing the bits of a mask clears bit i where the mask has it. -/
theorem bitOf_get_clearBits (off sub : Nat) {m : Word} {i : Nat} (h : bitOf m i = true) :
    bitOf ((ch.clearBits off sub m).get off sub) i = false := by
  unfold bitOf at *
  simp [Channel.clearBits, h]

theorem bitOf_get_selectCounter_wrap : bitOf ((selectCounter ch u i.val v).get (0x240 + u) 0x0A) i.val = false :=
  bitOf_get_clearBits _ _ _ (bitOf_w_two_pow i)

end

/-- What a selection leaves in its counter's members (R176, R177). -/
theorem counterSelectCommit_reads {u : Nat} {v : Word} (counted : selectable u v.toNat = true) (i : Fin 8) :
    let t := (counterSelectCommit c u i.val v s).2
    t.cget c (0x240 + u) (1 + i.val) = v ∧ t.cget c (0x240 + u) (0x11 + i.val) = 0 ∧
      bitOf (t.cget c (0x240 + u) 0x0A) i.val = false := by
  rw [counterSelectCommit_takes counted]
  simp only [State.cget, State.chan_modChan_same]
  exact ⟨get_selectCounter_selection .., get_selectCounter_value .., bitOf_get_selectCounter_wrap ..⟩

/-! ## Arrivals and gathers (R174, R178, R182 to R184, R203) -/

theorem amount_lands {u num n : Nat} (added : n ≠ 0) (runs : (s.chan c).haltedUnit u = false) :
    s.amount c u num n = s.land c u num n := by
  simp [State.amount, added, runs]

/-- The edge of the gather is noted: no second gather falls due on it (R182). -/
def gatherBegun (s : State) (c : Chan) : State :=
  s.modChan c fun ch => { ch with st0 := { ch.st0 with gatherAt := s.tclk } }

/-- While SNAPSHOT records of the last gather wait to be handed over, a gather is only counted (R183, R184). -/
theorem gather_skipped
    (waits : ((gatherBegun s c).chan c).chute.tally.any (fun r => r.type == 5 && !bitOf r.payload 57) = true) :
    s.gather c = (gatherBegun s c).ccount c 0x200 5 1 := if_pos waits

theorem gather_taken
    (handed : ((gatherBegun s c).chan c).chute.tally.any (fun r => r.type == 5 && !bitOf r.payload 57) = false) :
    s.gather c =
      let t := (gatherBegun s c).landDue c
      t.modChan c fun ch =>
        if ch.tracing then (ch.snapshots (ch.countersAt t.tclk) t.now t.time.epoch false).foldl Channel.hand ch
        else ch := if_neg (ne_true_of_eq_false handed)

section
variable (up : s.chanUp c = true)
include up

theorem exec_countArrival_amount {u : Byte} {num : BitVec 16} {n : Nat} (brought : broughtIn u.toNat num.toNat = true)
    (added : n ≠ 0) (runs : (s.chan c).haltedUnit u.toNat = false) :
    exec (.countArrival c (some (u, num, n))) s = .next (s.land c u.toNat num.toNat n) := by
  change execCountArrival c (some (u, num, n)) s = _
  rw [execCountArrival, whenChan_chanUp _ up, ← amount_lands added runs]
  exact if_pos brought

theorem exec_countArrival_oldest {it : CountItem} {rest : List CountItem} (oldest : (s.chan c).countQ = it :: rest) :
    exec (.countArrival c none) s = .next ((s.modChan c fun ch => { ch with countQ := rest }).landItem c it) := by
  change execCountArrival c none s = _
  rw [execCountArrival, whenChan_chanUp _ up]
  simp only [oldest]

theorem exec_gather (due : s.gatherDue c = true) : exec (.gather c) s = .next (s.gather c) := by
  change execGather c s = _
  exact (whenChan_chanUp _ up).trans (congrArg _ (if_pos due))

/-! ## The energy reading (R185, R207) -/

theorem exec_energyUpdate_adds (microjoules : Nat) (sound : bitOf (s.cget c 0x203 0x0B) 0 = false) :
    exec (.energyUpdate c microjoules) s = .next ((s.ccount c 0x203 1 microjoules 64).cput c 0x203 9 s.now) := by
  change execEnergyUpdate c microjoules s = _
  exact (whenChan_chanUp _ up).trans (if_neg (ne_true_of_eq_false sound))

/-- A fault holds the reading. -/
theorem exec_energyUpdate_held (microjoules : Nat) (fault : bitOf (s.cget c 0x203 0x0B) 0 = true) :
    exec (.energyUpdate c microjoules) s = .next s := by
  change execEnergyUpdate c microjoules s = _
  exact (whenChan_chanUp _ up).trans (if_pos fault)

end

end

/-- Settles O29: the writes by the answers of their commits, each arrival by its own lemma, a gather by whether records
of the last one still wait. -/
theorem counterCommandsComplete : Obligations.CounterCommandsComplete := by
  refine ⟨fun s p c u i pl m => ⟨fun v h => ⟨fun counted => ⟨?select, ?reads⟩, ?refused⟩, ?preset, ?enable⟩,
    fun s c up => ⟨?amount, ?oldest, ?gather, exec_energyUpdate_adds up, exec_energyUpdate_held up⟩⟩
  case select =>
    exact (exec_counterSelectWrite ..).trans
      (writeRow_commits h (Prod.ext (fst_counterSelectCommit counted i.val) rfl))
  case reads => exact counterSelectCommit_reads counted i
  case refused =>
    exact fun other => (exec_counterSelectWrite ..).trans
      (writeRow_aborts h (counterSelectCommit_refuses other i.val) (by decide))
  case preset => exact fun v h => (exec_counterPresetWrite ..).trans (writeRow_commitOk _ h)
  case enable => exact fun v h => (exec_counterEnableWrite ..).trans (writeRow_commitOk _ h)
  case amount => exact fun u num n => exec_countArrival_amount up
  case oldest => exact fun it rest => exec_countArrival_oldest up
  case gather =>
    refine fun due => ⟨fun waits => ?_, fun handed => ?_⟩
    · exact (exec_gather up due).trans (congrArg _ (gather_skipped waits))
    · exact (exec_gather up due).trans (congrArg _ (gather_taken handed))

end Sys2Proof.Laws
end

section
/-! Stocktake's triggers and releases (O30), in BAR0 and in the dictionary (R188 to R190, R201, R206). -/

namespace Sys2Proof.Laws

open Sys2Proof Sys2Proof.Machine

section
variable {s : State} {c : Chan}

/-! ## STOCKTAKE_CTRL -/

section
variable (up : s.hostUp c = true)
include up

theorem exec_stocktakeTrigger_ctrl :
    exec (.stocktakeTrigger .ctrl c) s = .next ((s.access .bar0 c 0x18).registerTrigger c) := if_pos up

theorem exec_stocktakeRelease_ctrl :
    exec (.stocktakeRelease .ctrl c) s = .next ((s.access .bar0 c 0x18).modChan c (·.releaseStocktake)) := if_pos up

end

/-! ## The dictionary -/

theorem exec_stocktakeTrigger_dict (p : Path) (c : Chan) (s : State) :
    exec (.stocktakeTrigger (.dict p) c) s =
      s.writeRow p (chanIndex c 0x202) 4 [1] (commitOk (·.registerTrigger c)) := rfl

theorem exec_stocktakeRelease_dict (p : Path) (c : Chan) (s : State) :
    exec (.stocktakeRelease (.dict p) c) s =
      s.writeRow p (chanIndex c 0x202) 5 [1] (commitOk (·.modChan c (·.releaseStocktake))) := rfl

theorem exec_triggerMaskWrite (p : Path) (c : Chan) (v : Byte) (s : State) :
    exec (.triggerMaskWrite p c v) s = s.writeRow p (chanIndex c 0x202) 1 [v]
      (commitOk (·.modChan c fun ch => (ch.put 0x202 1 (w v.toNat)).maskMoved)) := rfl

theorem exec_stocktakeT64Arm (p : Path) (c : Chan) (v : T64) (s : State) :
    exec (.stocktakeT64Arm p c v) s =
      s.writeRow p (chanIndex c 0x202) 3 (leBytes 8 v.toNat) (t64TriggerCommit c v) := rfl

theorem t64TriggerCommit_arms {v : T64} (powered : (s.chan c).observed = true) :
    t64TriggerCommit c v s = (0, s.modChan c (·.armT64 s.now v)) := if_pos powered

theorem t64TriggerCommit_refuses {v : T64} (off : (s.chan c).observed = false) :
    t64TriggerCommit c v s = (abortConflict, s) := if_neg (ne_true_of_eq_false off)

/-! ## The armed time -/

theorem exec_stocktakeT64Fire (up : s.chanUp c = true) (armed : (s.chan c).st0.t64Armed = true)
    (reached : ((s.chan c).get 0x202 3).toNat ≤ s.now.toNat) :
    let t := s.setChan c { s.chan c with st0 := { (s.chan c).st0 with
      t64Armed := false, late := (s.chan c).st0.late || (s.chan c).st0.t64Late, t64Late := false } }
    exec (.stocktakeT64Fire c) s = .next (if (t.chan c).mayFreezeAt then t.stocktake c 4 0 else t) := by
  intro t
  have same : (t.chan c).mayFreezeAt = (s.chan c).mayFreezeAt := by
    rw [State.chan_setChan_same]
    rfl
  rw [same]
  change execStocktakeT64Fire c s = _
  exact (whenChan_chanUp _ up).trans (if_pos ⟨armed, reached⟩)

end

/-- Settles O30: the registers and the armed time by their own lemmas, the writes by the answers of their commits. -/
theorem stocktakeCommandsComplete : Obligations.StocktakeCommandsComplete := by
  refine fun s c => ⟨fun up => ⟨exec_stocktakeTrigger_ctrl up, exec_stocktakeRelease_ctrl up⟩,
    fun p pl m => ⟨?trigger, ?release, ?mask, fun v h => ⟨?arm, ?unpowered⟩⟩, exec_stocktakeT64Fire⟩
  case trigger => exact fun h => (exec_stocktakeTrigger_dict ..).trans (writeRow_commitOk _ h)
  case release => exact fun h => (exec_stocktakeRelease_dict ..).trans (writeRow_commitOk _ h)
  case mask => exact fun v h => (exec_triggerMaskWrite ..).trans (writeRow_commitOk _ h)
  case arm =>
    exact fun powered => (exec_stocktakeT64Arm ..).trans (writeRow_commits h (t64TriggerCommit_arms powered))
  case unpowered =>
    exact fun off => (exec_stocktakeT64Arm ..).trans (writeRow_aborts h (t64TriggerCommit_refuses off) (by decide))

end Sys2Proof.Laws
end

section
/-! The SYNC pin's and the module freeze's commands (O31): edges, a stop pulse, and what the module originates (R191 to
R193, R208). -/

namespace Sys2Proof.Laws

open Sys2Proof Sys2Proof.Machine

section
variable {s : State}

/-! ## Provisional freezes (R191) -/

theorem onlyChannel_landDue (s : State) (c : Chan) : onlyChannel c s (s.landDue c) :=
  onlyChannel_trans (onlyChannel_modChan c s _) (onlyChannel_foldl _ _ fun _ _ => onlyChannel_land _ _ _)

theorem tclk_landDue (s : State) (c : Chan) : (s.landDue c).tclk = s.tclk := by
  obtain ⟨_, _, _, h⟩ := onlyChannel_landDue s c
  rw [h]

theorem tclk_provisional (s : State) : s.provisional.tclk = s.tclk := by
  refine eachChan_keeps State.tclk (fun t c => ?_) s
  split
  · exact tclk_landDue t c
  · rfl

/-- A rise is repeated where the module may, and every channel takes its provisional freeze (R191, R192). -/
def riseHeard (s : State) : State := (if s.mayRepeat then s.syncOut true else s).provisional

theorem tclk_riseHeard (s : State) : (riseHeard s).tclk = s.tclk := by
  rw [riseHeard, tclk_provisional]
  split <;> rfl

/-! ## Commits of 0x4010 (R193) -/

theorem exec_moduleFreezeTimeWrite (p : Path) (v : T64) (s : State) :
    exec (.moduleFreezeTimeWrite p v) s = s.writeRow p 0x4010 1 (leBytes 8 v.toNat) (freezeTimeCommit v) := rfl

theorem exec_moduleFreezeNow (p : Path) (s : State) :
    exec (.moduleFreezeNow p) s = s.writeRow p 0x4010 3 [1] freezeNowCommit := rfl

theorem freezeTimeCommit_refuses {v : T64} (near : v.toNat < s.now.toNat + 1000000) :
    freezeTimeCommit v s = (abortRange, s) := if_pos near

theorem freezeTimeCommit_arms {v : T64} (ahead : s.now.toNat + 1000000 ≤ v.toNat) :
    freezeTimeCommit v s = (0, (s.mput 0x4010 1 v).eachChan fun s c =>
      if (s.chan c).observed && (s.chan c).st != .poweredDown then
        (s.modChan c fun ch => ((ch.armT64 s.now v).orBits 0x202 1 8).maskMoved).markSaved
      else s) := if_neg (Nat.not_lt.2 ahead)

/-- Every channel's freeze is on its way to the next correction-bus slot (R193). -/
def freezesPending (s : State) : State :=
  s.eachChan fun t c => t.modChan c (·.pendFreeze (max s.tclk s.time.nextSlot) true)

theorem freezeNowCommit_silent (off : (freezesPending s).mon 0x4001 1 = false) :
    freezeNowCommit s = (0, ((freezesPending s).eachChan State.landFreezes).landPulse) :=
  congrArg (fun t : State => ((0 : AbortCode), (t.eachChan State.landFreezes).landPulse))
    (if_neg (ne_true_of_eq_false off))

/-- Where 0x4001:01 is 1, a pulse of 10 TCLK begins with the freeze (R192). -/
theorem freezeNowCommit_pulses (on : (freezesPending s).mon 0x4001 1 = true) :
    let t := freezesPending s
    freezeNowCommit s = (0, ({ t with pins := { t.pins with
      outStart := some (max s.tclk s.time.nextSlot, 10) } }.eachChan State.landFreezes).landPulse) :=
  congrArg (fun t : State => ((0 : AbortCode), (t.eachChan State.landFreezes).landPulse)) (if_pos on)

section
variable (live : s.live = true)
include live

/-! ## SYNC_IN (R191, R192, R208) -/

theorem exec_syncInRise_ignored (holdoff : s.pins.holdoffEnd ≠ none) :
    exec .syncInRise s = .next { s.mcount 0x4001 4 1 with
      pins := { s.pins with syncRise := some s.tclk, syncStop := false, syncIgnored := true } } := by
  change execSyncInRise s = _
  exact (whenLive_live _ live).trans (if_pos (Option.isSome_iff_ne_none.2 holdoff))

/-- Outside the holdoff a rise starts the measurement. -/
theorem exec_syncInRise_measured (free : s.pins.holdoffEnd = none) :
    exec .syncInRise s = .next { riseHeard s with pins := { (riseHeard s).pins with
      syncRise := some (riseHeard s).tclk, syncStop := false, syncIgnored := false } } := by
  have noHoldoff : ¬s.pins.holdoffEnd.isSome = true := by simp [free]
  change execSyncInRise s = _
  rw [execSyncInRise, whenLive_live _ live, if_neg noHoldoff, riseHeard]

/-- Whatever a fall ends, no measurement is left. -/
theorem exec_syncInFall (high : s.pins.syncRise ≠ none) : ∃ t : State, exec .syncInFall s =
    .next { t with pins := { t.pins with syncRise := none, syncStop := false, syncIgnored := false } } := by
  obtain ⟨t0, rise⟩ := Option.ne_none_iff_exists'.1 high
  change ∃ t : State, execSyncInFall s = _
  rw [execSyncInFall, whenLive_live _ live]
  simp only [rise]
  exact ⟨_, rfl⟩

theorem exec_syncStopRecognised {t0 : Nat} (rise : s.pins.syncRise = some t0) (first : s.pins.syncStop = false)
    (heard : s.pins.syncIgnored = false) (long : t0 + 24 ≤ s.tclk) :
    exec .syncStopRecognised s = .next s.syncStop := by
  change execSyncStopRecognised s = _
  simp [execSyncStopRecognised, whenLive_live _ live, rise, first, heard, long]

/-! ## Ends of the holdoff and of a pulse (R192) -/

theorem exec_syncHoldoffEnd {e : Nat} (holdoff : s.pins.holdoffEnd = some e) (due : e ≤ s.tclk) :
    exec .syncHoldoffEnd s = .next { s with pins := { s.pins with holdoffEnd := none } } := by
  change execSyncHoldoffEnd s = _
  simp [execSyncHoldoffEnd, whenLive_live _ live, holdoff, due]

theorem exec_syncOutPulseEnd {e : Nat} (pulse : s.pins.outEnd = some e) (due : e ≤ s.tclk) :
    exec .syncOutPulseEnd s = .next ({ s with pins := { s.pins with outEnd := none } }.syncOut false) := by
  change execSyncOutPulseEnd s = _
  simp [execSyncOutPulseEnd, whenLive_live _ live, pulse, due]

end

end

/-- Settles O31: each event of the pin by its own lemma, the two freezes by the answers of their commits. -/
theorem syncCommandsComplete : Obligations.SyncCommandsComplete := by
  refine fun s live => ⟨exec_syncInRise_ignored live, ?rise, ?fall, fun t0 => exec_syncStopRecognised live,
    fun e => exec_syncHoldoffEnd live, fun e => exec_syncOutPulseEnd live, fun p v pl m h => ⟨?near, ?ahead⟩,
    fun p pl m h => ⟨?silent, ?pulses⟩⟩
  case rise => exact fun free => ⟨_, exec_syncInRise_measured live free, congrArg some (tclk_riseHeard s), rfl, rfl⟩
  case fall =>
    intro high
    obtain ⟨t, ends⟩ := exec_syncInFall live high
    exact ⟨_, ends, rfl, rfl, rfl⟩
  case near =>
    exact fun near => (exec_moduleFreezeTimeWrite ..).trans
      (writeRow_aborts h (freezeTimeCommit_refuses near) (by decide))
  case ahead =>
    exact fun ahead => (exec_moduleFreezeTimeWrite ..).trans (writeRow_commits h (freezeTimeCommit_arms ahead))
  case silent =>
    exact fun off => (exec_moduleFreezeNow ..).trans (writeRow_commits h (freezeNowCommit_silent off))
  case pulses =>
    exact fun on => (exec_moduleFreezeNow ..).trans (writeRow_commits h (freezeNowCommit_pulses on))

end Sys2Proof.Laws
end

section
/-! Stops and releases (O32): by BAR0, by the dictionary and for the whole module, and a stop's own events (R208 to R215,
R247). -/

namespace Sys2Proof.Laws

open Sys2Proof Sys2Proof.Machine

section
variable {s : State} {c : Chan}

theorem whenHost_hostUp (f : State → Host.Outcome State Fault Refusal) (up : s.hostUp c = true) :
    s.whenHost c f = f s := if_pos up

/-! ## STOP_CTRL (R208, R210) -/

section
variable (up : s.hostUp c = true)
include up

theorem exec_stopCtrlStop : exec (.stopCtrlStop c) s = .next ((s.access .bar0 c 0x10).requestStop c 1) := by
  change execStopCtrlStop c s = _
  exact whenHost_hostUp _ up

theorem exec_stopCtrlRelease : exec (.stopCtrlRelease c) s =
    .next (if ((s.access .bar0 c 0x10).chan c).mayRelease then (s.access .bar0 c 0x10).releaseStop c
      else s.access .bar0 c 0x10) := by
  change execStopCtrlRelease c s = _
  exact whenHost_hostUp _ up

end

/-! ## The dictionary: a channel (R208 to R210) -/

theorem exec_channelStopCommand (p : Path) (c : Chan) (s : State) :
    exec (.channelStopCommand p c) s = s.writeRow p (chanIndex c 0x400) 1 [1] (channelStopCommit c 1) := rfl

theorem exec_channelReleaseCommand (p : Path) (c : Chan) (s : State) :
    exec (.channelReleaseCommand p c) s = s.writeRow p (chanIndex c 0x400) 1 [2] (channelStopCommit c 2) := rfl

theorem exec_stopTimeArm (p : Path) (c : Chan) (v : T64) (s : State) :
    exec (.stopTimeArm p c v) s = s.writeRow p (chanIndex c 0x400) 9 (leBytes 8 v.toNat) (stopTimeCommit c v) := rfl

theorem channelStopCommit_stops : channelStopCommit c 1 s = (0, s.requestStop c 2) := rfl

theorem channelStopCommit_releases (may : (s.chan c).mayRelease = true) :
    channelStopCommit c 2 s = (0, s.releaseStop c) := if_pos may

theorem channelStopCommit_refuses (mayNot : (s.chan c).mayRelease = false) :
    channelStopCommit c 2 s = (abortConflict, s) := if_neg (ne_true_of_eq_false mayNot)

/-! ## The dictionary: the module (R210, R213) -/

theorem exec_moduleStopCommand (p : Path) (s : State) :
    exec (.moduleStopCommand p) s = s.writeRow p 0x4020 2 [1] (moduleStopCommit 1) := rfl

theorem exec_moduleReleaseCommand (p : Path) (s : State) :
    exec (.moduleReleaseCommand p) s = s.writeRow p 0x4020 2 [2] (moduleStopCommit 2) := rfl

/-- A commit is its answer with the state that it leaves. -/
theorem commit_of_answer {commit : Commit} {code : AbortCode} (h : (commit s).1 = code) :
    commit s = (code, (commit s).2) := Prod.ext h rfl

/-- The whole module's stop is never refused. -/
theorem moduleStopCommit_stops : moduleStopCommit 1 s = (0, (moduleStopCommit 1 s).2) :=
  commit_of_answer (congrArg Prod.fst (if_pos rfl))

/-- A test over the channels' list is one over the channels. -/
theorem any_chans_iff (test : Channel → Bool) :
    s.chans.toList.any test = true ↔ ∃ c : Chan, test (s.chan c) = true := by
  rw [List.any_eq_true]
  constructor
  · rintro ⟨ch, held, passes⟩
    obtain ⟨n, h, rfl⟩ := Vector.mem_iff_getElem.1 (Vector.mem_toList_iff.1 held)
    exact ⟨⟨n, h⟩, passes⟩
  · rintro ⟨c, passes⟩
    exact ⟨_, Vector.mem_toList_iff.2 (Vector.getElem_mem c.isLt), passes⟩

/-- Some channel is STOPPED and may not be released. -/
theorem any_unreleasable_iff : (s.chans.toList.any fun ch => ch.stop.st == 2 && !ch.mayRelease) = true ↔
    ∃ c : Chan, (s.chan c).stop.st = 2 ∧ (s.chan c).mayRelease = false := by
  simp only [any_chans_iff, Bool.and_eq_true, beq_iff_eq, Bool.not_eq_true']

theorem moduleStopCommit_releases (may : ∀ c : Chan, (s.chan c).stop.st = 2 → (s.chan c).mayRelease = true) :
    moduleStopCommit 2 s = (0, s.eachChan fun s c => if (s.chan c).mayRelease then s.releaseStop c else s) := by
  refine (if_neg (by decide)).trans (if_neg fun unreleasable => ?_)
  obtain ⟨c, stopped, mayNot⟩ := any_unreleasable_iff.1 unreleasable
  exact ne_true_of_eq_false mayNot (may c stopped)

theorem moduleStopCommit_refuses (mayNot : ∃ c : Chan, (s.chan c).stop.st = 2 ∧ (s.chan c).mayRelease = false) :
    moduleStopCommit 2 s = (abortConflict, s) :=
  (if_neg (by decide)).trans (if_pos (any_unreleasable_iff.2 mayNot))

/-! ## STOP_N (R213, R214, R247) -/

theorem exec_stopNFall (live : s.live = true) : exec .stopNFall s = .next s.stopNEdge := by
  change execStopNFall s = _
  exact whenLive_live _ live

section
variable {t : Nat} (up : s.reeveUp = true)
include up

theorem exec_stopNPulseEnd (pulse : s.pins.stopNEnd = some t) (due : t ≤ s.tclk) : exec .stopNPulseEnd s =
    .next ({ s with pins := { s.pins with stopNEnd := none } }.emit (.pin 0 0 0 true)) := by
  change execStopNPulseEnd s = _
  simp [execStopNPulseEnd, whenReeve_reeveUp _ up, pulse, due]

theorem exec_stopNStuck (low : s.pins.stopNLow = some t) (long : t + tclkOfUs 10 < s.tclk) :
    exec .stopNStuck s = .next { s.morBits 0x4020 4 1 with pins := { s.pins with stopNStuck := true } } := by
  change execStopNStuck s = _
  simp only [execStopNStuck, whenReeve_reeveUp _ up, low]
  exact if_pos long

end

/-! ## A channel's own events (R208 to R210, R215) -/

/-- The armed stop has fired: it is disarmed, and a time that had passed when armed is shown in bit 3 of 0x8400:0B. -/
def stopTimeFired (ch : Channel) : Channel :=
  let ch' := if ch.stop.timeLate then ch.orBits 0x400 0x0B 8 else ch
  { ch' with stop := { ch'.stop with timeArmed := false, timeLate := false } }

section
variable (up : s.chanUp c = true)
include up

theorem exec_stopTimeFire (armed : (s.chan c).stop.timeArmed = true)
    (reached : ((s.chan c).get 0x400 9).toNat ≤ s.now.toNat) :
    let t := s.setChan c (stopTimeFired (s.chan c))
    exec (.stopTimeFire c) s = .next (if bitOf ((s.chan c).get 0x400 7) 2 then t.requestStop c 8 else t) := by
  intro t
  change execStopTimeFire c s = _
  exact (whenChan_chanUp _ up).trans (if_pos ⟨armed, reached⟩)

theorem exec_stopEventMatch (hit : (s.chan c).stop.eventHit = true) : exec (.stopEventMatch c) s =
    .next ((s.modChan c fun ch => { ch with stop := { ch.stop with eventHit := false } }).requestStop c 7) := by
  change execStopEventMatch c s = _
  exact (whenChan_chanUp _ up).trans (if_pos hit)

theorem exec_dmaDrained (stopped : (s.chan c).stop.st = 2) (halted : (s.chan c).dmaHalted = true) :
    exec (.dmaDrained c) s =
      .next (s.setChan c { s.chan c with stop := { (s.chan c).stop with drained := true } }) := by
  change execDmaDrained c s = _
  exact (whenChan_chanUp _ up).trans (if_pos ⟨stopped, halted⟩)

/-- With no hang to handle, the channel is STOPPED and no more. -/
theorem exec_coreHalted (stopping : (s.chan c).stop.st = 1) (sound : ((s.halted c).chan c).dbg.hang = none) :
    exec (.coreHalted c) s = .next (s.halted c) := by
  change execCoreHalted c s = _
  refine (whenChan_chanUp _ up).trans ((if_pos stopping).trans ?_)
  simp only [sound]

end

end

/-- Settles O32: the registers and the events by their own lemmas, the writes by the answers of their commits. -/
theorem stopCommandsComplete : Obligations.StopCommandsComplete := by
  refine ⟨fun s c => ⟨exec_stopCtrlStop, fun up may => ?released, fun up mayNot => ?ignored,
      fun p pl m => ⟨?stop, ?release, ?conflict, ?moduleStop, ?moduleRelease, ?moduleConflict, ?armTime⟩⟩,
    fun s => ⟨exec_stopNFall, fun t => exec_stopNPulseEnd, fun t => exec_stopNStuck,
      fun c up => ⟨exec_stopTimeFire up, exec_stopEventMatch up, exec_dmaDrained up, exec_coreHalted up⟩⟩⟩
  case released => exact (exec_stopCtrlRelease up).trans (congrArg _ (if_pos may))
  case ignored => exact (exec_stopCtrlRelease up).trans (congrArg _ (if_neg (ne_true_of_eq_false mayNot)))
  case stop => exact fun h => (exec_channelStopCommand ..).trans (writeRow_commits h channelStopCommit_stops)
  case release =>
    exact fun h may => (exec_channelReleaseCommand ..).trans (writeRow_commits h (channelStopCommit_releases may))
  case conflict =>
    exact fun h mayNot =>
      (exec_channelReleaseCommand ..).trans (writeRow_aborts h (channelStopCommit_refuses mayNot) (by decide))
  case moduleStop =>
    exact fun h => (exec_moduleStopCommand ..).trans (writeRow_commits h moduleStopCommit_stops)
  case moduleRelease =>
    exact fun h may => (exec_moduleReleaseCommand ..).trans (writeRow_commits h (moduleStopCommit_releases may))
  case moduleConflict =>
    exact fun h mayNot =>
      (exec_moduleReleaseCommand ..).trans (writeRow_aborts h (moduleStopCommit_refuses mayNot) (by decide))
  case armTime => exact fun v h => (exec_stopTimeArm ..).trans (writeRow_commits h rfl)

end Sys2Proof.Laws
end

section
/-! Hangs, the missed heartbeat and the end of a dump (O33, R225 to R228, R244, R247). -/

namespace Sys2Proof.Laws

open Sys2Proof Sys2Proof.Machine

section
variable {s : State} {c : Chan}

/-! ## HANG_DETECTED (R225, R226, R244) -/

/-- Causes 1 to 4, of a unit of the channel, pass the command's first test. -/
theorem hang_told {cause : Fin 6} {unit : Byte} (isHang : cause ≠ 0) (notHeartbeat : cause ≠ 5)
    (ofChannel : isChannelUnit unit.toNat = true) :
    ¬(cause = 0 ∨ cause = 5 ∨ isChannelUnit unit.toNat = false) := by
  simp [isHang, notHeartbeat, ofChannel]

section
variable {cause : Fin 6} {unit : Byte} (up : s.chanUp c = true) (isHang : cause ≠ 0) (notHeartbeat : cause ≠ 5)
  (ofChannel : isChannelUnit unit.toNat = true)
include up isHang notHeartbeat ofChannel

theorem exec_hangDetected_declared (noDump : (s.chan c).dumping = false) (watched : (s.chan c).watched = true)
    (holds : s.hangHolds c cause.val = true) :
    exec (.hangDetected c cause unit) s = .next (s.declareHang c cause.val unit) := by
  change execHangDetected c cause unit s = _
  simp only [execHangDetected, whenChan_chanUp _ up, if_neg (hang_told isHang notHeartbeat ofChannel), noDump, watched,
    holds, Bool.false_eq_true, if_false, Bool.and_self, if_true]

theorem exec_hangDetected_counted (dumping : (s.chan c).dumping = true) :
    exec (.hangDetected c cause unit) s = .next (s.countHang c cause.val) := by
  change execHangDetected c cause unit s = _
  simp only [execHangDetected, whenChan_chanUp _ up, if_neg (hang_told isHang notHeartbeat ofChannel), dumping, if_true]

end

/-! ## HEARTBEAT_MISSED (R226, R244) -/

section
variable (up : s.reeveUp = true)
include up

theorem exec_heartbeatMissed_resets (noDump : (s.chan c).dumping = false) (watched : (s.chan c).watched = true) :
    exec (.heartbeatMissed c) s = .next (((((s.requestStop c 9).countHang c 5).halted c).modChan c
      (·.setHang (some (s.hangRecord c 5 0x40)))).warmReset c) := by
  change execHeartbeatMissed c s = _
  exact (whenReeve_reeveUp _ up).trans ((if_neg (ne_true_of_eq_false noDump)).trans (if_pos watched))

theorem exec_heartbeatMissed_counted (dumping : (s.chan c).dumping = true) :
    exec (.heartbeatMissed c) s = .next (s.countHang c 5) := by
  change execHeartbeatMissed c s = _
  exact (whenReeve_reeveUp _ up).trans (if_pos dumping)

end

/-! ## HANG_DUMP_COMPLETE (R226, R227, R247) -/

/-- With the channel STOPPED the dump ends, stored or abandoned, and the channel recovers. -/
theorem exec_hangDumpComplete {h : Hang} {page : Nat} (up : s.chanUp c = true) (hang : (s.chan c).dbg.hang = some h)
    (area : (s.chan c).dbg.area = some page) (dumping : h.dumping = true) (notHeartbeat : h.cause ≠ 5)
    (stopped : (s.chan c).stop.st = 2) (cellarError : Bool) :
    exec (.hangDumpComplete c cellarError) s =
      .next (((if cellarError || (s.chan c).xtsFault then s.abandonDump c else s.storeDump c h page).raiseIrq c
        irqHang).recover c) := by
  have ready : (h.dumping && (s.chan c).stop.st == 2) = true := by simp [dumping, stopped]
  change execHangDumpComplete c cellarError s = _
  simp only [execHangDumpComplete, whenChan_chanUp _ up, hang, area, if_neg notHeartbeat, ready, if_true]

end

/-- Settles O33: each command by its own lemma; the XTS engine without a fault leaves the dump's end to the Cellar. -/
theorem hangCommandsComplete : Obligations.HangCommandsComplete := by
  refine fun s c => ⟨fun cause unit up isHang notHeartbeat ofChannel =>
      exec_hangDetected_declared up isHang notHeartbeat ofChannel,
    fun cause unit up isHang notHeartbeat ofChannel => exec_hangDetected_counted up isHang notHeartbeat ofChannel,
    exec_heartbeatMissed_resets, exec_heartbeatMissed_counted, ?dumpEnds⟩
  case dumpEnds =>
    intro h page up hang area dumping notHeartbeat stopped sound
    refine ⟨?stored, ?abandoned⟩
    case stored =>
      rw [exec_hangDumpComplete up hang area dumping notHeartbeat stopped, sound]
      rfl
    case abandoned => exact exec_hangDumpComplete up hang area dumping notHeartbeat stopped true

end Sys2Proof.Laws
end

section
/-! The test port, the Seal fuse and the Daybooks (O34, R216 to R223). -/

namespace Sys2Proof.Laws

open Sys2Proof Sys2Proof.Machine

section
variable {s : State} {c : Chan}

/-! ## The TAP controller and the port's events (R216, R218) -/

/-- TMS high leads every state to Test-Logic-Reset in five edges. -/
theorem next_five_tms (x : TapSt) :
    TapSt.next (TapSt.next (TapSt.next (TapSt.next (TapSt.next x true) true) true) true) true = .testLogicReset := by
  cases x <;> rfl

section
variable (up : s.chanUp c = true)
include up

theorem exec_tapInstructionUpdate {op : Byte} (released : (s.chan c).tap.trst = false) :
    exec (.tapInstructionUpdate c op) s = .next (s.modChan c (·.selectInstruction op)) := by
  change execTapInstructionUpdate c op s = _
  exact (whenChan_chanUp _ up).trans (congrArg _ (modChan_ite_neg (ne_true_of_eq_false released)))

theorem exec_scanEnd (active : (s.chan c).tap.scanActive = true) : exec (.scanEnd c) s =
    .next (s.setChan c { s.chan c with tap := { (s.chan c).tap.judge with ctl := .runTestIdle } }) := by
  change execScanEnd c s = _
  exact (whenChan_chanUp _ up).trans (congrArg _ (modChan_ite_pos active))

theorem exec_tapReset_low : exec (.tapReset c false) s =
    .next (s.modChan c fun ch => { ch with tap := { ch.tap.reset_ with trst := true } }) := by
  change execTapReset c false s = _
  exact whenChan_chanUp _ up

theorem exec_tapReset_high : exec (.tapReset c true) s =
    .next (s.modChan c fun ch => { ch with tap := { ch.tap with trst := false } }) := by
  change execTapReset c true s = _
  exact whenChan_chanUp _ up

theorem exec_scanShift_held (tms tdi : Bool) (held : (s.chan c).tap.trst = true) :
    exec (.scanShift c tms tdi) s = .next s := by
  change execScanShift c tms tdi s = _
  exact (whenChan_chanUp _ up).trans (if_pos held)

theorem exec_scanShift (tms tdi : Bool) (released : (s.chan c).tap.trst = false) : exec (.scanShift c tms tdi) s =
    .next ((s.tapEdge c tdi).modChan c (·.tapMove ((s.chan c).tap.ctl.next tms))) := by
  change execScanShift c tms tdi s = _
  exact (whenChan_chanUp _ up).trans (if_neg (ne_true_of_eq_false released))

end

/-! ## The scan chain (R217) -/

/-- The channel after one more bit of its chain has been shifted out. -/
def chainShifted (ch : Channel) : Channel :=
  { ch with tap := { ch.tap with shifts := ch.tap.shifts + 1, rot := (ch.tap.rot + 1) % chainLength } }

/-- In Shift-DR with SCAN_OUT the chain rotates by one bit, which leaves on TDO; TDI is ignored. -/
theorem tapEdge_scanOut (shifting : (s.chan c).tap.ctl = .shiftDr) (scan : (s.chan c).tap.ir = opScanOut) (tdi : Bool) :
    s.tapEdge c tdi =
      (s.modChan c chainShifted).emit (.tdo c ((s.chan c).chainBit c (s.chan c).tap.rot)) := by
  simp only [State.tapEdge, State.modChan, chainShifted, shifting, scan, and_self, if_true]

theorem out_tapEdge_scanOut (shifting : (s.chan c).tap.ctl = .shiftDr) (scan : (s.chan c).tap.ir = opScanOut)
    (tdi : Bool) : (s.tapEdge c tdi).out = s.out ++ [.tdo c ((s.chan c).chainBit c (s.chan c).tap.rot)] := by
  rw [tapEdge_scanOut shifting scan]
  rfl

theorem shifts_tapEdge_scanOut (shifting : (s.chan c).tap.ctl = .shiftDr) (scan : (s.chan c).tap.ir = opScanOut)
    (tdi : Bool) : ((s.tapEdge c tdi).chan c).tap.shifts = (s.chan c).tap.shifts + 1 := by
  rw [tapEdge_scanOut shifting scan, State.emit_chan, State.chan_modChan_same, chainShifted]

/-! ## The Seal fuse (R220) -/

theorem exec_sealGuardWrite (p : Path) (c : Chan) (v : BitVec 16) (s : State) : exec (.sealGuardWrite p c v) s =
    s.writeRow p (chanIndex c 0x401) 2 (leBytes 2 v.toNat) (commitOk fun s => s.modChan c fun ch =>
      { ch with tap := { ch.tap with guardEnd := some (s.tclk + tclkOfS 1) } }) := rfl

theorem exec_sealBlow (p : Path) (c : Chan) (s : State) :
    exec (.sealBlow p c) s = s.writeRow p (chanIndex c 0x401) 3 [1] (sealBlowCommit c) := rfl

theorem sealBlowCommit_blows {e : Nat} (guard : (s.chan c).tap.guardEnd = some e) (inTime : s.tclk ≤ e)
    (noScan : (s.chan c).tap.scanActive = false) (service : s.reeve.serviceKey ≠ none)
    (intact : (s.chan c).tap.fuse = 0) :
    sealBlowCommit c s = (0, s.modChan c fun ch => { ch with tap := { (s.chan c).tap.leaveScan with
      fuse := 1, guardEnd := none, senseAt := some (s.tclk + tclkOfMs 50) } }) := by
  simp [sealBlowCommit, guard, inTime, noScan, service, intact]

theorem sealBlowCommit_unguarded (noGuard : (s.chan c).tap.guardEnd = none) :
    sealBlowCommit c s = (abortConflict, s) := by
  simp [sealBlowCommit, noGuard]

/-- The sense reads blown. -/
theorem exec_sealSense_blown {t : Nat} (up : s.chanUp c = true) (senses : (s.chan c).tap.senseAt = some t)
    (due : t ≤ s.tclk) : exec (.sealSense c true) s = .next (s.setChan c { s.chan c with
      tap := { (s.chan c).tap with fuse := 2, senseAt := none } }) := by
  change execSealSense c true s = _
  simp [execSealSense, whenChan_chanUp _ up, senses, due]

/-! ## The Daybooks (R223) -/

theorem exec_daybookClear (p : Path) (c : Chan) (s : State) : exec (.daybookClear p c) s =
    s.writeRow p (chanIndex c 0x402) 5 [1] (commitOk (·.modChan c (·.clearDaybooks))) := rfl

end

/-- Settles O34: the port's events and the sense by their own lemmas, the writes by the answers of their commits. -/
theorem scanAndSealCommandsComplete : Obligations.ScanAndSealCommandsComplete := by
  refine ⟨fun s c => ⟨fun op up => exec_tapInstructionUpdate up, exec_scanEnd,
    fun up => ⟨exec_tapReset_low up, exec_tapReset_high up⟩,
    fun tms tdi up => ⟨exec_scanShift_held up tms tdi, exec_scanShift up tms tdi⟩,
    fun _ _ shifting scan tdi => ⟨out_tapEdge_scanOut shifting scan tdi, shifts_tapEdge_scanOut shifting scan tdi⟩,
    fun p pl m => ⟨?guard, ?blow, ?unguarded, ?clear⟩, fun t => exec_sealSense_blown⟩, next_five_tms⟩
  case guard => exact fun v h => (exec_sealGuardWrite ..).trans (writeRow_commitOk _ h)
  case blow =>
    exact fun e h guard inTime noScan service intact =>
      (exec_sealBlow ..).trans (writeRow_commits h (sealBlowCommit_blows guard inTime noScan service intact))
  case unguarded =>
    exact fun h noGuard => (exec_sealBlow ..).trans (writeRow_aborts h (sealBlowCommit_unguarded noGuard) (by decide))
  case clear => exact fun h => (exec_daybookClear ..).trans (writeRow_commitOk _ h)

end Sys2Proof.Laws
end

section
/-! Watched tensors (O35): points, captures, and the decant ring in both views (R229 to R236). -/

namespace Sys2Proof.Laws

open Sys2Proof Sys2Proof.Machine

section
variable {s : State} {c : Chan} {i : Slot}

/-! ## Points (R229, R230) -/

/-- Offset of ARM_CTRL of a point in a view. -/
def armCtrlOff (view : View) (pt : Fin 8) : Nat :=
  match view with
  | .bar0 => 0x800 + 0x20 * pt.val
  | .window => 0

section
variable (up : s.hostUp c = true)
include up

theorem exec_decantArm (view : View) (pt : Fin 8) (v : BitVec 32) : exec (.decantArm view c i pt v) s =
    .next ((s.access view c (armCtrlOff view pt)).modChan c fun ch => ch.armPoint view i pt v) := by
  change execDecantArm view c i pt v s = _
  exact whenHost_hostUp _ up

theorem exec_decantDisarm (view : View) (pt : Fin 8) (v : BitVec 32) : exec (.decantDisarm view c i pt v) s =
    .next ((s.access view c (armCtrlOff view pt)).modChan c fun ch => ch.disarmPoint view i pt v) := by
  change execDecantDisarm view c i pt v s = _
  exact whenHost_hostUp _ up

/-! ## The ring (R233, R234) -/

theorem exec_decantRingEnable (view : View) (irq : Bool) : exec (.decantRingEnable view c i irq) s =
    .next ((s.access view c (slotCopy i 0x414)).modChan c fun ch =>
      ch.modOwner i (·.enableStream .decant irq)) := by
  change execDecantRingEnable view c i irq s = _
  exact viewWrite_hostUp view i 0x414 _ up

theorem exec_decantRingDisable (view : View) (irq : Bool) : exec (.decantRingDisable view c i irq) s =
    .next ((s.access view c (slotCopy i 0x414)).modChan c fun ch => ch.disableStream .decant i irq) := by
  change execDecantRingDisable view c i irq s = _
  exact viewWrite_hostUp view i 0x414 _ up

theorem exec_decantRingFlush (view : View) : exec (.decantRingFlush view c i) s =
    .next ((s.access view c (slotCopy i 0x414)).modChan c fun ch =>
      if (ch.owner i).decant.routing then ch.sealStream .decant i else ch) := by
  change execDecantRingFlush view c i s = _
  exact viewWrite_hostUp view i 0x414 _ up

theorem exec_decantBlockWritten (ok : Bool) :
    exec (.decantBlockWritten c i ok) s = .next (s.streamBlock c .decant i ok) := by
  change execDecantBlockWritten c i ok s = _
  exact whenHost_hostUp _ up

end

/-- A block that its ring takes, behind no trace block, is written or fails (R18, R233). -/
theorem streamBlock_written {k : StreamKind} {b : Block} {rest : List Block}
    (next : (((s.chan c).owner i).stream k).sealedQ = b :: rest)
    (active : (((s.chan c).owner i).ringOf k).active = true) (room : (((s.chan c).owner i).ringOf k).full = false)
    (runs : (s.chan c).dmaRuns k.ring i = true) (first : (s.chan c).traceAhead = false) (ok : Bool) :
    s.streamBlock c k i ok = if ok then (s.modChan c (·.wrote k.ring)).blockDone c k i b rest
      else (s.modChan c (·.wrote k.ring)).blockFailed c k i := by
  simp [State.streamBlock, next, active, room, runs, first]

/-! ## Captures (R231, R235) -/

section
variable (up : s.chanUp c = true)
include up

theorem exec_decantCapture {pt : Fin 8} {j : Job} (runs : (s.chan c).stopped = false)
    (watched : ((s.chan c).jobs.find? fun j =>
      j.running && ((s.chan c).point pt).matchesJob j && !j.captured.contains pt) = some j)
    (passed : (s.chan c).windowDone ((s.chan c).point pt) j = true) :
    exec (.decantCapture c pt) s = .next (s.capture c pt j 0) := by
  change execDecantCapture c pt s = _
  simp only [execDecantCapture, whenChan_chanUp _ up, watched, runs, passed]
  rfl

theorem exec_decantDrain {l : Fin 2} {cap : Capture} (held : (s.chan c).dbg.caps[l.val]? = some (some cap))
    (routing : ((s.chan c).owner cap.owner).decant.routing = true)
    (ring : ((s.chan c).owner cap.owner).decant.full = false) (runs : (s.chan c).stopped = false)
    (staging : (s.chan c).decStaged + 64 + cap.data.length ≤ 1048576) (bad : Bool) :
    exec (.decantDrain c l bad) s = .next (s.setChan c ((s.chan c).drain s.now s.tclk l cap bad)) := by
  change execDecantDrain c l bad s = _
  simp only [execDecantDrain, whenChan_chanUp _ up, held, routing, ring, runs, staging]
  rfl

end

end

/-- Settles O35: each command by its own lemma; a block is the stream's that its kind names. -/
theorem decantCommandsComplete : Obligations.DecantCommandsComplete := by
  refine fun s c i => ⟨fun up view pt v => ⟨exec_decantArm up view pt v, exec_decantDisarm up view pt v⟩,
    fun pt j up runs => exec_decantCapture up runs,
    fun l cap bad up held routing ring runs staging => exec_decantDrain up held routing ring runs staging bad,
    fun up view irq =>
      ⟨exec_decantRingEnable up view irq, exec_decantRingDisable up view irq, exec_decantRingFlush up view⟩, ?blocks⟩
  case blocks =>
    intro b rest up next active room runs first
    have written := streamBlock_written next active room runs first
    exact ⟨(exec_decantBlockWritten up true).trans (congrArg _ (written true)),
      (exec_decantBlockWritten up false).trans (congrArg _ (written false))⟩

end Sys2Proof.Laws
end

section
/-! SUPPORT. Outcomes that keep the memories' canonical form: how guards, register accesses and writes of a member pass
it on. A command that leaves the cells keeps it by the simp lemmas of Laws/Cells. -/

namespace Sys2Proof.Laws

open Sys2Proof Sys2Proof.Machine

/-- Whatever next state an outcome is, its memories are canonical where those of s are. -/
def KeepsMemory (s : State) (o : Host.Outcome State Fault Refusal) : Prop :=
  ∀ t : State, o = .next t → memoryWf s → memoryWf t

theorem memoryWf_ite {p : Prop} [Decidable p] {a b : State} (ha : memoryWf a) (hb : memoryWf b) :
    memoryWf (if p then a else b) := by split <;> assumption

variable {s t : State} {f : State → Host.Outcome State Fault Refusal}

theorem keepsMemory_next (h : memoryWf s → memoryWf t) : KeepsMemory s (.next t) := by
  rintro _ ⟨⟩
  exact h

/-- A next state that holds the same cells. -/
theorem keepsMemory_cells (h : t.chans.map mem = s.chans.map mem) : KeepsMemory s (.next t) :=
  keepsMemory_next (memoryWf_of_cells h)

theorem keepsMemory_stay : KeepsMemory s (.next s) := keepsMemory_cells rfl

theorem keepsMemory_after {o : Host.Outcome State Fault Refusal} (h : t.chans.map mem = s.chans.map mem)
    (g : KeepsMemory t o) : KeepsMemory s o := fun u hu hs => g u hu (memoryWf_of_cells h hs)

theorem keepsMemory_ite {p : Prop} [Decidable p] {a b : Host.Outcome State Fault Refusal} (ha : KeepsMemory s a)
    (hb : KeepsMemory s b) : KeepsMemory s (if p then a else b) := by split <;> assumption

/-- One of two next states that hold the same cells. -/
theorem keepsMemory_choice {p : Prop} [Decidable p] {a b : State} (ha : a.chans.map mem = s.chans.map mem)
    (hb : b.chans.map mem = s.chans.map mem) : KeepsMemory s (if p then .next a else .next b) :=
  keepsMemory_ite (keepsMemory_cells ha) (keepsMemory_cells hb)

theorem keepsMemory_whenLive (h : KeepsMemory s (f s)) : KeepsMemory s (s.whenLive f) :=
  keepsMemory_ite h keepsMemory_stay

theorem keepsMemory_whenReeve (h : KeepsMemory s (f s)) : KeepsMemory s (s.whenReeve f) :=
  keepsMemory_ite h keepsMemory_stay

theorem keepsMemory_whenChan {c : Chan} (h : KeepsMemory s (f s)) : KeepsMemory s (s.whenChan c f) :=
  keepsMemory_ite h keepsMemory_stay

theorem keepsMemory_whenHost {c : Chan} (h : KeepsMemory s (f s)) : KeepsMemory s (s.whenHost c f) :=
  keepsMemory_ite h keepsMemory_stay

/-- A register write is an access, then what the register does. -/
theorem keepsMemory_viewWrite {view : View} {c : Chan} {i : Slot} {off : Nat} (h : ∀ t, KeepsMemory t (f t)) :
    KeepsMemory s (s.viewWrite view c i off f) :=
  keepsMemory_whenHost (keepsMemory_after (cells_access ..) (h _))

/-- A write of one member, by a commit that leaves the cells. -/
theorem keepsMemory_writeRow {p : Path} {idx sub : Nat} {data : Bytes} {commit : Commit}
    (h : ∀ s, (commit s).2.chans.map mem = s.chans.map mem) : KeepsMemory s (s.writeRow p idx sub data commit) :=
  keepsMemory_choice rfl ((cells_answer ..).trans (cells_write _ _ _ _ _ _ h))

end Sys2Proof.Laws
end

section
/-! Commands that write or lose memory: power, the Larder's fill, the hang dump and BAR4 (R78, R227, R256, R298,
R433). -/

namespace Sys2Proof.Laws

open Sys2Proof Sys2Proof.Machine

variable {s : State} {c : Chan}

/-! ## Power -/

theorem memoryWf_eachChan {g : State → Chan → State} (h : ∀ s c, memoryWf s → memoryWf (g s c)) (hs : memoryWf s) :
    memoryWf (s.eachChan g) := memoryWf_foldl _ g h s hs

theorem memoryWf_withReeve {r : Reeve} (hs : memoryWf s) : memoryWf { s with reeve := r } := hs

/-- Each channel that has power loses it. -/
theorem keepsMemory_supplyUndervoltage : KeepsMemory s (execSupplyUndervoltage s) := by
  refine keepsMemory_whenReeve (keepsMemory_after (cells_morBits s 0x2000 6 underVoltageBit) ?_)
  refine keepsMemory_next fun hs => memoryWf_withReeve (memoryWf_eachChan ?_ hs)
  intro t d ht
  exact memoryWf_ite ht (memoryWf_powerDown t d 0x22 ht)

theorem keepsMemory_regulatorFault : KeepsMemory s (execRegulatorFault c s) :=
  keepsMemory_whenChan (keepsMemory_next fun hs => memoryWf_powerDown s c 0x23 hs)

theorem cells_storeTemps {die : List (BitVec 16)} {hbm : BitVec 16} {t : T64} :
    (s.modChan c fun ch => (ch.storeTemps die hbm).put 0x203 0x0A t).chans.map mem = s.chans.map mem := by
  refine cells_modChan _ _ _ ((mem_eq_iff ..).2 ?_)
  rw [Channel.put_cellar, Channel.put_larder]
  exact mem_storeTemps ..

theorem keepsMemory_temperatureSample {die : List (BitVec 16)} {hbm : BitVec 16} :
    KeepsMemory s (execTemperatureSample c die hbm s) :=
  keepsMemory_whenLive (keepsMemory_ite (keepsMemory_cells (by simp))
    (keepsMemory_next fun hs => memoryWf_judgeTemps _ c (memoryWf_of_cells cells_storeTemps hs)))

theorem keepsMemory_reeveReturn {bad : Bool} : KeepsMemory s (execReeveReturn bad s) := by
  refine keepsMemory_whenLive (keepsMemory_ite keepsMemory_stay (keepsMemory_after (cells_readSelector s bad) ?_))
  dsimp only
  split
  · exact keepsMemory_next (memoryWf_enterRecovery _)
  · refine keepsMemory_cells ?_
    split <;> simp

theorem keepsMemory_modulePowerOn {lost : List Nat} {bad : Bool} : KeepsMemory s (execModulePowerOn lost bad s) := by
  refine keepsMemory_ite keepsMemory_stay ?_
  have on (hs : memoryWf s) : memoryWf ((s.powered lost).readSelector bad) :=
    memoryWf_of_cells (cells_readSelector ..) (memoryWf_powered s lost hs)
  dsimp only
  split
  · exact keepsMemory_next fun hs => memoryWf_enterRecovery _ (on hs)
  · exact keepsMemory_next fun hs => memoryWf_of_cells (by simp) (on hs)

/-! ## Larder, dump and Cellar -/

theorem keepsMemory_planLoadComplete {facts : ProgramFacts} : KeepsMemory s (execPlanLoadComplete c facts s) := by
  refine keepsMemory_whenChan ?_
  split
  · exact keepsMemory_stay
  · refine keepsMemory_ite keepsMemory_stay (keepsMemory_ite (keepsMemory_next fun hs => ?_) ?refused)
    case refused => exact keepsMemory_cells (by simp)
    have loaded (r : LoadReq) (b : Bytes) : memoryWf (s.planLoaded c r b facts) := memoryWf_planLoaded s c r b facts hs
    exact memoryWf_ite (memoryWf_of_cells (cells_unloadPlan ..) (loaded _ _)) (loaded _ _)

/-- The dump is stored or given up, and the hang's recovery follows. -/
theorem keepsMemory_hangDumpComplete {bad : Bool} : KeepsMemory s (execHangDumpComplete c bad s) := by
  refine keepsMemory_whenChan ?_
  dsimp only
  split
  · rename_i h page _ _
    refine keepsMemory_ite (keepsMemory_next fun hs => ?_) keepsMemory_stay
    have dumped (p : Bool) : memoryWf (if p then s.abandonDump c else s.storeDump c h page) :=
      memoryWf_ite (memoryWf_of_cells (cells_abandonDump ..) hs) (memoryWf_storeDump s c h page hs)
    refine memoryWf_of_cells ?_ (dumped (bad || (s.chan c).xtsFault))
    split <;> simp
  · exact keepsMemory_stay

/-- The amount that a write counts is no byte of memory. -/
theorem keepsMemory_bar4Write {addr : Nat} {data : Bytes} : KeepsMemory s (execBar4Write c addr data s) := by
  refine keepsMemory_whenHost (keepsMemory_after (cells_bar4Access s c addr true) (keepsMemory_next fun hs => ?_))
  have stored (ch : Channel) (h : mem ch = mem ((s.bar4Access c addr true).chan c)) :
      memoryWf ((s.bar4Access c addr true).setChan c (ch.bar4Write c addr data)) := by
    obtain ⟨hc, hl⟩ := (mem_eq_iff ..).1 h
    have wf := bar4Write_wf ch c addr data (by rw [hc, hl]; exact hs c)
    exact memoryWf_setChan c hs wf.1 wf.2
  refine stored _ ?_
  split
  · split <;> simp
  · rfl

theorem keepsMemory_bar4Read {addr n : Nat} : KeepsMemory s (execBar4Read c addr n s) := by
  have counted (t : State) (p : Aperture) (k : Nat) : (match p with
      | .cellar _ => t.modChan c (·.pushCount 0x21 0x0780 t.now k)
      | _ => t).chans.map mem = t.chans.map mem := by split <;> simp
  exact keepsMemory_ite (keepsMemory_cells ((counted ..).trans (cells_bar4Access ..)))
    (keepsMemory_choice (by simp) rfl)

end Sys2Proof.Laws
end

section
/-! Register writes of any size (R277, R280 to R284), and the dictionary's and the key blobs' writes with what follows
their answer (R249, R251, R328, R361, R444). -/

namespace Sys2Proof.Laws

open Sys2Proof Sys2Proof.Machine

variable {s : State} {view : View} {c : Chan} {i : Slot} {off : Nat}

/-! ## Rings -/

theorem keepsMemory_ringTail {k : RingKind} {v : BitVec 32} : KeepsMemory s (ringTail view c i k v s) := by
  cases k <;> delta ringTail <;> exact keepsMemory_viewWrite fun _ => keepsMemory_cells (by simp)

/-- What follows an outcome that goes on. -/
theorem keepsMemory_then {o : Host.Outcome State Fault Refusal} {t u : State} (ho : KeepsMemory s o) (ht : o = .next t)
    (h : u.chans.map mem = t.chans.map mem) : KeepsMemory s (.next u) :=
  keepsMemory_next fun hs => memoryWf_of_cells h (ho t ht hs)

theorem keepsMemory_traceCtrl {on irq : Bool} : KeepsMemory s
    (if on then execTraceRingEnable view c i irq s else execTraceRingDisable view c i irq s) :=
  keepsMemory_ite (keepsMemory_viewWrite fun _ => keepsMemory_cells (by simp))
    (keepsMemory_viewWrite fun _ => keepsMemory_cells (by simp))

theorem keepsMemory_decantCtrl {on irq : Bool} : KeepsMemory s
    (if on then execDecantRingEnable view c i irq s else execDecantRingDisable view c i irq s) :=
  keepsMemory_ite (keepsMemory_viewWrite fun _ => keepsMemory_cells (by simp))
    (keepsMemory_viewWrite fun _ => keepsMemory_cells (by simp))

/-- ENABLE written 1 or 0, and FLUSH after it. -/
theorem keepsMemory_ringCtrl {k : RingKind} {v : BitVec 32} : KeepsMemory s (ringCtrl view c i k v s) := by
  cases k with
  | job | result =>
    exact keepsMemory_ite (keepsMemory_viewWrite fun _ => keepsMemory_cells (by simp))
      (keepsMemory_viewWrite fun _ => keepsMemory_cells (by simp))
  | trace =>
    unfold ringCtrl
    dsimp only
    split
    · exact keepsMemory_then keepsMemory_traceCtrl ‹_› (by simp)
    · exact keepsMemory_traceCtrl
  | decant =>
    unfold ringCtrl
    dsimp only
    split
    · exact keepsMemory_then keepsMemory_decantCtrl ‹_› (by simp)
    · exact keepsMemory_decantCtrl

/-! ## Words -/

theorem keepsMemory_writeSlot {v : BitVec 32} : KeepsMemory s (writeSlot view c i off v s) := by
  unfold writeSlot
  dsimp only
  split
  · exact keepsMemory_cells (by simp)
  · exact keepsMemory_ite keepsMemory_ringTail (keepsMemory_ite keepsMemory_ringCtrl (keepsMemory_cells (by simp)))

theorem keepsMemory_writeBar0 {v : BitVec 32} : KeepsMemory s (writeBar0 c off v s) := by
  refine keepsMemory_ite keepsMemory_writeSlot
    (keepsMemory_after (cells_access s .bar0 c off true) (keepsMemory_cells ?_))
  repeat' split
  all_goals simp

theorem keepsMemory_writeWord {v : BitVec 32} : KeepsMemory s (writeWord view c i off v s) := by
  cases view with
  | bar0 => exact keepsMemory_writeBar0
  | window => exact keepsMemory_ite keepsMemory_writeSlot (keepsMemory_cells (by simp))

/-- A write is one word, a BASE pair, two words in address order, or PARTIAL. -/
theorem keepsMemory_writeAccess {size : Nat} {v : Word} : KeepsMemory s (writeAccess view c i off size v s) := by
  refine keepsMemory_ite keepsMemory_writeWord (keepsMemory_ite ?_ (keepsMemory_cells (by simp)))
  split
  · exact keepsMemory_cells (by simp)
  · obtain ⟨t, ht⟩ := (goesOn_iff _).1 (goesOn_writeWord view c i off (lo32 v) s)
    simp only [ht]
    exact fun u hu hs => keepsMemory_writeWord u hu (keepsMemory_writeWord t ht hs)

theorem keepsMemory_regWrite {size : Nat} {v : Word} : KeepsMemory s (s.regWrite view c i off size v) :=
  keepsMemory_ite keepsMemory_writeAccess (keepsMemory_ite keepsMemory_writeAccess keepsMemory_stay)

theorem keepsMemory_registerWrite {x : RegTarget} : KeepsMemory s (execRegisterWrite x s) := by
  cases x with
  | bar0 | window => exact keepsMemory_regWrite
  | dict => exact keepsMemory_choice rfl ((cells_afterWrite ..).trans ((cells_answer ..).trans (cells_dictWrite ..)))

/-! ## Writes of one member with more than an answer -/

theorem keepsMemory_keyBlobWrite {p : Path} {blob : Bytes} : KeepsMemory s (execKeyBlobWrite p c i blob s) :=
  keepsMemory_choice rfl ((cells_answer ..).trans (cells_writeBlob _ _ _ _ _ (cells_keyBlobCommit c i blob)))

theorem keepsMemory_serviceKeyBlobWrite {p : Path} {blob : Bytes} :
    KeepsMemory s (execServiceKeyBlobWrite p blob s) :=
  keepsMemory_choice rfl ((cells_answer ..).trans (cells_writeBlob _ _ _ _ _ (cells_serviceKeyCommit blob)))

theorem keepsMemory_accessKeyWrite {p : Path} {key : Bytes} : KeepsMemory s (execAccessKeyWrite p key s) :=
  keepsMemory_choice rfl ((cells_afterAccessKey ..).trans
    ((cells_answer ..).trans (cells_write _ _ _ _ _ _ (cells_accessKeyCommit key))))

theorem keepsMemory_stewardBankRequest {p : Path} {v : Byte} : KeepsMemory s (execStewardBankRequest p c v s) :=
  keepsMemory_choice rfl ((cells_answer ..).trans
    ((cells_afterBankRequest ..).trans (cells_write _ _ _ _ _ _ (cells_bankRequestCommit c v.toNat))))

theorem keepsMemory_imageActivate {p : Path} : KeepsMemory s (execImageActivate p s) :=
  keepsMemory_choice rfl ((cells_afterActivate ..).trans
    ((cells_answer ..).trans (cells_write _ _ _ _ _ _ (cells_restartCommit activateOk))))

theorem keepsMemory_imageFallBack {p : Path} : KeepsMemory s (execImageFallBack p s) :=
  keepsMemory_choice rfl ((cells_afterActivate ..).trans
    ((cells_answer ..).trans (cells_write _ _ _ _ _ _ (cells_restartCommit fallBackOk))))

end Sys2Proof.Laws
end

section
/-! Commands with more than one outcome that leave the cells, by chapter. -/

namespace Sys2Proof.Laws

open Sys2Proof Sys2Proof.Machine

variable {s : State} {c : Chan} {p : Port} {i : Slot}

/-! ## Time (R31, R41, R58) -/

theorem keepsMemory_correctionSlot : KeepsMemory s (execCorrectionSlot s) :=
  keepsMemory_whenLive (keepsMemory_ite (keepsMemory_choice rfl rfl) keepsMemory_stay)

/-- A comparator fires late, on time, or not yet. -/
theorem keepsMemory_comparatorFire {k : Fin 5} : KeepsMemory s (execComparatorFire c k s) := by
  refine keepsMemory_whenChan (keepsMemory_ite ?_ keepsMemory_stay)
  split
  · exact keepsMemory_cells (by simp)
  · exact keepsMemory_choice (by simp) rfl

theorem keepsMemory_syncReceived {m : PtpMsg} : KeepsMemory s (execSyncReceived m s) :=
  keepsMemory_whenReeve (keepsMemory_choice (cells_rxStamp s) rfl)

theorem keepsMemory_delayReqReceived {m : PtpMsg} : KeepsMemory s (execDelayReqReceived m s) :=
  keepsMemory_whenReeve (keepsMemory_choice ((cells_queuePtp ..).trans (cells_rxStamp s)) rfl)

/-- A stamp taken from the queue is of a Sync or of a Delay_Req. -/
theorem keepsMemory_tsqDrain : KeepsMemory s (execTsqDrain s) := by
  refine keepsMemory_whenReeve ?_
  split
  · exact keepsMemory_stay
  · exact keepsMemory_ite (keepsMemory_choice (by simp) (by simp)) (keepsMemory_choice (by simp) (by simp))

theorem keepsMemory_announceReceiptTimeout : KeepsMemory s (execAnnounceReceiptTimeout s) :=
  keepsMemory_whenReeve (keepsMemory_ite (keepsMemory_choice rfl (by simp)) keepsMemory_stay)

/-! ## Links (R84, R85) -/

theorem keepsMemory_trainingBlockReceived {lanes : List TrainingBlock} {skew : Nat} :
    KeepsMemory s (execTrainingBlockReceived c p lanes skew s) := by
  refine keepsMemory_whenChan (keepsMemory_ite keepsMemory_stay ?_)
  split <;> exact keepsMemory_cells (by simp)

/-- A flit that a neighbour sent is taken from the board ring. -/
theorem cells_arrive {f : Flit} {t : State} (h : s.arrive c p f = some t) :
    t.chans.map mem = s.chans.map mem := by
  unfold State.arrive at h
  repeat' split at h
  all_goals cases h
  all_goals rfl

theorem keepsMemory_flitReceived {f : Flit} : KeepsMemory s (execFlitReceived c p f s) := by
  refine keepsMemory_whenChan (keepsMemory_ite keepsMemory_stay ?_)
  split
  next arrived => exact keepsMemory_cells ((cells_takeFlit ..).trans (cells_arrive arrived))
  next => exact keepsMemory_stay

/-- What is sent, in the order of R85: an idle flit that is due, a NAK, a replayed flit, data, or an idle flit. -/
theorem keepsMemory_dataFlitSend : KeepsMemory s (execDataFlitSend c p s) := by
  refine keepsMemory_whenChan (keepsMemory_ite keepsMemory_stay
    (keepsMemory_ite (keepsMemory_cells (by simp)) (keepsMemory_ite (keepsMemory_cells (by simp)) ?_)))
  split
  · exact keepsMemory_cells (by simp)
  · refine keepsMemory_ite ?_ (keepsMemory_cells (by simp))
    split
    · exact keepsMemory_cells (by simp)
    · split <;> exact keepsMemory_cells (by simp)
  · exact keepsMemory_cells (by simp)

/-! ## Jobs (R92, R95 to R98) -/

theorem keepsMemory_descriptorFetch : KeepsMemory s (execDescriptorFetch c s) := by
  refine keepsMemory_whenHost (keepsMemory_ite keepsMemory_stay ?_)
  split
  · exact keepsMemory_cells (by simp)
  · exact keepsMemory_stay

theorem keepsMemory_descriptorFetched {r : Fetched} : KeepsMemory s (execDescriptorFetched c r s) := by
  refine keepsMemory_whenChan ?_
  split
  · exact keepsMemory_stay
  · cases r <;> exact keepsMemory_cells (by simp)

theorem keepsMemory_timeLaunch : KeepsMemory s (execTimeLaunch c s) := by
  refine keepsMemory_whenChan (keepsMemory_ite keepsMemory_stay ?_)
  split
  · exact keepsMemory_cells (by simp)
  · exact keepsMemory_stay

theorem keepsMemory_reservationExpiry {j : Nat} : KeepsMemory s (execReservationExpiry c j s) := by
  refine keepsMemory_whenChan ?_
  split
  · split
    · exact keepsMemory_choice (by simp) rfl
    · exact keepsMemory_stay
  · exact keepsMemory_stay

theorem keepsMemory_tileRetire {k : Nat} {work : List TileOp} : KeepsMemory s (execTileRetire c k work s) := by
  refine keepsMemory_whenChan ?_
  dsimp only
  split
  · exact keepsMemory_choice (by simp) rfl
  · exact keepsMemory_stay

theorem keepsMemory_tileDeadlineMiss {k : Nat} {fetch : Bool} :
    KeepsMemory s (execTileDeadlineMiss c k fetch s) := by
  refine keepsMemory_whenChan ?_
  dsimp only
  split
  · exact keepsMemory_choice rfl (by simp)
  · exact keepsMemory_stay

/-! ## Observation (R152, R171, R174, R190, R191) -/

theorem keepsMemory_traceBlockWritten {ok : Bool} : KeepsMemory s (execTraceBlockWritten c i ok s) := by
  refine keepsMemory_whenHost ?_
  dsimp only
  split
  · exact keepsMemory_stay
  · exact keepsMemory_choice rfl (by simp)

/-- An amount brought in by the command, or the oldest one that waits in the channel. -/
theorem keepsMemory_countArrival {q : Option (Byte × BitVec 16 × Nat)} : KeepsMemory s (execCountArrival c q s) := by
  refine keepsMemory_whenChan ?_
  cases q with
  | some x => exact keepsMemory_choice (by simp) rfl
  | none =>
    dsimp only
    split
    · exact keepsMemory_stay
    · exact keepsMemory_cells (by simp)

theorem keepsMemory_stocktakeTrigger {src : StPath} : KeepsMemory s (execStocktakeTrigger src c s) := by
  unfold execStocktakeTrigger
  cases src with
  | ctrl => exact keepsMemory_whenHost (keepsMemory_cells (by simp))
  | dict => exact keepsMemory_writeRow fun _ => by simp

theorem keepsMemory_stocktakeRelease {src : StPath} : KeepsMemory s (execStocktakeRelease src c s) := by
  unfold execStocktakeRelease
  cases src with
  | ctrl => exact keepsMemory_whenHost (keepsMemory_cells (by simp))
  | dict => exact keepsMemory_writeRow fun _ => by simp

/-- The pulse that ends is repeated, then a stop, or a freeze by its width. -/
theorem keepsMemory_syncInFall : KeepsMemory s (execSyncInFall s) := by
  refine keepsMemory_whenLive ?_
  split
  · exact keepsMemory_stay
  · exact keepsMemory_cells (by simp)

/-! ## Stops, hangs and watched tensors (R210, R225, R226, R231) -/

theorem keepsMemory_coreHalted : KeepsMemory s (execCoreHalted c s) := by
  refine keepsMemory_whenChan (keepsMemory_ite (keepsMemory_cells ?_) keepsMemory_stay)
  split
  · split <;> simp
  · simp

theorem keepsMemory_hangDetected {cause : Fin 6} {unit : Byte} : KeepsMemory s (execHangDetected c cause unit s) :=
  keepsMemory_whenChan (keepsMemory_ite keepsMemory_stay (keepsMemory_ite (keepsMemory_cells (by simp))
    (keepsMemory_choice (by simp) rfl)))

theorem keepsMemory_heartbeatMissed : KeepsMemory s (execHeartbeatMissed c s) :=
  keepsMemory_whenReeve (keepsMemory_ite (keepsMemory_cells (by simp)) (keepsMemory_choice (by simp) rfl))

theorem keepsMemory_decantDrain {l : Fin 2} {bad : Bool} : KeepsMemory s (execDecantDrain c l bad s) := by
  refine keepsMemory_whenChan ?_
  dsimp only
  split
  · exact keepsMemory_choice (by simp) rfl
  · exact keepsMemory_stay

/-! ## Owners and keys (R248, R254, R257, R272) -/

theorem keepsMemory_keyInstalled : KeepsMemory s (execKeyInstalled c s) := by
  refine keepsMemory_whenChan ?_
  split
  · split <;> exact keepsMemory_cells (by simp)
  · exact keepsMemory_stay

/-- The key is destroyed, or open blocks are sealed, or something is left to do. -/
theorem keepsMemory_retirementComplete : KeepsMemory s (execRetirementComplete c i s) :=
  keepsMemory_whenChan (keepsMemory_ite keepsMemory_stay
    (keepsMemory_ite (keepsMemory_choice rfl (by simp)) (keepsMemory_choice (by simp) rfl)))

theorem keepsMemory_cellarTagDone : KeepsMemory s (execCellarTagDone c s) := by
  refine keepsMemory_whenChan ?_
  split
  · exact keepsMemory_cells (by simp)
  · exact keepsMemory_stay

theorem keepsMemory_cipherFault {engine : Fin 3} : KeepsMemory s (execCipherFault c engine s) := by
  refine keepsMemory_whenChan (keepsMemory_cells ?_)
  dsimp only
  split <;> simp

/-! ## The mailbox and the mirrors (R292 to R297) -/

theorem keepsMemory_mbxGo {ctrl : BitVec 32} {here : Mailbox → Bool} : KeepsMemory s (s.mbxGo c ctrl here) :=
  keepsMemory_whenHost (keepsMemory_choice (by simp) rfl)

theorem keepsMemory_mbxOperationEnd : KeepsMemory s (execMbxOperationEnd c s) := by
  refine keepsMemory_whenHost ?_
  split
  · exact keepsMemory_stay
  · exact keepsMemory_cells (by simp)
  · dsimp only
    split <;> exact keepsMemory_cells (by simp)

theorem keepsMemory_mbxTimeout : KeepsMemory s (execMbxTimeout c s) := by
  refine keepsMemory_whenChan ?_
  split
  · exact keepsMemory_choice (by simp) rfl
  · exact keepsMemory_stay

theorem keepsMemory_mirOperationEnd : KeepsMemory s (execMirOperationEnd c i s) := by
  refine keepsMemory_whenHost (keepsMemory_ite ?_ keepsMemory_stay)
  dsimp only
  split
  · exact keepsMemory_cells (by simp)
  · exact keepsMemory_choice (by simp) (by simp)

/-! ## The field network, TLX and USB (R312 to R318, R334 to R336, R451 to R453) -/

theorem keepsMemory_coordinatorListenEnd : KeepsMemory s (execCoordinatorListenEnd s) := by
  refine keepsMemory_whenReeve ?_
  split
  · exact keepsMemory_ite (keepsMemory_choice (by simp) (by simp)) keepsMemory_stay
  · exact keepsMemory_stay

theorem keepsMemory_beaconReceived {f : BeaconFacts} : KeepsMemory s (execBeaconReceived f s) :=
  keepsMemory_whenReeve (keepsMemory_ite (keepsMemory_cells (by simp)) (keepsMemory_ite (keepsMemory_cells (by simp))
    (keepsMemory_ite (keepsMemory_cells (by simp)) (keepsMemory_choice (by simp) (by simp)))))

theorem keepsMemory_opportunityStart {f : OppFacts} : KeepsMemory s (execOpportunityStart f s) :=
  keepsMemory_whenReeve (keepsMemory_ite keepsMemory_stay (keepsMemory_ite (keepsMemory_cells (by simp))
    (keepsMemory_choice (by simp) (by simp))))

theorem keepsMemory_runPtp {b : Bytes} : KeepsMemory s (s.runPtp b) := by
  unfold State.runPtp
  dsimp only
  split
  · exact keepsMemory_cells (by simp)
  · refine keepsMemory_ite (keepsMemory_cells (by simp)) (keepsMemory_ite keepsMemory_syncReceived
      (keepsMemory_ite keepsMemory_delayReqReceived (keepsMemory_ite ?_ (keepsMemory_ite ?_ ?_))))
    all_goals exact keepsMemory_whenReeve (keepsMemory_choice (by simp) rfl)

theorem keepsMemory_acceptFrame {f : MacFrame} : KeepsMemory s (s.acceptFrame f) := by
  refine keepsMemory_after (cells_mcount s 0x1010 3 1 32) (keepsMemory_ite keepsMemory_runPtp
    (keepsMemory_ite (keepsMemory_cells ?_) (keepsMemory_cells (by simp))))
  cases run : (s.mcount 0x1010 3 1).runPdu (.network f.src) f.payload true with
  | none => exact cells_discardFrame _
  | some t => exact cells_runPdu run

theorem keepsMemory_fieldFrameReceived {frame : Frame} : KeepsMemory s (execFieldFrameReceived frame s) := by
  refine keepsMemory_whenReeve ?_
  split
  · exact keepsMemory_cells (by simp)
  · exact keepsMemory_ite keepsMemory_acceptFrame keepsMemory_stay

theorem keepsMemory_tlxEventNotify {k : Fin 32} {handle : Fin 8} :
    KeepsMemory s (execTlxEventNotify k handle s) := by
  refine keepsMemory_ite keepsMemory_stay ?_
  split
  · exact keepsMemory_stay
  · split
    · exact keepsMemory_stay
    · exact keepsMemory_choice (by simp) rfl

theorem keepsMemory_tlxEventRetry {k : Fin 32} : KeepsMemory s (execTlxEventRetry k s) := by
  refine keepsMemory_ite keepsMemory_stay ?_
  split
  · exact keepsMemory_stay
  · exact keepsMemory_choice (by simp) (by simp)

theorem keepsMemory_tlxWriteIdleTimeout {k : Fin 32} : KeepsMemory s (execTlxWriteIdleTimeout k s) := by
  unfold execTlxWriteIdleTimeout
  split <;> exact keepsMemory_cells (by simp)

theorem keepsMemory_usbTlxSend {n : Nat} {pdu : Bytes} : KeepsMemory s (execUsbTlxSend n pdu s) :=
  keepsMemory_ite keepsMemory_stay
    (keepsMemory_ite (keepsMemory_cells (by simp)) (keepsMemory_choice rfl (by simp)))

theorem keepsMemory_usbTlxReceive {n : Nat} : KeepsMemory s (execUsbTlxReceive n s) := by
  refine keepsMemory_ite keepsMemory_stay (keepsMemory_ite (keepsMemory_cells (by simp)) ?_)
  split <;> exact keepsMemory_cells (by simp)

theorem keepsMemory_usbBulkIn : KeepsMemory s (execUsbBulkIn s) := by
  refine keepsMemory_ite ?_ keepsMemory_stay
  split <;> exact keepsMemory_cells (by simp)

/-! ## Power, clocks and wear (R404, R410 to R414, R418 to R421) -/

theorem keepsMemory_shareArrival : KeepsMemory s (execShareArrival c s) := by
  refine keepsMemory_whenLive (keepsMemory_cells (cells_modChan _ _ _ ?_))
  split <;> rfl

theorem keepsMemory_voltageSettled : KeepsMemory s (execVoltageSettled c s) := by
  refine keepsMemory_whenChan ?_
  dsimp only
  split
  iterate 2 exact keepsMemory_choice (by simp) rfl
  exact keepsMemory_stay

theorem keepsMemory_relockLocked : KeepsMemory s (execRelockLocked c s) := by
  refine keepsMemory_whenChan ?_
  split
  · exact keepsMemory_cells (by simp)
  · exact keepsMemory_stay

theorem mem_measureWear (ch : Channel) (rings : List (Option Int)) :
    (ch.measureWear rings).cellar = ch.cellar ∧ (ch.measureWear rings).larder = ch.larder := by
  unfold Channel.measureWear
  dsimp only
  split <;> exact ⟨rfl, rfl⟩

theorem keepsMemory_wearMeasurement {rings : List (Option Int)} {wear : Nat} :
    KeepsMemory s (execWearMeasurement c rings wear s) := by
  refine keepsMemory_whenChan (keepsMemory_cells ?_)
  rw [cells_worstGuard, cells_markSaved]
  refine cells_modChan _ _ _ ?_
  obtain ⟨hc, hl⟩ := mem_measureWear (s.chan c) rings
  dsimp only
  split <;> simp [hc, hl]

theorem keepsMemory_wearDaily : KeepsMemory s (execWearDaily s) :=
  keepsMemory_whenReeve (keepsMemory_choice (by simp) rfl)

theorem keepsMemory_channelPowerUp : KeepsMemory s (execChannelPowerUp c s) := by
  refine keepsMemory_whenReeve (keepsMemory_ite (keepsMemory_cells ?_) keepsMemory_stay)
  refine (cells_setChanSt ..).trans (cells_modChan _ _ _ ?_)
  exact (mem_eq_iff ..).2 (mem_raise (s.chan c) s.now s.tclk (s.freeIn 0 1))

theorem keepsMemory_thermalRecovery : KeepsMemory s (execThermalRecovery c s) :=
  keepsMemory_ite keepsMemory_channelPowerUp keepsMemory_stay

/-! ## Startup (R442, R444, R457, R458) -/

theorem keepsMemory_stewardBoot {badA badB : Bool} : KeepsMemory s (execStewardBoot c badA badB s) := by
  refine keepsMemory_whenReeve (keepsMemory_ite ?_ keepsMemory_stay)
  dsimp only
  split <;> exact keepsMemory_cells (by simp)

theorem keepsMemory_selfTestComplete {failure : Option Byte} : KeepsMemory s (execSelfTestComplete c failure s) := by
  refine keepsMemory_whenChan (keepsMemory_ite ?_ keepsMemory_stay)
  cases failure with
  | none => exact keepsMemory_cells (by simp)
  | some r => exact keepsMemory_choice (by simp) rfl

end Sys2Proof.Laws
end

section
/-! Every command keeps the memories' canonical form (O5), and the reset state has it (O6). -/

namespace Sys2Proof.Laws

open Sys2Proof Sys2Proof.Machine

/-- A command writes a member, or a register, or acts behind its guard, or at once, or when it is due, and leaves the
cells; or it has its lemma above. -/
theorem keepsMemory_exec (i : Instr) (s : State) : KeepsMemory s (exec i s) := by
  cases i
  -- One member is written.
  case ref10mEnableWrite | incrementWrite | timeStepWrite | ppsLoadWrite | trigTargetWrite | trigModeWrite
      | trigPeriodWidthWrite | cycleEnableWrite | cycleFirstTickWrite | correctionModeCommit | ptpEnableWrite
      | reacquire | calendarSet | portModeWrite | planLoad | planUnload | observatoryPowerWrite | traceModeWrite
      | counterSelectWrite | counterPresetWrite | counterEnableWrite | triggerMaskWrite | stocktakeT64Arm
      | moduleFreezeTimeWrite | moduleFreezeNow | channelStopCommand | channelReleaseCommand | moduleStopCommand
      | moduleReleaseCommand | stopTimeArm | sealGuardWrite | sealBlow | daybookClear | keyDestroy | nodeIdWrite
      | tlFrameQueue | tlFrameDiscardAll | ethertypeWrite | restoreRequest | saveRetry | floorRequestWrite
      | frequencyRequestWrite | missionProfileWrite | imageTargetWrite | imageWrite | imageBankWrite
      | offsetMeasureCommand =>
    delta exec
    exact keepsMemory_writeRow fun _ => by simp
  -- A register is written.
  case traceRingFlush | traceRingEnable | traceRingDisable | traceRingTailWrite | resultRingEnable | resultRingDisable
      | resultRingTailWrite | decantRingEnable | decantRingDisable | decantRingFlush | decantRingTailWrite
      | jobRingDoorbell | jobRingEnable | jobRingDisable =>
    delta exec
    exact keepsMemory_viewWrite fun _ => keepsMemory_cells (by simp)
  case resultBlockWritten | decantBlockWritten | decantArm | decantDisarm | cellarTagGo | irqEnableWrite | mbxCancel
      | mirRead | stopCtrlStop | stopCtrlRelease =>
    delta exec
    exact keepsMemory_whenHost (keepsMemory_cells (by simp))
  -- One outcome behind a guard.
  case traceRecordMerge | stagingParityError | gather | probeReceived | signalLoss | cellarUncorrectable
      | stillroomTableFault | tapInstructionUpdate | scanEnd | tapReset | channelWarmReset | hbmFailure | sensorFault
      | powerMeasurementFault | powerMeasurementRecovered =>
    delta exec
    exact keepsMemory_whenChan (keepsMemory_cells (by simp))
  case ref10mQualified | stopNFall | tcxoFailure | internalLinkDown =>
    delta exec
    exact keepsMemory_whenLive (keepsMemory_cells (by simp))
  case reeveWatchdog | echoReceived | supplyMarginal | supplyRecovered | ppsCapture | allocationTick =>
    delta exec
    exact keepsMemory_whenReeve (keepsMemory_cells (by simp))
  -- One outcome at once.
  case tlxIdentify | tlxOpen | tlxAuth | tlxRenew | tlxClose | tlxRead | tlxReadSegment | tlxWrite | tlxWriteCancel
      | tlxSubscribe | tlxUnsubscribe | tlxEventAck | tlxUnknownService | authTimeout | sessionLapse | usbPortInfo
      | usbBulkPdu | usbAttach | usbStandardRequest =>
    delta exec
    exact keepsMemory_cells (by simp)
  -- A condition beside the guard.
  case periodicTimestamp | traceDisturbed | flushInterval | energyUpdate | stocktakeT64Fire | stopTimeFire
      | stopEventMatch | dmaDrained | replayTimeout | scanShift | governorPeriod | linkTrainStart | wearAccrual
      | keySlotParityError =>
    delta exec
    exact keepsMemory_whenChan (keepsMemory_choice (by simp) (by simp))
  case calendarSync | tlFrameRelease | beaconSend | beaconTimeout | announceReceived | followUpReceived | delayReqSend
      | delayRespReceived | ptpSyncSend | announceSend | tlFrameTimeout | probeSend | journalStore =>
    delta exec
    exact keepsMemory_whenReeve (keepsMemory_choice (by simp) (by simp))
  case ref10mLost | syncInRise | upstreamLinkDown | upstreamLinkUp | internalLinkUp =>
    delta exec
    exact keepsMemory_whenLive (keepsMemory_choice (by simp) (by simp))
  case functionReset | functionReady | perstNAssert | perstNDeassert | bankWriteComplete | usbBusReset | pairLoRead =>
    delta exec
    exact keepsMemory_choice (by simp) (by simp)
  -- What falls due, where something waits.
  case syncHoldoffEnd | syncOutPulseEnd | loadStrobe | syncStopRecognised =>
    delta exec
    refine keepsMemory_whenLive ?_
    split
    · exact keepsMemory_choice (by simp) rfl
    · exact keepsMemory_stay
  case leapSecond | ppsLoadTimeout | ppsMissing | masterLost | echoTimeout | stopNPulseEnd | stopNStuck
      | syncBurstEnd =>
    delta exec
    refine keepsMemory_whenReeve ?_
    split
    · exact keepsMemory_choice (by simp) rfl
    · exact keepsMemory_stay
  case armingComplete | trigPulseEnd | mbxSegmentTimeout | glideEnd | relockEnd | pllLockTimeout =>
    delta exec
    refine keepsMemory_whenChan ?_
    split
    · exact keepsMemory_choice (by simp) rfl
    · exact keepsMemory_stay
  case sealSense | completionWrite | faithfulTimeout | decantCapture | noInputExpiry | jobDone =>
    delta exec
    refine keepsMemory_whenChan ?_
    dsimp only
    split
    · exact keepsMemory_choice (by simp) (by simp)
    · exact keepsMemory_stay
  -- Each of the rest by its own lemma.
  case supplyCritical | modulePowerLoss =>
    exact keepsMemory_ite (keepsMemory_next fun _ => memoryWf_unpowered s) keepsMemory_stay
  case mbxRead | mbxWrite | mbxInvalidOp =>
    delta exec
    exact keepsMemory_mbxGo
  case correctionSlot => exact keepsMemory_correctionSlot
  case comparatorFire => exact keepsMemory_comparatorFire
  case syncReceived => exact keepsMemory_syncReceived
  case delayReqReceived => exact keepsMemory_delayReqReceived
  case tsqDrain => exact keepsMemory_tsqDrain
  case announceReceiptTimeout => exact keepsMemory_announceReceiptTimeout
  case trainingBlockReceived => exact keepsMemory_trainingBlockReceived
  case flitReceived => exact keepsMemory_flitReceived
  case dataFlitSend => exact keepsMemory_dataFlitSend
  case descriptorFetch => exact keepsMemory_descriptorFetch
  case descriptorFetched => exact keepsMemory_descriptorFetched
  case timeLaunch => exact keepsMemory_timeLaunch
  case reservationExpiry => exact keepsMemory_reservationExpiry
  case tileRetire => exact keepsMemory_tileRetire
  case tileDeadlineMiss => exact keepsMemory_tileDeadlineMiss
  case planLoadComplete => exact keepsMemory_planLoadComplete
  case traceBlockWritten => exact keepsMemory_traceBlockWritten
  case countArrival => exact keepsMemory_countArrival
  case stocktakeTrigger => exact keepsMemory_stocktakeTrigger
  case stocktakeRelease => exact keepsMemory_stocktakeRelease
  case syncInFall => exact keepsMemory_syncInFall
  case coreHalted => exact keepsMemory_coreHalted
  case hangDetected => exact keepsMemory_hangDetected
  case hangDumpComplete => exact keepsMemory_hangDumpComplete
  case heartbeatMissed => exact keepsMemory_heartbeatMissed
  case decantDrain => exact keepsMemory_decantDrain
  case keyBlobWrite => exact keepsMemory_keyBlobWrite
  case serviceKeyBlobWrite => exact keepsMemory_serviceKeyBlobWrite
  case keyInstalled => exact keepsMemory_keyInstalled
  case retirementComplete => exact keepsMemory_retirementComplete
  case cellarTagDone => exact keepsMemory_cellarTagDone
  case cipherFault => exact keepsMemory_cipherFault
  case bar4Write => exact keepsMemory_bar4Write
  case bar4Read => exact keepsMemory_bar4Read
  case mbxOperationEnd => exact keepsMemory_mbxOperationEnd
  case mbxTimeout => exact keepsMemory_mbxTimeout
  case mirOperationEnd => exact keepsMemory_mirOperationEnd
  case registerWrite => exact keepsMemory_registerWrite
  case coordinatorListenEnd => exact keepsMemory_coordinatorListenEnd
  case beaconReceived => exact keepsMemory_beaconReceived
  case opportunityStart => exact keepsMemory_opportunityStart
  case fieldFrameReceived => exact keepsMemory_fieldFrameReceived
  case tlxEventNotify => exact keepsMemory_tlxEventNotify
  case tlxEventRetry => exact keepsMemory_tlxEventRetry
  case tlxWriteIdleTimeout => exact keepsMemory_tlxWriteIdleTimeout
  case usbTlxSend => exact keepsMemory_usbTlxSend
  case usbTlxReceive => exact keepsMemory_usbTlxReceive
  case usbBulkIn => exact keepsMemory_usbBulkIn
  case accessKeyWrite => exact keepsMemory_accessKeyWrite
  case stewardBankRequest => exact keepsMemory_stewardBankRequest
  case imageActivate => exact keepsMemory_imageActivate
  case imageFallBack => exact keepsMemory_imageFallBack
  case shareArrival => exact keepsMemory_shareArrival
  case voltageSettled => exact keepsMemory_voltageSettled
  case relockLocked => exact keepsMemory_relockLocked
  case wearMeasurement => exact keepsMemory_wearMeasurement
  case wearDaily => exact keepsMemory_wearDaily
  case temperatureSample => exact keepsMemory_temperatureSample
  case channelPowerUp => exact keepsMemory_channelPowerUp
  case thermalRecovery => exact keepsMemory_thermalRecovery
  case regulatorFault => exact keepsMemory_regulatorFault
  case supplyUndervoltage => exact keepsMemory_supplyUndervoltage
  case reeveReturn => exact keepsMemory_reeveReturn
  case modulePowerOn => exact keepsMemory_modulePowerOn
  case stewardBoot => exact keepsMemory_stewardBoot
  case selfTestComplete => exact keepsMemory_selfTestComplete

/-- Settles O5: an idle step is an edge of TCLK, which leaves the cells, and a command keeps the form. -/
theorem stepKeepsMemoryCanonical : Obligations.StepKeepsMemoryCanonical := by
  intro s t hs ht
  unfold step at ht
  split at ht
  · obtain rfl := Host.Outcome.next.inj ht
    exact memoryWf_of_cells (cells_tick s) hs
  · exact keepsMemory_exec _ _ t ht hs

/-- Settles O6: nothing is listed at reset. -/
theorem resetMemoryIsCanonical : Obligations.ResetMemoryIsCanonical := by
  intro c
  simp [State.reset, State.chan, Channel.reset, memWf]

end Sys2Proof.Laws
end

section
/-! A BAR4 write that the Cellar takes counts its 64-byte units (O36, R178, R180, R256, R298). -/

namespace Sys2Proof.Laws

open Sys2Proof Sys2Proof.Machine

theorem countQ_writeUnit (ch : Channel) (k : BitVec 256 × BitVec 256) (unit off : Nat) (b : Bytes) :
    (ch.writeUnit k unit off b).countQ = ch.countQ := rfl

theorem countQ_writeCellar (ch : Channel) (k : BitVec 256 × BitVec 256) (addr : Nat) (b : Bytes) :
    (ch.writeCellar k addr b).countQ = ch.countQ := by
  unfold Channel.writeCellar
  split
  · exact countQ_writeUnit ..
  · exact List.foldlRecOn (motive := fun x : Channel => x.countQ = ch.countQ) _ _ rfl
      fun _ h _ _ => (countQ_writeUnit ..).trans h

/-- Storing the data, or discarding it, counts no occurrence. -/
theorem countQ_bar4Write (ch : Channel) (c : Chan) (addr : Nat) (b : Bytes) :
    (ch.bar4Write c addr b).countQ = ch.countQ := by
  unfold Channel.bar4Write
  split
  · split
    · exact countQ_writeCellar ..
    · rfl
  · rfl

theorem countQ_pushCount {ch : Channel} (observed : ch.observed = true) (u num : Nat) (t : T64) {n : Nat}
    (hn : n ≠ 0) : (ch.pushCount u num t n).countQ = ch.countQ ++
      [{ unit := BitVec.ofNat 8 u, event := BitVec.ofNat 16 num, stamp := t, amount := n }] := by
  simp [Channel.pushCount, observed, hn]

/-- The channel counts CELLAR_WRITE_64B, 0x0781, once for each 64 bytes of a write that it takes (R180). -/
theorem countQ_exec_bar4Write {s t : State} {c : Chan} {addr a : Nat} {data : Bytes} (up : s.hostUp c = true)
    (cellar : apertureOf addr data.length = .cellar a) (nonempty : (data.length + 63) / 64 ≠ 0)
    (taken : (((s.bar4Access c addr true).chan c).writeKeys c a).isSome = true)
    (observed : ((s.bar4Access c addr true).chan c).observed = true)
    (ht : exec (.bar4Write c addr data) s = .next t) :
    (t.chan c).countQ = ((s.bar4Access c addr true).chan c).countQ ++
      [{ unit := 0x21, event := 0x0781, stamp := s.now, amount := (data.length + 63) / 64 }] := by
  change execBar4Write c addr data s = _ at ht
  rw [execBar4Write, whenHost_hostUp _ up] at ht
  obtain rfl := Host.Outcome.next.inj ht
  rw [State.chan_modChan_same, countQ_bar4Write]
  simp only [cellar, taken, if_true]
  exact countQ_pushCount observed 0x21 0x0781 s.now nonempty

/-- Channel 0 READY with its Observatory on, page 0 of its Cellar tagged for owner 0, and that slot KEYED. -/
def keyedPage : State :=
  { State.reset with
    perst := false, upLink := true
    chans := State.reset.chans.set 0 ((({ Channel.reset with
      st := .ready, steward := true, host := { HostPort.reset with ready := true }
      tags := [(0, 0)] }).put 0x300 1 1).modOwner 0 fun o =>
        { o with st := .keyed, key := some { key := 1, gen := 1, stream := 1 } }) }

/-- Refutes O36: owner 0 of keyedPage writes 4 bytes at BAR4 address 0, and the channel's count queue takes an amount of
CELLAR_WRITE_64B that the clause of BAR4_WRITE leaves out. -/
theorem not_keyAndCellarCommandsComplete : ¬ Obligations.KeyAndCellarCommandsComplete := by
  intro h
  obtain ⟨-, cellarCommands⟩ := h
  obtain ⟨-, -, bar4Write, -⟩ := cellarCommands keyedPage 0
  have up : keyedPage.hostUp 0 = true := by decide
  have counted := countQ_exec_bar4Write up (a := 0) (by decide) (by decide) (by decide) (by decide)
    (bar4Write 0 (zeros 4) up)
  rw [State.chan_modChan_same, countQ_bar4Write] at counted
  simp at counted

end Sys2Proof.Laws
end

section
/-! SUPPORT. Canonical memories as maps from addresses to bytes: what a byte and a run put in read back (O7, R258,
R298). -/

namespace Sys2Proof.Laws

open Sys2Proof Sys2Proof.Machine

/-- The addresses of a canonical store rise. -/
theorem lt_head_of_memWf {k : Nat} {v : Byte} {m : List Host.Cell} (h : memWf ((k, v) :: m) = true) :
    ∀ y ∈ m.head?, k < y.1 := by
  cases m with
  | nil => simp
  | cons y r =>
    obtain ⟨k', v'⟩ := y
    simp only [memWf, Bool.and_eq_true, decide_eq_true_eq] at h
    simpa using h.1.2

/-- An address below all that a canonical store lists is not listed. -/
theorem memGet_below {m : List Host.Cell} (h : memWf m = true) {x : Nat} (below : ∀ y ∈ m.head?, x < y.1) :
    memGet m x = unwritten := by
  induction m with
  | nil => rfl
  | cons y r ih =>
    obtain ⟨k, v⟩ := y
    have hx : x < k := by simpa using below
    rw [memGet, if_neg (Nat.ne_of_gt hx)]
    exact ih (memWf_tail h) fun z hz => Nat.lt_trans hx (lt_head_of_memWf h z hz)

theorem memGet_cons (k : Nat) (v : Byte) (r : List Host.Cell) (x : Nat) :
    memGet ((k, v) :: r) x = if x = k then v else memGet r x := by simp only [memGet, eq_comm]

/-- A byte takes a cell in front of a store that does not list its address, or none where it reads as unlisted. -/
theorem memGet_listed {r : List Host.Cell} {a : Nat} (unlisted : memGet r a = unwritten) (x : Nat) (b : Byte) :
    memGet (if b = unwritten then r else (a, b) :: r) x = if x = a then b else memGet r x := by
  split
  · next hb =>
    split
    · next hx => rw [hx, unlisted, hb]
    · rfl
  · exact memGet_cons a b r x

theorem memGet_memPut {m : List Host.Cell} (h : memWf m = true) (a x : Nat) (b : Byte) :
    memGet (memPut m a b) x = if x = a then b else memGet m x := by
  induction m with
  | nil => exact memGet_listed rfl x b
  | cons y r ih =>
    obtain ⟨k, v⟩ := y
    rw [memPut]
    split
    · next same =>
      subst same
      rw [memGet_listed (memGet_below (memWf_tail h) (lt_head_of_memWf h)), memGet_cons]
      split <;> rfl
    · split
      · next lower => exact memGet_listed (memGet_below h (by simpa using lower)) x b
      · next other _ =>
        rw [memGet_cons, memGet_cons, ih (memWf_tail h)]
        split
        · next hx => rw [if_neg (hx ▸ other)]
        · rfl

/-- A run leaves every byte before and behind it. -/
theorem memGet_memWrite_outside {m : List Host.Cell} (h : memWf m = true) {a x : Nat} {b : Bytes}
    (outside : x < a ∨ a + b.length ≤ x) : memGet (memWrite m a b) x = memGet m x := by
  induction b generalizing m a with
  | nil => rfl
  | cons y r ih =>
    rw [List.length_cons] at outside
    rw [memWrite, ih (memPut_wf m a y h) (by omega), memGet_memPut h, if_neg (by omega)]

theorem memGet_memWrite_inside {m : List Host.Cell} (h : memWf m = true) (a : Nat) {b : Bytes} {i : Nat}
    (hi : i < b.length) : memGet (memWrite m a b) (a + i) = b[i] := by
  induction b generalizing m a i with
  | nil => simp at hi
  | cons y r ih =>
    have put := memPut_wf m a y h
    rw [memWrite]
    cases i with
    | zero => rw [memGet_memWrite_outside put (by omega), memGet_memPut h]; simp
    | succ j =>
      rw [show a + (j + 1) = a + 1 + j by omega, ih put]
      rfl

@[simp] theorem length_memRead (m : List Host.Cell) (a n : Nat) : (memRead m a n).length = n := by simp [memRead]

theorem memRead_memWrite {m : List Host.Cell} (h : memWf m = true) (a : Nat) (b : Bytes) :
    memRead (memWrite m a b) a b.length = b :=
  List.ext_getElem (length_memRead ..) fun i _ hi => by
    rw [← memGet_memWrite_inside h a hi]
    simp [memRead]

/-- Settles O7: a byte by induction on the store, a run by induction on its bytes. -/
theorem memoryRunsReadBack : Obligations.MemoryRunsReadBack :=
  ⟨fun _ a x b h => memGet_memPut h a x b,
    fun _ a b h => ⟨memRead_memWrite h a b, fun _ outside => memGet_memWrite_outside h outside⟩⟩

end Sys2Proof.Laws
end

section
/-! A BAR4 write rewrites the 64-byte units that its data lies in, and no other byte of either memory (O60, R256, R297,
R298). -/

namespace Sys2Proof.Laws

open Sys2Proof Sys2Proof.Machine

/-! ## A unit under XTS holds no more than 64 bytes (R256) -/

@[simp] theorem length_chunksN (k n : Nat) (b : Bytes) : (chunksN k n b).length = k := by
  induction k generalizing b with
  | zero => rfl
  | succ j ih => simp [chunksN, ih]

@[simp] theorem length_chunks (n : Nat) (b : Bytes) : (chunks n b).length = (b.length + n - 1) / n := length_chunksN ..

theorem length_le_of_mem_chunksN {k n : Nat} {b x : Bytes} (h : x ∈ chunksN k n b) : x.length ≤ n := by
  induction k generalizing b with
  | zero => simp [chunksN] at h
  | succ j ih =>
    rw [chunksN, List.mem_cons] at h
    rcases h with rfl | h
    · exact List.length_take_le n b
    · exact ih h

theorem length_xtsBlocks_le (f : Bytes → Bytes) (t : Nat) (bs : List Bytes) :
    (xtsBlocks f t bs).length ≤ 16 * bs.length := by
  induction bs generalizing t with
  | nil => simp [xtsBlocks]
  | cons b r ih =>
    have rest := ih (xtsNext t)
    simp only [xtsBlocks, xorBytes, List.length_append, List.length_zipWith, length_leBytes, List.length_cons]
    omega

theorem length_xts_le {b : Bytes} (h : b.length ≤ 64) (back : Bool) (dataKey tweakKey : BitVec 256) (unit : Nat) :
    (xts back dataKey tweakKey unit b).length ≤ 64 := by
  have blocks := length_xtsBlocks_le (if back then aesUnblock (roundKeys (keyBytes dataKey))
    else aesBlock (roundKeys (keyBytes dataKey))) (leNat (aesBlock (roundKeys (keyBytes tweakKey)) (leBytes 16 unit)))
    (chunks 16 b)
  rw [length_chunks] at blocks
  exact Nat.le_trans blocks (by omega)

/-! ## Units that a write touches (R298) -/

/-- Two channels hold the same Larder, and the same Cellar outside the bytes from lo up to hi. -/
def SameOutside (lo hi : Nat) (ch ch' : Channel) : Prop :=
  (∀ x : Nat, x < lo ∨ hi ≤ x → memGet ch'.cellar x = memGet ch.cellar x) ∧ ch'.larder = ch.larder

section
variable {ch ch' : Channel} {lo hi : Nat}

theorem sameOutside_of_mem (h : mem ch' = mem ch) : SameOutside lo hi ch ch' := by
  obtain ⟨hc, hl⟩ := (mem_eq_iff ..).1 h
  exact ⟨fun _ _ => by rw [hc], hl⟩

theorem sameOutside_trans {ch'' : Channel} (h : SameOutside lo hi ch ch') (g : SameOutside lo hi ch' ch'') :
    SameOutside lo hi ch ch'' := ⟨fun x hx => (g.1 x hx).trans (h.1 x hx), g.2.trans h.2⟩

/-- A unit is stored as 64 bytes, whatever part of it is written. -/
theorem sameOutside_writeUnit (wf : memWf ch.cellar = true) (k : BitVec 256 × BitVec 256) {unit off : Nat} {b : Bytes}
    (fits : off + b.length ≤ 64) (above : lo ≤ unit * 64) (below : unit * 64 + 64 ≤ hi) :
    SameOutside lo hi ch (ch.writeUnit k unit off b) := by
  refine ⟨fun x hx => memGet_memWrite_outside wf ?_, rfl⟩
  have old := length_xts_le (Nat.le_of_eq (length_memRead ch.cellar (unit * 64) 64)) true k.1 k.2 unit
  have stored := length_xts_le (b := (xts true k.1 k.2 unit (memRead ch.cellar (unit * 64) 64)).take off ++ b ++
    (xts true k.1 k.2 unit (memRead ch.cellar (unit * 64) 64)).drop (off + b.length))
    (by simp only [List.length_append, List.length_take, List.length_drop]; omega) false k.1 k.2 unit
  omega

/-- Data in one unit rewrites that unit; longer data rewrites a unit for each 64 bytes. -/
theorem sameOutside_writeCellar (wf : memWf ch.cellar = true ∧ memWf ch.larder = true) (k : BitVec 256 × BitVec 256)
    {addr : Nat} {b : Bytes} (nonempty : 0 < b.length) :
    SameOutside (addr / 64 * 64) ((addr + b.length + 63) / 64 * 64) ch (ch.writeCellar k addr b) := by
  unfold Channel.writeCellar
  split
  · next fits => exact sameOutside_writeUnit wf.1 k fits (Nat.le_refl _) (by omega)
  · refine (List.foldlRecOn (motive := fun ch' : Channel =>
      (memWf ch'.cellar = true ∧ memWf ch'.larder = true) ∧ SameOutside _ _ ch ch') _ _
      ⟨wf, sameOutside_of_mem rfl⟩ fun ch' ⟨wf', same⟩ x hx =>
        ⟨writeUnit_wf ch' k _ 0 x.1 wf', sameOutside_trans same (sameOutside_writeUnit wf'.1 k ?_ ?_ ?_)⟩).2
    all_goals obtain ⟨-, index, piece⟩ := List.mem_zipIdx hx
    · have short := length_le_of_mem_chunksN (piece ▸ List.getElem_mem _ : x.1 ∈ chunks 64 b)
      omega
    · omega
    · rw [length_chunks] at index
      omega

/-! ## The write (R297) -/

/-- The aperture serves accesses of 4 bytes and more, and its first part leads to the Cellar at the same address. -/
theorem apertureOf_cellar {addr n a : Nat} (h : apertureOf addr n = .cellar a) : a = addr ∧ 0 < n := by
  unfold apertureOf at h
  split at h
  · cases h
  · next aligned =>
    split at h
    · cases h
      refine ⟨rfl, Nat.pos_of_ne_zero ?_⟩
      rintro rfl
      simp [served] at aligned
    · split at h <;> cases h

theorem sameOutside_bar4Write (wf : memWf ch.cellar = true ∧ memWf ch.larder = true) (c : Chan) (addr : Nat)
    (b : Bytes) : SameOutside (addr / 64 * 64) ((addr + b.length + 63) / 64 * 64) ch (ch.bar4Write c addr b) := by
  unfold Channel.bar4Write
  split
  · next a cellar =>
    obtain ⟨rfl, nonempty⟩ := apertureOf_cellar cellar
    split
    · next k _ => exact sameOutside_writeCellar wf k nonempty
    · exact sameOutside_of_mem rfl
  · exact sameOutside_of_mem rfl

end

/-- The access event and the count of the units leave both memories, so what changes is what the write stores. -/
theorem sameOutside_exec_bar4Write {s t : State} {c : Chan} {addr : Nat} {data : Bytes} (wf : memoryWf s)
    (ht : exec (.bar4Write c addr data) s = .next t) :
    SameOutside (addr / 64 * 64) ((addr + data.length + 63) / 64 * 64) (s.chan c) (t.chan c) := by
  change execBar4Write c addr data s = _ at ht
  have counted (ch : Channel) (h : mem ch = mem (s.chan c)) :
      SameOutside (addr / 64 * 64) ((addr + data.length + 63) / 64 * 64) (s.chan c) (ch.bar4Write c addr data) := by
    obtain ⟨hc, hl⟩ := (mem_eq_iff ..).1 h
    exact sameOutside_trans (sameOutside_of_mem h) (sameOutside_bar4Write (by rw [hc, hl]; exact wf c) c addr data)
  by_cases up : s.hostUp c = true
  · rw [execBar4Write, whenHost_hostUp _ up] at ht
    obtain rfl := Host.Outcome.next.inj ht
    rw [State.chan_modChan_same]
    have accessed := mem_chan_of (cells_bar4Access s c addr true) c
    refine counted _ ?_
    split
    · split
      · exact ((mem_eq_iff ..).2 (mem_pushCount ..)).trans accessed
      · exact accessed
    · exact accessed
  · rw [execBar4Write, State.whenHost, if_neg up] at ht
    obtain rfl := Host.Outcome.next.inj ht
    exact sameOutside_of_mem rfl

/-- Settles O60: the units by what each of them stores, the other channels as for every command of one channel (O58). -/
theorem bar4WriteChangesOnlyItsUnits : Obligations.Bar4WriteChangesOnlyItsUnits := by
  intro s t c addr data wf ht
  obtain ⟨cellar, larder⟩ := sameOutside_exec_bar4Write wf ht
  obtain ⟨-, others⟩ := channelCommandsLeaveOtherChannels (.bar4Write c addr data) c s t rfl ht
  exact ⟨cellar, larder, others⟩

end Sys2Proof.Laws
end

section
/-! Result and job rings (O26): completions, result blocks, ENABLE, and TAIL of the three block rings (R153, R154, R171,
R233, R285 to R289). -/

namespace Sys2Proof.Laws

open Sys2Proof Sys2Proof.Machine

section
variable {s : State} {c : Chan} {i : Slot}

/-! ## Completions and blocks (R288) -/

theorem exec_completionWrite {x : Completion} (up : s.chanUp c = true)
    (oldest : (s.chan c).completions.find? (·.slot == i) = some x) (ready : (s.chan c).waits x = false) :
    exec (.completionWrite c i) s = .next (s.setChan c ((s.chan c).writeCompletion s.now s.tclk x)) := by
  change execCompletionWrite c i s = _
  simp [execCompletionWrite, whenChan_chanUp _ up, oldest, ready]

section
variable (up : s.hostUp c = true)
include up

theorem exec_resultBlockWritten (ok : Bool) :
    exec (.resultBlockWritten c i ok) s = .next (s.streamBlock c .result i ok) := by
  change execResultBlockWritten c i ok s = _
  exact whenHost_hostUp _ up

/-! ## ENABLE (R153, R285, R287, R289) -/

theorem exec_resultRingEnable (view : View) : exec (.resultRingEnable view c i) s =
    .next ((s.access view c (slotCopy i 0x214)).modChan c fun ch =>
      ch.modOwner i (·.enableStream .result false)) := by
  change execResultRingEnable view c i s = _
  exact viewWrite_hostUp view i 0x214 _ up

theorem exec_resultRingDisable (view : View) : exec (.resultRingDisable view c i) s =
    .next (((s.access view c (slotCopy i 0x214)).modChan c fun ch =>
      ch.disableStream .result i false).trimStaging c) := by
  change execResultRingDisable view c i s = _
  exact viewWrite_hostUp view i 0x214 _ up

theorem exec_jobRingEnable (view : View) : exec (.jobRingEnable view c i) s =
    .next ((s.access view c (slotCopy i 0x114)).modChan c
      (·.modOwner i fun o => { o with job := o.job.jobEnable })) := by
  change execJobRingEnable view c i s = _
  exact viewWrite_hostUp view i 0x114 _ up

theorem exec_jobRingDisable (view : View) : exec (.jobRingDisable view c i) s =
    .next ((s.access view c (slotCopy i 0x114)).modChan c
      (·.modOwner i fun o => { o with job := { o.job with enable := false } })) := by
  change execJobRingDisable view c i s = _
  exact viewWrite_hostUp view i 0x114 _ up

end

/-! ## TAIL (R154, R171, R233) -/

theorem tailWritten_inside {r : Ring} {v : BitVec 32} (inside : r.tailOk (v.toNat / 4096 * 4096) = true) :
    s.tailWritten r v = (r.writeTail v, s) := if_pos inside

/-- Outside the readable blocks HEAD and TAIL are two values drawn (log entry 100). -/
theorem tailWritten_outside {r : Ring} {v : BitVec 32} (outside : r.tailOk (v.toNat / 4096 * 4096) = false) :
    ∃ h x : Nat, s.tailWritten r v = (r.astray h x, s.drawn.drawn) :=
  ⟨_, _, if_neg (by simp [outside])⟩

theorem streamTail_inside {k : StreamKind} {v : BitVec 32}
    (inside : (((s.chan c).owner i).ringOf k).tailOk (v.toNat / 4096 * 4096) = true) :
    s.streamTail c k i v = (s.modChan c fun ch => ch.modOwner i fun o =>
      o.setRing k ((((s.chan c).owner i).ringOf k).writeTail v)).trimStaging c := by
  rw [State.streamTail, tailWritten_inside inside]

theorem streamTail_outside {k : StreamKind} {v : BitVec 32}
    (outside : (((s.chan c).owner i).ringOf k).tailOk (v.toNat / 4096 * 4096) = false) :
    ∃ h x : Nat, s.streamTail c k i v = (s.drawn.drawn.modChan c fun ch => ch.modOwner i fun o =>
      o.setRing k ((((s.chan c).owner i).ringOf k).astray h x)).trimStaging c := by
  obtain ⟨h, x, written⟩ := tailWritten_outside (s := s) outside
  exact ⟨h, x, by rw [State.streamTail, written]⟩

section
variable (up : s.hostUp c = true)
include up

theorem exec_resultRingTailWrite (view : View) (v : BitVec 32) : exec (.resultRingTailWrite view c i v) s =
    .next ((s.access view c (slotCopy i 0x210)).streamTail c .result i v) := by
  change execResultRingTailWrite view c i v s = _
  exact viewWrite_hostUp view i 0x210 _ up

theorem exec_decantRingTailWrite (view : View) (v : BitVec 32) : exec (.decantRingTailWrite view c i v) s =
    .next ((s.access view c (slotCopy i 0x410)).streamTail c .decant i v) := by
  change execDecantRingTailWrite view c i v s = _
  exact viewWrite_hostUp view i 0x410 _ up

theorem exec_traceRingTailWrite (view : View) (v : BitVec 32) :
    let t := s.access view c (slotCopy i 0x310)
    let x := t.tailWritten ((t.chan c).owner i).trace v
    exec (.traceRingTailWrite view c i v) s =
      .next (x.2.modChan c fun ch => (ch.modOwner i fun o => { o with trace := x.1 }).watchFull t.tclk) := by
  intro t x
  change execTraceRingTailWrite view c i v s = _
  exact viewWrite_hostUp view i 0x310 _ up

end

end

/-- Settles O26: each command by its own lemma; a TAIL by whether it lies inside the readable blocks. -/
theorem resultRingCommandsComplete : Obligations.ResultRingCommandsComplete := by
  refine ⟨fun s c i => ⟨fun x up oldest ready => exec_completionWrite up oldest ready, ?blocks, ?enables⟩,
    fun s c i view v up => ⟨⟨?traceInside, ?traceOutside⟩, ⟨?resultInside, ?resultOutside⟩,
      ⟨?decantInside, ?decantOutside⟩⟩⟩
  case blocks =>
    intro b rest up next active room runs first
    have written := streamBlock_written next active room runs first
    exact ⟨(exec_resultBlockWritten up true).trans (congrArg _ (written true)),
      (exec_resultBlockWritten up false).trans (congrArg _ (written false))⟩
  case enables =>
    intro view up
    exact ⟨exec_resultRingEnable up view, exec_resultRingDisable up view, exec_jobRingEnable up view,
      exec_jobRingDisable up view⟩
  case traceInside =>
    intro inside
    rw [exec_traceRingTailWrite up, tailWritten_inside inside]
    rfl
  case traceOutside =>
    intro outside
    obtain ⟨h, x, written⟩ := tailWritten_outside outside
    exact ⟨h, x, by rw [exec_traceRingTailWrite up, written]⟩
  case resultInside =>
    intro inside
    rw [exec_resultRingTailWrite up, streamTail_inside inside]
  case resultOutside =>
    intro outside
    obtain ⟨h, x, written⟩ := streamTail_outside outside
    exact ⟨h, x, by rw [exec_resultRingTailWrite up, written]⟩
  case decantInside =>
    intro inside
    rw [exec_decantRingTailWrite up, streamTail_inside inside]
  case decantOutside =>
    intro outside
    obtain ⟨h, x, written⟩ := streamTail_outside outside
    exact ⟨h, x, by rw [exec_decantRingTailWrite up, written]⟩

end Sys2Proof.Laws
end

section
/-! Function resets, PERST_N and the PCIe links (O37, R299, R308, R432, R433). -/

namespace Sys2Proof.Laws

open Sys2Proof Sys2Proof.Machine

section
variable {s : State} {c : Chan}

/-! ## PERST_N (R299) -/

theorem exec_perstNDeassert (low : s.perst = true) :
    exec .perstNDeassert s = .next { s with perst := false, upLink := true } := by
  change execPerstNDeassert s = _
  exact if_pos low

section
variable (live : s.live = true)
include live

theorem exec_perstNAssert (high : s.perst = false) :
    exec .perstNAssert s = .next ({ s with perst := true, upLink := false } : State).resetAll := by
  have powered : ({ s with perst := true, upLink := false } : State).live = true := live
  change execPerstNAssert s = _
  simp [execPerstNAssert, high, powered]

/-! ## The function (R274, R299, R449, R460) -/

theorem exec_functionReset (cause : ResetCause) (high : s.perst = false) (link : s.upLink = true)
    (inner : (s.chan c).host.linkDown = false) :
    exec (.functionReset c cause) s = .next (s.functionReset c (resetCode cause)) := by
  change execFunctionReset c cause s = _
  simp [execFunctionReset, live, high, link, inner]

/-- A warm reset that waited for readiness happens with it. -/
theorem exec_functionReady (high : s.perst = false) (unready : (s.chan c).host.ready = false) :
    let t := s.modChan c fun ch => { ch with host := { ch.host with ready := true, warmWaits := false } }
    exec (.functionReady c) s = .next (if (s.chan c).host.warmWaits then t.warmIf c else t) := by
  intro t
  change execFunctionReady c s = _
  simp [execFunctionReady, live, high, unready, t]

/-! ## The links (R308) -/

theorem exec_upstreamLinkDown (link : s.upLink = true) : exec .upstreamLinkDown s =
    .next ((({ s with upLink := false } : State).moduleEvent { unit := 0xF1, num := 0x1100 }).resetAll) := by
  change execUpstreamLinkDown s = _
  exact (whenLive_live _ live).trans (if_pos link)

theorem exec_upstreamLinkUp (width speed : Byte) (down : s.upLink = false) (high : s.perst = false) :
    exec (.upstreamLinkUp width speed) s = .next (({ s with upLink := true } : State).moduleEvent
      { unit := 0xF1, num := 0x1101, pay := payAt 8 width.toNat ||| payAt 9 speed.toNat }) := by
  change execUpstreamLinkUp width speed s = _
  simp [execUpstreamLinkUp, whenLive_live _ live, down, high]

theorem exec_internalLinkDown : exec (.internalLinkDown c) s =
    .next (s.modChan c fun ch => { ch with host := { ch.host with linkDown := true } }) := by
  change execInternalLinkDown c s = _
  exact whenLive_live _ live

theorem exec_internalLinkUp (down : (s.chan c).host.linkDown = true) : exec (.internalLinkUp c) s =
    .next ((s.modChan c fun ch => { ch with host := { ch.host with linkDown := false } }).functionReset c 2) := by
  change execInternalLinkUp c s = _
  exact (whenLive_live _ live).trans (if_pos down)

end

end

/-- Settles O37: each command by its own lemma; readiness by whether a warm reset waits for it. -/
theorem resetAndLinkCommandsComplete : Obligations.ResetAndLinkCommandsComplete := by
  refine fun s => ⟨fun c cause live high link inner => exec_functionReset live cause high link inner, ?ready, ?waited,
    fun high live => exec_perstNAssert live high, exec_perstNDeassert, exec_upstreamLinkDown,
    fun width speed live down high => exec_upstreamLinkUp live width speed down high,
    fun c live => exec_internalLinkDown live, fun c live => exec_internalLinkUp live⟩
  case ready =>
    intro c live high unready idle
    rw [exec_functionReady live high unready, idle]
    rfl
  case waited =>
    intro c live high unready waits
    rw [exec_functionReady live high unready, waits]
    rfl

end Sys2Proof.Laws
end

section
/-! The mailbox and the mirrors (O39, R292 to R297, R308). -/

namespace Sys2Proof.Laws

open Sys2Proof Sys2Proof.Machine

section
variable {s : State} {c : Chan}

/-! ## The end of an operation, and an access while one runs (R291, R293) -/

theorem mbx_modChan {f : Channel → Channel} (h : (f (s.chan c)).host.mbx = (s.chan c).host.mbx) :
    (s.modChan c f).mbx c = s.mbx c := by rw [State.mbx, State.chan_modChan_same, h, State.mbx]

theorem mbx_raiseVector (v : Nat) : (s.raiseVector c v).mbx c = s.mbx c := by
  unfold State.raiseVector
  split
  · rfl
  · split
    · exact mbx_modChan rfl
    · rfl

theorem mbx_raiseIrq (b : Fin 7) : (s.raiseIrq c b).mbx c = s.mbx c := by
  unfold State.raiseIrq
  dsimp only
  split
  · rfl
  · split
    · exact (mbx_raiseVector _).trans (mbx_modChan rfl)
    · exact mbx_modChan rfl

theorem mbx_modMbx (f : Mailbox → Mailbox) : (s.modMbx c f).mbx c = f (s.mbx c) := by
  simp [State.modMbx, State.mbx]

theorem mbx_finishMbx (code : AbortCode) : (s.finishMbx c code).mbx c =
    { s.mbx c with busy := false, done := code == 0, err := code != 0, abort := code, op := none } := by
  rw [State.finishMbx, mbx_raiseIrq, mbx_modMbx]

theorem mbx_busyError : (s.busyError c).mbx c = s.mbx c := mbx_modChan rfl

theorem writeMbxCtrl_busy (v : Nat) (busy : (s.mbx c).busy = true) : s.writeMbxCtrl c v = s.busyError c := if_pos busy

/-! ## MBX_CTRL (R292, R293) -/

section
variable (up : s.hostUp c = true)
include up

/-- GO takes effect where the operation in MBX_INDEX is the row's. -/
theorem mbxGo_next {ctrl : BitVec 32} {here : Mailbox → Bool} (go : ctrl.getLsbD 0 = true)
    (fits : here (s.mbx c) = true) :
    s.mbxGo c ctrl here = .next ((s.access .bar0 c 0x1004).writeMbxCtrl c ctrl.toNat) := by
  rw [State.mbxGo, whenHost_hostUp _ up, go, fits]
  rfl

theorem exec_mbxRead {ctrl : BitVec 32} (go : ctrl.getLsbD 0 = true) (read : (s.mbx c).opCode = 1)
    (fits : (s.mbx c).fits = true) :
    exec (.mbxRead c ctrl) s = .next ((s.access .bar0 c 0x1004).writeMbxCtrl c ctrl.toNat) := by
  change execMbxRead c ctrl s = _
  exact mbxGo_next up go (by simp [read, fits])

theorem exec_mbxWrite {ctrl : BitVec 32} (go : ctrl.getLsbD 0 = true) (write : (s.mbx c).opCode = 2)
    (fits : (s.mbx c).fits = true) :
    exec (.mbxWrite c ctrl) s = .next ((s.access .bar0 c 0x1004).writeMbxCtrl c ctrl.toNat) := by
  change execMbxWrite c ctrl s = _
  exact mbxGo_next up go (by simp [write, fits])

theorem exec_mbxInvalidOp {ctrl : BitVec 32} (go : ctrl.getLsbD 0 = true)
    (invalid : ((s.mbx c).opCode ≠ 1 ∧ (s.mbx c).opCode ≠ 2) ∨ (s.mbx c).fits = false) :
    exec (.mbxInvalidOp c ctrl) s = .next ((s.access .bar0 c 0x1004).writeMbxCtrl c ctrl.toNat) := by
  change execMbxInvalidOp c ctrl s = _
  exact mbxGo_next up go (by simpa using invalid)

theorem exec_mbxCancel : exec (.mbxCancel c) s =
    .next ((s.access .bar0 c 0x1004).writeMbxCtrl c (if (s.mbx c).last then 6 else 4)) := by
  change execMbxCancel c s = _
  exact whenHost_hostUp _ up

theorem exec_mbxOperationEnd {write : Bool} {code : AbortCode} (answered : (s.mbx c).op = some (write, some code)) :
    exec (.mbxOperationEnd c) s = .next (s.finishMbx c code) := by
  change execMbxOperationEnd c s = _
  rw [execMbxOperationEnd, whenHost_hostUp _ up, answered]

/-! ## The mirrors (R296) -/

theorem exec_mirRead (i : Slot) : exec (.mirRead c i) s = .next (s.startMirror c i) := by
  change execMirRead c i s = _
  exact whenHost_hostUp _ up

theorem exec_mirOperationEnd {i : Slot} {code : AbortCode} (busy : (s.mirror c i).busy = true)
    (answered : (s.mirror c i).answer = some code) :
    exec (.mirOperationEnd c i) s = .next (s.finishMirror c i code) := by
  change execMirOperationEnd c i s = _
  simp [execMirOperationEnd, whenHost_hostUp _ up, busy, answered]

end

/-! ## The timeouts (R293, R308) -/

section
variable (up : s.chanUp c = true)
include up

theorem exec_mbxSegmentTimeout {x : Pend} (held : (s.mbx c).pend = some x) (due : x.deadline ≤ s.tclk) :
    exec (.mbxSegmentTimeout c) s = .next (s.modMbx c fun m => { m with pend := none }) := by
  change execMbxSegmentTimeout c s = _
  rw [execMbxSegmentTimeout, whenChan_chanUp _ up, held]
  exact if_pos due

theorem exec_mbxTimeout {write : Bool} (silent : (s.mbx c).op = some (write, none))
    (due : (s.mbx c).since + tclkOfS 1 ≤ s.tclk) : exec (.mbxTimeout c) s =
    .next ((s.modMbx c fun m => { m with pend := none }).finishMbx c abortNotReady) := by
  change execMbxTimeout c s = _
  rw [execMbxTimeout, whenChan_chanUp _ up, silent]
  exact if_pos due

end

end

/-- Settles O39: each command by its own lemma; DONE and ERR from the mailbox that an operation's end leaves. -/
theorem mailboxCommandsComplete : Obligations.MailboxCommandsComplete := by
  refine ⟨fun s c => ⟨?go, exec_mbxCancel, fun write code up => exec_mbxOperationEnd up,
    fun x up => exec_mbxSegmentTimeout up, fun write up => exec_mbxTimeout up, fun i up => exec_mirRead up i,
    fun i code up => exec_mirOperationEnd up⟩, ?ends,
    fun s c v busy => ⟨writeMbxCtrl_busy v busy, mbx_busyError⟩⟩
  case go =>
    intro ctrl up go
    exact ⟨exec_mbxRead up go, exec_mbxWrite up go,
      fun notRead notWrite => exec_mbxInvalidOp up go (.inl ⟨notRead, notWrite⟩),
      fun long => exec_mbxInvalidOp up go (.inr long)⟩
  case ends =>
    intro s c code
    rw [mbx_finishMbx]
    exact ⟨rfl, rfl, beq_iff_eq, bne_iff_ne⟩

end Sys2Proof.Laws
end

section
/-! SUPPORT. What reads back of a member of the module after a write, a count or a flag, and the state of the node. -/

namespace Sys2Proof.Laws

open Sys2Proof Sys2Proof.Machine

section
variable {s : State} {i j i' j' : Nat}

@[simp] theorem mnat_mput_same (n : Nat) : (s.mput i j (w n)).mnat i j = n % 2 ^ 64 := by
  rw [State.mnat, State.mget_mput_same, w, BitVec.toNat_ofNat]

theorem mnat_mput_other (v : Word) (h : dkey i' j' ≠ dkey i j) : (s.mput i j v).mnat i' j' = s.mnat i' j' :=
  congrArg BitVec.toNat (s.mget_mput_other v h)

theorem mget_mcount_other (n : Nat) (h : dkey i' j' ≠ dkey i j) : (s.mcount i j n).mget i' j' = s.mget i' j' :=
  s.mget_mput_other _ h

/-- A count below its last value moves on without wrapping (R381). -/
theorem mnat_mcount_same {n : Nat} (h : s.mnat i j + n < 2 ^ 32) : (s.mcount i j n).mnat i j = s.mnat i j + n := by
  rw [State.mcount, mnat_mput_same]
  omega

theorem mnat_mcount_other (n : Nat) (h : dkey i' j' ≠ dkey i j) : (s.mcount i j n).mnat i' j' = s.mnat i' j' :=
  mnat_mput_other _ h

/-! ## Sticky bits and the state of the node (R316, R318) -/

theorem mget_plcaFlag_other (b : Word) (h : dkey i' j' ≠ dkey 0x1101 8) : (s.plcaFlag b).mget i' j' = s.mget i' j' :=
  s.mget_mput_other _ h

theorem mnat_plcaFlag_other (b : Word) (h : dkey i' j' ≠ dkey 0x1101 8) : (s.plcaFlag b).mnat i' j' = s.mnat i' j' :=
  mnat_mput_other _ h

@[simp] theorem bitOf_plcaFlag (b : Word) (n : Nat) :
    bitOf ((s.plcaFlag b).mget 0x1101 8) n = (bitOf (s.mget 0x1101 8) n || bitOf b n) := by
  rw [State.plcaFlag, State.morBits, State.mget_mput_same]
  exact BitVec.getLsbD_or

theorem mget_setPlca_other (n : Nat) (h : dkey i' j' ≠ dkey 0x1101 1) : (s.setPlca n).mget i' j' = s.mget i' j' :=
  s.mget_mput_other _ h

theorem mnat_setPlca_other (n : Nat) (h : dkey i' j' ≠ dkey 0x1101 1) : (s.setPlca n).mnat i' j' = s.mnat i' j' :=
  mnat_mput_other _ h

@[simp] theorem plcaState_setPlca (n : Nat) : (s.setPlca n).plcaState = n % 2 ^ 64 := mnat_mput_same n

theorem plcaState_mcount (n : Nat) (h : dkey 0x1101 1 ≠ dkey i j) : (s.mcount i j n).plcaState = s.plcaState :=
  mnat_mcount_other n h

theorem mayTransmit_of_active (active : s.plcaState = plcaActive) : s.mayTransmit = true := by
  rw [State.mayTransmit, active]
  rfl

end

end Sys2Proof.Laws
end

section
/-! PLCA's commands (O40), and an edge yield (O41): R310 to R319. -/

namespace Sys2Proof.Laws

open Sys2Proof Sys2Proof.Machine

section
variable {s : State}

/-! ## LISTEN_ONLY (R312, R318) -/

@[simp] theorem plcaState_enterListenOnly (cause : Nat) : (s.enterListenOnly cause).plcaState = plcaListen :=
  plcaState_setPlca _

theorem enterListenOnly_cause (cause : Nat) : (s.enterListenOnly cause).mget 0x1101 9 = w cause := by
  unfold State.enterListenOnly
  dsimp only
  rw [mget_setPlca_other _ (by decide)]
  split
  · rw [mget_plcaFlag_other _ (by decide), State.mget_mput_other _ _ (by decide), State.mget_mput_same]
  · rw [State.mget_mput_other _ _ (by decide), State.mget_mput_same]

/-! ## Commands of the node (R311 to R313) -/

theorem exec_nodeIdWrite (p : Path) (v : Byte) (s : State) :
    exec (.nodeIdWrite p v) s = s.writeRow p 0x1100 1 [v] (nodeIdCommit v.toNat) := rfl

theorem exec_coordinatorListenEnd_heard {t : Nat} (up : s.reeveUp = true) (ends : s.plca.listenEnd = some t)
    (start : s.plcaState = plcaStart) (due : t ≤ s.tclk) (heard : s.plca.heard = true) :
    exec .coordinatorListenEnd s = .next
      (({ s with plca := { s.plca with listenEnd := none } } : State).enterListenOnly 3) := by
  change execCoordinatorListenEnd s = _
  rw [execCoordinatorListenEnd, whenReeve_reeveUp _ up, ends]
  exact (if_pos ⟨start, due⟩).trans (if_pos heard)

theorem exec_beaconSend (up : s.reeveUp = true) (coordinator : s.plcaState = plcaCoordinator)
    (cycleOver : s.plca.nodeCount ≤ s.plca.k) (ended : s.plca.prevEnd ≤ s.tclk) :
    ∃ t : State, exec .beaconSend s = .next t ∧ t.out = s.out ++ [.beacon] ∧ t.plca.k = 0 ∧
      t.plca.prevEnd = s.tclk + 20 * bitTime := by
  change ∃ t, execBeaconSend s = _ ∧ _
  exact ⟨_, (whenReeve_reeveUp _ up).trans (if_pos ⟨coordinator, cycleOver, ended⟩), rfl, rfl, rfl⟩

/-- A node that waits joins with the first beacon (R313). -/
theorem exec_beaconReceived_waiting {f : BeaconFacts} (up : s.reeveUp = true) (waiting : s.plcaState = plcaWaiting) :
    exec (.beaconReceived f) s = .next
      (((s.mcount 0x1101 0x0A 1).newCycle f.nodeCount s.tclk).setPlca plcaActive) := by
  have kept := (plcaState_mcount 1 (by decide : dkey 0x1101 1 ≠ dkey 0x1101 0x0A)).trans waiting
  change execBeaconReceived f s = _
  rw [execBeaconReceived, whenReeve_reeveUp _ up]
  exact (if_neg (by rw [kept]; decide)).trans ((if_neg (by rw [kept]; decide)).trans
    ((if_neg (by rw [kept]; decide)).trans (if_pos kept)))

/-- A second coordinator leaves the first one the segment (R312). -/
theorem exec_beaconReceived_coordinator {f : BeaconFacts} (up : s.reeveUp = true)
    (coordinator : s.plcaState = plcaCoordinator) :
    exec (.beaconReceived f) s = .next ((s.mcount 0x1101 0x0A 1).enterListenOnly 3) := by
  have kept := (plcaState_mcount 1 (by decide : dkey 0x1101 1 ≠ dkey 0x1101 0x0A)).trans coordinator
  change execBeaconReceived f s = _
  rw [execBeaconReceived, whenReeve_reeveUp _ up]
  exact (if_neg (by rw [kept]; decide)).trans ((if_neg (by rw [kept]; decide)).trans (if_pos kept))

theorem exec_beaconTimeout (up : s.reeveUp = true) (active : s.plcaState = plcaActive)
    (due : s.plca.lastBeacon + tclkOfMs 10 ≤ s.tclk) :
    exec .beaconTimeout s = .next ((({ s with plca := { s.plca with
      lastBeacon := s.tclk, ownOpen := none } } : State).plcaFlag noBeaconBit).setPlca plcaWaiting) := by
  have follows : 1 ≤ s.plcaState ∧ s.plcaState ≤ 4 := by rw [active]; decide
  have hears : ¬(s.plcaState = plcaListen ∧ s.mnat 0x1101 9 = 3) :=
    fun other => absurd (active.symm.trans other.1) (by decide)
  change execBeaconTimeout s = _
  rw [execBeaconTimeout, whenReeve_reeveUp _ up]
  exact if_pos ⟨follows.1, follows.2, hears, due⟩

/-! ## Opportunities (R314 to R316) -/

/-- The opportunity that is due in a cycle not yet over, its receive error taken up. -/
def inOpp (s : State) (f : OppFacts) : State :=
  { s with plca := { s.plca with ownOpen := none, rxError := s.plca.rxError || f.rxError } }

section
variable {f : OppFacts} (up : s.reeveUp = true) (active : s.plcaState = plcaActive) (due : s.oppStart ≤ s.tclk)
  (inCycle : s.plca.seen = 0)
include up active due inCycle

theorem exec_opportunityStart_other (other : s.plca.k ≠ s.mnat 0x1100 1) (clear : f.carrierAtStart = false) :
    exec (.opportunityStart f) s = .next ((inOpp s f).otherOpp s.oppStart f) := by
  change execOpportunityStart f s = _
  rw [execOpportunityStart, whenReeve_reeveUp _ up]
  simp [mayTransmit_of_active active, Nat.not_lt.2 due, inCycle, other, clear, inOpp]

theorem exec_opportunityStart_yield (own : s.plca.k = s.mnat 0x1100 1) (carrier : f.carrierAtStart = true) :
    exec (.opportunityStart f) s = .next (({ inOpp s f with plca := { (inOpp s f).plca with
      prevEnd := s.oppStart + (f.usedBits.getD 0) * bitTime } } : State).edgeYield) := by
  change execOpportunityStart f s = _
  rw [execOpportunityStart, whenReeve_reeveUp _ up]
  simp [mayTransmit_of_active active, Nat.not_lt.2 due, inCycle, own, carrier, inOpp]

end

/-! ## Missed releases (R322) -/

@[simp] theorem missReleased_plca : s.missReleased.plca = s.plca := by
  unfold State.missReleased
  dsimp only
  split <;> rfl

@[simp] theorem missReleased_out : s.missReleased.out = s.out := by
  unfold State.missReleased
  dsimp only
  split <;> rfl

theorem mget_missReleased {i j : Nat} (count : dkey i j ≠ dkey 0x1101 7) (flag : dkey i j ≠ dkey 0x1101 8) :
    s.missReleased.mget i j = s.mget i j := by
  unfold State.missReleased
  dsimp only
  split
  · rfl
  · rw [mget_plcaFlag_other _ flag, mget_mcount_other _ count]
    rfl

/-- Sticky bits stay set where released frames have missed. -/
theorem bitOf_missReleased {n : Nat} (set : bitOf (s.mget 0x1101 8) n = true) :
    bitOf (s.missReleased.mget 0x1101 8) n = true := by
  unfold State.missReleased
  dsimp only
  split
  · exact set
  · rw [bitOf_plcaFlag, mget_mcount_other _ (by decide)]
    exact Bool.or_eq_true_iff.2 (.inl set)

/-! ## The edge yield (R316, R318) -/

/-- The run of yields that this one is part of. -/
def yieldRun (s : State) : Nat := min 255 ((s.mcount 0x1101 3 1).mnat 0x1101 4 + 1)

/-- The yield itself, before what its run leads to. -/
def yielded (s : State) : State :=
  let t := ((s.mcount 0x1101 3 1).mput 0x1101 4 (w (yieldRun s))).plcaFlag edgeYieldBit
  ({ t with plca := { t.plca with yielded := true, ownClean := false, ownOpen := none } } : State).missReleased

theorem yieldRun_low (low : s.mnat 0x1101 4 < 15) : yieldRun s = s.mnat 0x1101 4 + 1 := by
  rw [yieldRun, mnat_mcount_other _ (by decide)]
  omega

/-- A member that a yield leaves: it counts itself, its run and the frames missed, and sets sticky bits. -/
theorem mnat_yielded {i j : Nat} (count : dkey i j ≠ dkey 0x1101 3) (run : dkey i j ≠ dkey 0x1101 4)
    (missed : dkey i j ≠ dkey 0x1101 7) (flag : dkey i j ≠ dkey 0x1101 8) : (yielded s).mnat i j = s.mnat i j := by
  rw [yielded, State.mnat, mget_missReleased missed flag]
  exact (mnat_plcaFlag_other _ flag).trans ((mnat_mput_other _ run).trans (mnat_mcount_other 1 count))

theorem yielded_count (low : s.mnat 0x1101 3 < 2 ^ 32 - 1) : (yielded s).mnat 0x1101 3 = s.mnat 0x1101 3 + 1 := by
  rw [yielded, State.mnat, mget_missReleased (by decide) (by decide)]
  refine (mnat_plcaFlag_other _ (by decide)).trans ((mnat_mput_other _ (by decide)).trans (mnat_mcount_same ?_))
  omega

theorem yielded_run (low : s.mnat 0x1101 4 < 15) : (yielded s).mnat 0x1101 4 = s.mnat 0x1101 4 + 1 := by
  rw [yielded, State.mnat, mget_missReleased (by decide) (by decide), yieldRun_low low]
  refine (mnat_plcaFlag_other _ (by decide)).trans ((mnat_mput_same _).trans (Nat.mod_eq_of_lt ?_))
  omega

theorem yielded_flag : bitOf ((yielded s).mget 0x1101 8) 0 = true :=
  bitOf_missReleased ((bitOf_plcaFlag ..).trans (Bool.or_eq_true_iff.2 (.inr (by decide))))

theorem yielded_k : (yielded s).plca.k = s.plca.k := (congrArg Plca.k missReleased_plca).trans rfl

theorem yielded_yielded : (yielded s).plca.yielded = true := congrArg Plca.yielded missReleased_plca

theorem yielded_out : (yielded s).out = s.out := missReleased_out

/-- What the run of yields leads to (R318). -/
theorem edgeYield_eq : s.edgeYield =
    if ((yielded s).plcaState = plcaActive ∨ (yielded s).plcaState = plcaWarning) ∧ 16 ≤ yieldRun s then
      (yielded s).enterListenOnly 2
    else if (yielded s).plcaState = plcaActive ∧ 3 ≤ yieldRun s then
      ((yielded s).plcaFlag driftWarnBit).setPlca plcaWarning
    else if (yielded s).plcaState = plcaCoordinator ∧ 3 ≤ yieldRun s then (yielded s).plcaFlag driftWarnBit
    else yielded s := rfl

/-- An active node whose run stays below 16 yields, and from the third yield on it warns. -/
theorem edgeYield_active (active : s.plcaState = plcaActive) (low : s.mnat 0x1101 4 < 15) :
    s.edgeYield = if 3 ≤ yieldRun s then ((yielded s).plcaFlag driftWarnBit).setPlca plcaWarning else yielded s := by
  have state : (yielded s).plcaState = plcaActive :=
    (mnat_yielded (by decide) (by decide) (by decide) (by decide)).trans active
  have below : ¬16 ≤ yieldRun s := by rw [yieldRun_low low]; omega
  rw [edgeYield_eq, if_neg fun long => below long.2]
  by_cases warns : 3 ≤ yieldRun s
  · rw [if_pos ⟨state, warns⟩, if_pos warns]
  · rw [if_neg fun h => warns h.2, if_neg fun h => warns h.2, if_neg warns]

/-- What holds of the yield's count, run and bit holds after the warning too. -/
theorem edgeYield_effect (active : s.plcaState = plcaActive) (count : s.mnat 0x1101 3 < 2 ^ 32 - 1)
    (run : s.mnat 0x1101 4 < 15) :
    s.edgeYield.mnat 0x1101 3 = s.mnat 0x1101 3 + 1 ∧ s.edgeYield.mnat 0x1101 4 = s.mnat 0x1101 4 + 1 ∧
      bitOf (s.edgeYield.mget 0x1101 8) 0 = true ∧ s.edgeYield.plca.k = s.plca.k ∧ s.edgeYield.plca.yielded = true ∧
      s.edgeYield.out = s.out := by
  rw [edgeYield_active active run]
  split
  · have flag : bitOf ((((yielded s).plcaFlag driftWarnBit).setPlca plcaWarning).mget 0x1101 8) 0 = true := by
      rw [mget_setPlca_other _ (by decide), bitOf_plcaFlag, yielded_flag]
      rfl
    refine ⟨?_, ?_, flag, yielded_k, yielded_yielded, yielded_out⟩
    · rw [mnat_setPlca_other _ (by decide), mnat_plcaFlag_other _ (by decide), yielded_count count]
    · rw [mnat_setPlca_other _ (by decide), mnat_plcaFlag_other _ (by decide), yielded_run run]
  · exact ⟨yielded_count count, yielded_run run, yielded_flag, yielded_k, yielded_yielded, yielded_out⟩

end

/-- Settles O40: each command by its own lemma. -/
theorem plcaCommandsComplete : Obligations.PlcaCommandsComplete := by
  refine fun s => ⟨?nodeId, fun up => ⟨?listenEnd, exec_beaconSend up, ?joins, ?yields, ?timeout, ?opportunity⟩⟩
  case nodeId => exact fun p v pl m h => (exec_nodeIdWrite ..).trans (writeRow_commitOk _ h)
  case listenEnd => exact fun t ends start due heard => exec_coordinatorListenEnd_heard up ends start due heard
  case joins => exact fun f waiting => ⟨_, exec_beaconReceived_waiting up waiting, plcaState_setPlca _, rfl, rfl⟩
  case yields =>
    exact fun f coordinator => ⟨_, exec_beaconReceived_coordinator up coordinator, plcaState_enterListenOnly 3,
      enterListenOnly_cause 3⟩
  case timeout =>
    intro active due
    refine ⟨_, exec_beaconTimeout up active due, plcaState_setPlca _, ?_⟩
    rw [mget_setPlca_other _ (by decide), bitOf_plcaFlag]
    exact Bool.or_eq_true_iff.2 (.inr (by decide))
  case opportunity =>
    intro f active due inCycle other clear silent
    refine ⟨_, exec_opportunityStart_other up active due inCycle other clear, ?_⟩
    rw [State.otherOpp, silent]
    exact ⟨rfl, rfl, rfl⟩

/-- Settles O41: the yield's own effect, on the state that the opportunity's start leaves. -/
theorem edgeYieldIsCounted : Obligations.EdgeYieldIsCounted := by
  intro s f up active due inCycle own carrier count run
  exact ⟨_, exec_opportunityStart_yield up active due inCycle own carrier, edgeYield_effect active count run⟩

end Sys2Proof.Laws
end

section
/-! Time-launched frames (O42, R322 to R324), and frames received (O43, O44: R309, R326, R337, R338, R347). -/

namespace Sys2Proof.Laws

open Sys2Proof Sys2Proof.Machine

section
variable {s : State}

/-! ## The queue's commands (R323) -/

theorem exec_tlFrameQueue (p : Path) (s : State) :
    exec (.tlFrameQueue p) s = s.writeRow p 0x1040 3 [1] tlQueueCommit := rfl

theorem exec_tlFrameDiscardAll (p : Path) (s : State) :
    exec (.tlFrameDiscardAll p) s = s.writeRow p 0x1040 3 [2] tlDiscardCommit := rfl

theorem tlQueueCommit_nothing (nothing : s.reeve.tlHeld = []) : tlQueueCommit s = (abortConflict, s) := if_pos nothing

section
variable (held : s.reeve.tlHeld ≠ []) (noPtp : beField s.reeve.tlHeld 6 2 ≠ 0x88F7)
  (noTlx : beField s.reeve.tlHeld 6 2 ≠ s.mnat 0x1010 2)
include held noPtp noTlx

theorem tlQueueCommit_full (full : 8 ≤ s.tlEntries) : tlQueueCommit s = (abortExhausted, s) := by
  simp [tlQueueCommit, held, noPtp, noTlx, full]

theorem tlQueueCommit_queues (room : s.tlEntries < 8) : tlQueueCommit s = (0, { s with
    tlq := s.tlq ++ [{ launch := s.mget 0x1040 1, bytes := s.reeve.tlHeld, released := none, late := false, sync := none }]
    reeve := { s.reeve with tlHeld := [] } }) := by
  simp [tlQueueCommit, held, noPtp, noTlx, Nat.not_le.2 room]

end

/-! ## Release and timeout (R49, R322) -/

/-- Outside an open opportunity of its own the node sends nothing by itself (R314). -/
theorem sendLate_closed (closed : s.plca.ownOpen = none) : s.sendLate = s := by
  rw [State.sendLate, closed]

theorem exec_tlFrameRelease (up : s.reeveUp = true) (closed : s.plca.ownOpen = none)
    (due : (s.tlq.any fun f => f.released.isNone && decide (f.launch.toNat ≤ s.now.toNat)) = true) :
    exec .tlFrameRelease s = .next { s with
      tlq := s.tlq.map fun f =>
        if f.released.isNone && decide (f.launch.toNat ≤ s.now.toNat) then { f with released := some s.tclk } else f } := by
  change execTlFrameRelease s = _
  rw [execTlFrameRelease, whenReeve_reeveUp _ up]
  exact (if_pos due).trans (congrArg _ (sendLate_closed closed))

/-- Released 1 s ago or earlier, and still in the queue. -/
def overdue (s : State) (f : TlFrame) : Bool :=
  match f.released with
  | some t => decide (t + tclkOfS 1 ≤ s.tclk)
  | none => false

theorem exec_tlFrameTimeout {f : TlFrame} (up : s.reeveUp = true) (queued : f ∈ s.tlq) (late : overdue s f = true) :
    exec .tlFrameTimeout s = .next ((({ s with tlq := s.tlq.filter fun f => !overdue s f } : State).mcount 0x1040 6
      ((s.tlq.filter (overdue s)).filter fun f => f.sync.isNone).length).plcaFlag txDiscardedBit) := by
  have gone : (s.tlq.filter (overdue s)).isEmpty = false :=
    List.isEmpty_eq_false_iff_exists_mem.2 ⟨f, List.mem_filter.2 ⟨queued, late⟩⟩
  change execTlFrameTimeout s = _
  rw [execTlFrameTimeout, whenReeve_reeveUp _ up]
  exact if_neg (Bool.not_eq_true _ ▸ gone)

/-! ## Frames received (R309) -/

section
variable {b : Frame} (up : s.reeveUp = true)
include up

theorem exec_fieldFrameReceived_damaged (damaged : parseFrame b = none) :
    exec (.fieldFrameReceived b) s = .next s.discardFrame := by
  change execFieldFrameReceived b s = _
  rw [execFieldFrameReceived, whenReeve_reeveUp _ up, damaged]

theorem exec_fieldFrameReceived_good {f : MacFrame} (good : parseFrame b = some f) :
    exec (.fieldFrameReceived b) s = if s.forModule f.dst then s.acceptFrame f else .next s := by
  change execFieldFrameReceived b s = _
  rw [execFieldFrameReceived, whenReeve_reeveUp _ up, good]

end

theorem acceptFrame_other {f : MacFrame} (noPtp : f.ethertype ≠ 0x88F7)
    (noTlx : f.ethertype ≠ (s.mcount 0x1010 3 1).mnat 0x1010 2) :
    s.acceptFrame f = .next (s.mcount 0x1010 3 1).discardFrame := by
  simp [State.acceptFrame, noPtp, noTlx]

theorem acceptFrame_tlx {f : MacFrame} (noPtp : f.ethertype ≠ 0x88F7)
    (tlx : f.ethertype = (s.mcount 0x1010 3 1).mnat 0x1010 2) : s.acceptFrame f = .next
      (((s.mcount 0x1010 3 1).runPdu (.network f.src) f.payload true).getD (s.mcount 0x1010 3 1).discardFrame) :=
  (if_neg noPtp).trans (if_pos tlx)

/-! ## IDENTIFY (R337, R338, R347) -/

theorem exec_tlxIdentify {src : TlxSrc} {tid : BitVec 16} (served : s.tlxFrom src = true) :
    exec (.tlxIdentify src tid) s = .next
      (s.sendTlx src .identify none (tlxPdu kindResponse svcIdentify 0 tid 0 s.identifyBody)) :=
  congrArg _ (if_pos served)

theorem length_padTo (b : Bytes) (n : Nat) : (padTo b n).length = max b.length n := by
  rw [padTo, zeros, List.length_append, List.length_replicate]
  omega

theorem length_take_padTo (b : Bytes) (n : Nat) : ((padTo b n).take n).length = n := by
  rw [List.length_take, length_padTo]
  omega

theorem length_identifyBody : s.identifyBody.length = 40 := by
  simp only [State.identifyBody, State.macBytes, List.length_append, List.length_cons, List.length_nil, length_beBytes,
    length_take_padTo, zeros, List.length_replicate]

/-- In LISTEN_ONLY only a notification is kept for the segment (R319, R347). -/
theorem enqueueTx_listen {f : TxFrame} (listen : s.plcaState = plcaListen) (cls : f.cls ≠ .tlxEvent) :
    s.enqueueTx f = s := by
  have assigned : s.plcaState ≠ plcaUnassigned := by rw [listen]; decide
  rw [State.enqueueTx, if_neg assigned, if_pos ⟨listen, cls⟩]

end

/-- Settles O42: each write by the answer of its commit, each event by its own lemma. -/
theorem timeLaunchedFramesComplete : Obligations.TimeLaunchedFramesComplete := by
  refine fun s => ⟨fun p pl m h => ⟨?nothing, ?full, ?queues⟩, ?discards, exec_tlFrameRelease, ?timeout⟩
  case nothing =>
    exact fun nothing => (exec_tlFrameQueue ..).trans (writeRow_aborts h (tlQueueCommit_nothing nothing) (by decide))
  case full =>
    exact fun held noPtp noTlx full =>
      (exec_tlFrameQueue ..).trans (writeRow_aborts h (tlQueueCommit_full held noPtp noTlx full) (by decide))
  case queues =>
    exact fun held noPtp noTlx room =>
      (exec_tlFrameQueue ..).trans (writeRow_commits h (tlQueueCommit_queues held noPtp noTlx room))
  case discards => exact fun p pl m h => (exec_tlFrameDiscardAll ..).trans (writeRow_commits h rfl)
  case timeout =>
    intro up f queued t0 released due
    have late : overdue s f = true := by rw [overdue, released]; exact decide_eq_true due
    refine ⟨_, exec_tlFrameTimeout up queued late, fun still => ?_, ?_⟩
    · simpa [late] using (List.mem_filter.1 still).2
    · exact (bitOf_plcaFlag ..).trans (Bool.or_eq_true_iff.2 (.inr (by decide)))

/-- Settles O43: a frame by what parses and by its Ethertype; the body's length field by field. -/
theorem fieldFramesAreFiltered : Obligations.FieldFramesAreFiltered := by
  refine ⟨fun s b up => ⟨exec_fieldFrameReceived_damaged up, ?elsewhere, ?other, ?tlx⟩,
    fun s src tid served => ⟨exec_tlxIdentify served, fun _ => length_identifyBody⟩⟩
  case elsewhere => exact fun f good dst => (exec_fieldFrameReceived_good up good).trans (if_neg (by simp [dst]))
  case other =>
    exact fun f good dst noPtp noTlx =>
      (exec_fieldFrameReceived_good up good).trans ((if_pos dst).trans (acceptFrame_other noPtp noTlx))
  case tlx =>
    exact fun f good dst noPtp tlx =>
      (exec_fieldFrameReceived_good up good).trans ((if_pos dst).trans (acceptFrame_tlx noPtp tlx))

/-- Settles O44: whether or not the Reeve serves, the answer is not queued. -/
theorem identifyInListenOnlyGetsNoAnswer : Obligations.IdentifyInListenOnlyGetsNoAnswer := by
  intro s mac tid listen
  have dropped : ∀ pdu, s.sendTlx (.network mac) .identify none pdu = s := fun pdu => enqueueTx_listen listen nofun
  change Host.Outcome.next (s.serveIdentify (.network mac) tid) = _
  rw [State.serveIdentify, dropped, ite_self]

end Sys2Proof.Laws
end

section
/-! Session IDs (O46, R330): the search from the next ID passes IDs in use, and 0; 64 steps are more than 32 IDs in use
can fill. -/

namespace Sys2Proof.Laws

open Sys2Proof Sys2Proof.Machine

section
variable {used : List (BitVec 16)} {v : BitVec 16} {d n : Nat}

/-- The d IDs from v on are 0 or in use. -/
def passes (used : List (BitVec 16)) (v : BitVec 16) (d : Nat) : Prop :=
  ∀ i < d, v + BitVec.ofNat 16 i = 0 ∨ v + BitVec.ofNat 16 i ∈ used

theorem add_one_add_ofNat (v : BitVec 16) (i : Nat) : v + 1 + BitVec.ofNat 16 i = v + BitVec.ofNat 16 (i + 1) := by
  rw [BitVec.add_assoc, BitVec.ofNat_add, BitVec.add_comm 1]
  rfl

theorem passes_succ (here : v = 0 ∨ v ∈ used) (rest : passes used (v + 1) d) : passes used v (d + 1) := by
  intro i hi
  cases i with
  | zero => simpa using here
  | succ i =>
    rw [← add_one_add_ofNat]
    exact rest i (by omega)

/-- Distinct elements of a list are no more than its length. -/
theorem length_le_of_nodup_of_subset {l m : List (BitVec 16)} (distinct : l.Nodup) (sub : ∀ x ∈ l, x ∈ m) :
    l.length ≤ m.length := by
  induction l generalizing m with
  | nil => exact Nat.zero_le _
  | cons x l ih =>
    obtain ⟨fresh, distinct⟩ := List.nodup_cons.1 distinct
    have inM : x ∈ m := sub x List.mem_cons_self
    have rest : l.length ≤ (m.erase x).length := ih distinct fun y hy =>
      (List.mem_erase_of_ne (ne_of_mem_of_not_mem hy fresh)).2 (sub y (List.mem_cons_of_mem x hy))
    rw [List.length_erase_of_mem inM] at rest
    have pos : 0 < m.length := List.length_pos_of_mem inM
    rw [List.length_cons]
    omega

/-- The d IDs from v on are distinct. -/
theorem nodup_ids (v : BitVec 16) (small : d ≤ 2 ^ 16) :
    ((List.range d).map fun i => v + BitVec.ofNat 16 i).Nodup := by
  refine List.pairwise_map.2 (List.nodup_range.imp_of_mem fun {i j} hi hj differ same => differ ?_)
  rw [List.mem_range] at hi hj
  have := congrArg BitVec.toNat ((BitVec.add_right_inj v).1 same)
  rw [BitVec.toNat_ofNat, BitVec.toNat_ofNat] at this
  omega

/-- At most as many IDs are passed as are in use, and 0. -/
theorem le_of_passes (h : passes used v d) (small : d ≤ 2 ^ 16) : d ≤ used.length + 1 := by
  have sub : ∀ x ∈ (List.range d).map (fun i => v + BitVec.ofNat 16 i), x ∈ 0 :: used := by
    intro x hx
    obtain ⟨i, hi, rfl⟩ := List.mem_map.1 hx
    exact List.mem_cons.2 (h i (List.mem_range.1 hi))
  have le := length_le_of_nodup_of_subset (nodup_ids v small) sub
  rwa [List.length_map, List.length_range, List.length_cons] at le

theorem sidFrom_zero (used : List (BitVec 16)) (n : Nat) : sidFrom used 0 n = sidFrom used 1 n := by
  cases n <;> rfl

theorem sidFrom_used (nonzero : v ≠ 0#16) (inUse : v ∈ used) : sidFrom used v (n + 1) = sidFrom used (v + 1) n := by
  simp [sidFrom, nonzero, inUse]

theorem sidFrom_unused (nonzero : v ≠ 0#16) (unused : v ∉ used) : sidFrom used v n = v := by
  cases n <;> simp [sidFrom, nonzero, unused]

/-- Where the search looks first: the ID itself, or 1 for 0. -/
theorem first_ne_zero (v : BitVec 16) : (if v = 0 then 1 else v) ≠ 0 := by
  split
  · decide
  · assumption

theorem sidFrom_ne_zero (used : List (BitVec 16)) (v : BitVec 16) (n : Nat) : sidFrom used v n ≠ 0 := by
  induction n generalizing v with
  | zero => exact first_ne_zero v
  | succ n ih =>
    have first := first_ne_zero v
    unfold sidFrom
    dsimp only
    generalize (if v = 0 then 1 else v) = x at first ⊢
    split
    · exact ih _
    · exact first

/-- The search stops at v + d: it passes only IDs in use and 0, and each of its n steps passes an ID or ends it. -/
structure Stops (used : List (BitVec 16)) (v : BitVec 16) (n d : Nat) : Prop where
  stop : sidFrom used v n = v + BitVec.ofNat 16 d
  passed : passes used v d
  bound : d ≤ 2 * n + 1
  steps : sidFrom used v n ∈ used → n ≤ d

theorem stops_zero {d : Nat} (h : Stops used 1 n d) (bound : d ≤ 2 * n) : Stops used 0 n (d + 1) where
  stop := by rw [sidFrom_zero, h.stop, ← add_one_add_ofNat]; rfl
  passed := passes_succ (.inl rfl) h.passed
  bound := by omega
  steps := fun inUse => Nat.le_succ_of_le (h.steps (sidFrom_zero used n ▸ inUse))

/-- From an ID other than 0 no more than two IDs are passed in a step. -/
theorem exists_stops_of_ne_zero (nonzero : v ≠ 0#16) : ∃ d, Stops used v n d ∧ d ≤ 2 * n := by
  induction n generalizing v with
  | zero =>
    have here : sidFrom used v 0 = v := by simp [sidFrom, nonzero]
    exact ⟨0, ⟨by simpa using here, nofun, by omega, fun _ => Nat.le_refl 0⟩, Nat.le_refl 0⟩
  | succ n ih =>
    by_cases inUse : v ∈ used
    · have next : ∃ d, Stops used (v + 1) n d := by
        by_cases wraps : v + 1 = 0
        · obtain ⟨d, h, bound⟩ := ih (v := 1) (by decide)
          exact ⟨d + 1, wraps ▸ stops_zero h bound⟩
        · obtain ⟨d, h, -⟩ := ih wraps
          exact ⟨d, h⟩
      obtain ⟨d, h⟩ := next
      have bound := h.bound
      have same := sidFrom_used (n := n) nonzero inUse
      refine ⟨d + 1, ⟨?_, passes_succ (.inr inUse) h.passed, by omega, fun r => ?_⟩, by omega⟩
      · rw [same, h.stop, add_one_add_ofNat]
      · exact Nat.succ_le_succ (h.steps (same ▸ r))
    · have here := sidFrom_unused (n := n + 1) nonzero inUse
      refine ⟨0, ⟨by simpa using here, nofun, by omega, fun r => absurd (here ▸ r) inUse⟩, by omega⟩

theorem exists_stops (used : List (BitVec 16)) (v : BitVec 16) (n : Nat) : ∃ d, Stops used v n d := by
  by_cases zero : v = 0
  · obtain ⟨d, h, bound⟩ := exists_stops_of_ne_zero (used := used) (v := 1) (n := n) (by decide)
    exact ⟨d + 1, zero ▸ stops_zero h bound⟩
  · obtain ⟨d, h, -⟩ := exists_stops_of_ne_zero (used := used) (n := n) zero
    exact ⟨d, h⟩

end

/-- Settles O46: were the ID in use, the search would have passed 64 IDs, more than 32 in use and 0 are. -/
theorem sessionIdsAreFreshAndInOrder : Obligations.SessionIdsAreFreshAndInOrder := by
  intro used v few
  obtain ⟨d, h⟩ := exists_stops used v 64
  have bound := h.bound
  refine ⟨sidFrom_ne_zero used v 64, fun inUse => ?_, fun n hn => h.passed n ?_⟩
  · have far := h.steps inUse
    have near := le_of_passes h.passed (by omega)
    omega
  · have distance : (sidFrom used v 64 - v).toNat = d := by
      rw [h.stop, BitVec.add_comm, BitVec.add_sub_cancel, BitVec.toNat_ofNat, Nat.mod_eq_of_lt (by omega)]
    rwa [distance] at hn

end Sys2Proof.Laws
end

section
/-! SUPPORT. The sessions, which sending leaves alone, and a request that runs in one: no session, a repeated transaction
ID, or a new request (R327, R332). -/

namespace Sys2Proof.Laws

open Sys2Proof Sys2Proof.Machine

/-! ## Sending (R321) -/

/-- A field that both branches keep is kept. -/
theorem ite_keeps {α : Type} (g : State → α) {p : Prop} [Decidable p] {a b s : State} (ha : g a = g s)
    (hb : g b = g s) : g (if p then a else b) = g s := by split <;> assumption

theorem sessions_pushTsq (s : State) (e : TsqEntry) : (s.pushTsq e).sessions = s.sessions :=
  ite_keeps State.sessions rfl (ite_keeps State.sessions rfl rfl)

theorem sessions_putFrame (s : State) (b : Bytes) (event : Option (Byte × BitVec 16)) :
    (s.putFrame b event).sessions = s.sessions := by
  cases event with
  | none => rfl
  | some x => exact sessions_pushTsq _ _

theorem sessions_sendNext {s t : State} {b : Nat} (h : s.sendNext = some (t, b)) : t.sessions = s.sessions := by
  unfold State.sendNext at h
  split at h
  · cases h
  · cases h
    rw [sessions_putFrame]
    exact ite_keeps State.sessions rfl rfl
  · cases h
    rw [sessions_putFrame]

theorem sessions_sendFrames (s : State) (n : Nat) : (s.sendFrames n).1.sessions = s.sessions := by
  induction n generalizing s with
  | zero => rfl
  | succ k ih =>
    unfold State.sendFrames
    split
    · rfl
    · rename_i t b sent
      have rest : (t.sendFrames k).1.sessions = s.sessions := (ih t).trans (sessions_sendNext sent)
      split <;> simp_all

theorem sessions_missReleased (s : State) : s.missReleased.sessions = s.sessions := ite_keeps State.sessions rfl rfl

theorem sessions_sendLate (s : State) : s.sendLate.sessions = s.sessions := by
  have sent := sessions_sendFrames s s.plca.framesMax
  unfold State.sendLate
  split
  · split
    · split
      · simp_all
      · rename_i u b _ e
        rw [e] at sent
        exact (sessions_missReleased u).trans sent
    · rfl
  · rfl

theorem sessions_enqueueTx (s : State) (f : TxFrame) : (s.enqueueTx f).sessions = s.sessions :=
  ite_keeps State.sessions rfl (ite_keeps State.sessions rfl (ite_keeps State.sessions rfl (sessions_sendLate _)))

theorem sessions_sendTlx (s : State) (src : TlxSrc) (cls : TxClass) (k : Option (Fin 32)) (pdu : Bytes) :
    (s.sendTlx src cls k pdu).sessions = s.sessions := by
  cases src with
  | network mac => exact sessions_enqueueTx _ _
  | usbControl => exact ite_keeps State.sessions rfl rfl
  | usbBulk => exact ite_keeps State.sessions rfl rfl

@[simp] theorem session_sendTlx (s : State) (src : TlxSrc) (cls : TxClass) (i : Option (Fin 32)) (pdu : Bytes)
    (k : Fin 32) : (s.sendTlx src cls i pdu).session k = s.session k :=
  congrArg (fun x => x[k.val]) (sessions_sendTlx ..)

/-! ## Sessions read back -/

section
variable {s : State} {k : Fin 32}

@[simp] theorem session_modSession (f : Session → Session) : (s.modSession k f).session k = f (s.session k) :=
  s.session_setSession_same k _

@[simp] theorem session_respondFree (src : TlxSrc) (svc : Nat) (sid tid : BitVec 16) (status : AbortCode) (body : Bytes) :
    (s.respondFree src svc sid tid status body).session k = s.session k := session_sendTlx ..

@[simp] theorem session_respond (svc : Nat) (tid : BitVec 16) (status : AbortCode) (body : Bytes) :
    (s.respond k svc tid status body).session k = { s.session k with
      last := some (tid, tlxPdu kindResponse svc (s.session k).sid tid status body) } := by
  rw [State.respond, session_sendTlx, session_modSession]

@[simp] theorem session_closeSession : (s.closeSession k).session k = Session.reset := s.session_setSession_same k _

theorem session_renew_last : ((s.renew k).session k).last = (s.session k).last := by
  rw [State.renew, session_modSession]
  split <;> rfl

@[simp] theorem setSession_session : s.setSession k (s.session k) = s := by simp [State.setSession, State.session]

/-- A lease is renewed in an open session only (R329). -/
theorem renew_of_not_opened (waits : (s.session k).st ≠ .opened) : s.renew k = s := by
  rw [State.renew, State.modSession, if_neg waits, setSession_session]

/-! ## Requests (R327, R332) -/

variable {src : TlxSrc} {sid tid : BitVec 16} {ok : SessSt → Bool} {svc : Nat} {serve : State → Fin 32 → State}

/-- No session has the ID for this partner. -/
theorem findSession_eq_none (unbound : ∀ k : Fin 32, (s.session k).bound s.tclk src sid = false) :
    s.findSession src sid ok = none := by
  simp [State.findSession, unbound]

section
variable (reaches : s.tlxFrom src = true)
include reaches

theorem inSession_none (unbound : ∀ k : Fin 32, (s.session k).bound s.tclk src sid = false) :
    s.inSession src svc sid tid ok serve = s.respondFree src svc sid tid abortNoSession [] := by
  rw [State.inSession, reaches, findSession_eq_none unbound]
  rfl

variable (found : s.findSession src sid ok = some k)
include found

/-- A repeated transaction ID gets the kept response, and nothing is served. -/
theorem inSession_repeated {pdu : Bytes} (kept : (s.session k).last = some (tid, pdu)) :
    s.inSession src svc sid tid ok serve = (s.renew k).sendTlx src .tlxResponse (some k) pdu := by
  simp [State.inSession, reaches, found, session_renew_last, kept]

theorem inSession_new (new : newRequest s k tid) : s.inSession src svc sid tid ok serve = serve (s.renew k) k := by
  have last : ((s.renew k).session k).last = (s.session k).last := session_renew_last
  cases kept : (s.session k).last with
  | none => simp [State.inSession, reaches, found, last, kept]
  | some x => simp [State.inSession, reaches, found, last, kept, new x kept]

end
end

end Sys2Proof.Laws
end

section
/-! What no session of its own answers (O45), and what a repeated transaction ID does (O49). -/

namespace Sys2Proof.Laws

open Sys2Proof Sys2Proof.Machine

/-- Settles O45: each service runs in a session, and there is none. -/
theorem noSessionHasNoOtherEffect : Obligations.NoSessionHasNoOtherEffect := by
  intro s src sid tid reaches unbound
  have refused : ∀ (svc : Nat) (ok : SessSt → Bool) (serve : State → Fin 32 → State),
      Host.Outcome.next (s.inSession src svc sid tid ok serve) =
        (.next (s.respondFree src svc sid tid abortNoSession []) : Host.Outcome State Fault Refusal) :=
    fun svc ok serve => congrArg _ (inSession_none reaches unbound)
  exact ⟨⟨refused .., refused .., refused ..⟩, fun _ => refused .., fun _ _ => refused .., fun _ => refused ..,
    fun _ _ _ _ _ => refused .., fun _ _ _ _ _ => refused .., fun _ => refused ..⟩

/-- Settles O49: each service runs in the session, which has the answer to this request already. -/
theorem repeatedRequestsAreNotExecutedAgain : Obligations.RepeatedRequestsAreNotExecutedAgain := by
  intro s src sid tid k pdu reaches found kept again
  have same : ∀ (svc : Nat) (serve : State → Fin 32 → State),
      Host.Outcome.next (s.inSession src svc sid tid isOpened serve) = again :=
    fun svc serve => congrArg _ (inSession_repeated reaches found kept)
  exact ⟨same .., same .., same .., fun _ _ => same .., fun _ => same .., fun _ _ _ _ _ => same ..,
    fun _ _ _ _ _ => same .., fun _ => same .., fun svc code body => congrArg Session.last (session_respond ..)⟩

end Sys2Proof.Laws
end

section
/-! Requests of an open session (O48): a new one takes effect and is answered (R328, R331 to R336). -/

namespace Sys2Proof.Laws

open Sys2Proof Sys2Proof.Machine

/-! ## A copy in segments (R333) -/

/-- n segments give the first 1,024 n bytes. -/
theorem flatMap_slice (b : Bytes) (n : Nat) :
    ((List.range n).flatMap fun k => slice b (1024 * k) tlxMax) = b.take (1024 * n) := by
  induction n with
  | zero => rfl
  | succ n ih =>
    rw [List.range_succ, List.flatMap_append, ih, List.flatMap_singleton, Nat.mul_succ, List.take_add]
    rfl

theorem length_slice_le (b : Bytes) (off n : Nat) : (slice b off n).length ≤ n := List.length_take_le ..

section
variable {s : State} {src : TlxSrc} {sid tid : BitVec 16} {k : Fin 32} (reaches : s.tlxFrom src = true)
  (found : s.findSession src sid isOpened = some k) (new : newRequest s k tid)
include reaches found new

/-! ## RENEW, CLOSE, and services unknown (R328, R329) -/

theorem exec_tlxRenew : exec (.tlxRenew src sid tid) s =
    .next ((s.renew k).respond k svcRenew tid 0 (beBytes 4 10000)) := congrArg _ (inSession_new reaches found new)

theorem exec_tlxClose : exec (.tlxClose src sid tid) s =
    .next (((s.renew k).respond k svcClose tid 0 []).closeSession k) := congrArg _ (inSession_new reaches found new)

theorem exec_tlxUnknownService {svc : Byte} (unknown : knownServices.contains (svc.toNat % 64) = false) :
    exec (.tlxUnknownService src sid tid svc) s =
      .next ((s.renew k).respond k (svc.toNat % 64) tid abortServiceUnknown []) := by
  have enters : ¬(!s.tlxFrom src || knownServices.contains (svc.toNat % 64)) = true := by rw [reaches, unknown]; decide
  change Host.Outcome.next (s.serveUnknown src sid tid (svc.toNat % 64)) = _
  rw [State.serveUnknown, if_neg enters, found]
  exact congrArg _ (inSession_new reaches found new)

/-! ## Writes (R334) -/

theorem exec_tlxWrite (idx sub : Nat) (last : Bool) (off : Nat) (data : Bytes) :
    exec (.tlxWrite src sid tid idx sub last off data) s =
      .next ((s.renew k).serveSegment k tid idx sub last off data) := congrArg _ (inSession_new reaches found new)

theorem exec_tlxWriteCancel : exec (.tlxWriteCancel src sid tid) s =
    .next (((s.renew k).dropPend k).respond k svcWriteCancel tid 0 []) := congrArg _ (inSession_new reaches found new)

/-! ## UNSUBSCRIBE (R335) -/

theorem exec_tlxUnsubscribe_range {h : Byte} (range : 8 ≤ h.toNat) :
    exec (.tlxUnsubscribe src sid tid h) s = .next ((s.renew k).respond k svcUnsubscribe tid abortRange []) :=
  congrArg _ ((inSession_new reaches found new).trans (if_pos range))

theorem exec_tlxUnsubscribe_held {h : Byte} {u : Sub} (range : h.toNat < 8) (held : u ∈ ((s.renew k).session k).subs)
    (handle : u.handle.val = h.toNat) :
    exec (.tlxUnsubscribe src sid tid h) s = .next (((s.renew k).modSession k fun x => { x with
      subs := x.subs.filter fun u => !(u.handle.val == h.toNat) }).respond k svcUnsubscribe tid 0 []) := by
  have mine : (((s.renew k).session k).subs.any fun u => u.handle.val == h.toNat) = true :=
    List.any_eq_true.2 ⟨u, held, beq_iff_eq.2 handle⟩
  exact congrArg _ ((inSession_new reaches found new).trans ((if_neg (Nat.not_le.2 range)).trans (if_pos mine)))

/-! ## Reads (R333) -/

theorem exec_tlxRead_error {idx sub : Nat} {e : AbortCode}
    (fails : (s.renew k).readMember (.tlx ((s.renew k).session k).role) idx sub = .error e) :
    exec (.tlxRead src sid tid idx sub) s = .next
      (((s.renew k).modSession k fun x => { x with copy := none }).respond k svcRead tid e []) := by
  refine congrArg _ ((inSession_new reaches found new).trans ?_)
  dsimp only
  rw [fails]

section
variable {idx sub : Nat} {m : Member} {v : Bytes}
  (reads : (s.renew k).readMember (.tlx ((s.renew k).session k).role) idx sub = .ok (m, v))
include reads

theorem exec_tlxRead : exec (.tlxRead src sid tid idx sub) s = .next
    ((((s.renew k).measured idx sub).modSession k fun x => { x with
      copy := if tlxMax < (tlxBytes m v).length then some (tlxBytes m v) else none }).respond k svcRead tid 0
        (beBytes 4 (tlxBytes m v).length ++ (tlxBytes m v).take tlxMax)) := by
  refine congrArg _ ((inSession_new reaches found new).trans ?_)
  dsimp only
  rw [reads]

theorem exec_tlxRead_whole (short : (tlxBytes m v).length ≤ tlxMax) : exec (.tlxRead src sid tid idx sub) s = .next
    ((((s.renew k).measured idx sub).modSession k fun x => { x with copy := none }).respond k svcRead tid 0
      (beBytes 4 (tlxBytes m v).length ++ tlxBytes m v)) := by
  rw [exec_tlxRead reaches found new reads, if_neg (Nat.not_lt.2 short), List.take_of_length_le short]

theorem exec_tlxRead_copied (long : tlxMax < (tlxBytes m v).length) : exec (.tlxRead src sid tid idx sub) s = .next
    ((((s.renew k).measured idx sub).modSession k fun x => { x with copy := some (tlxBytes m v) }).respond k svcRead tid 0
      (beBytes 4 (tlxBytes m v).length ++ (tlxBytes m v).take tlxMax)) := by
  rw [exec_tlxRead reaches found new reads, if_pos long]

end

theorem exec_tlxReadSegment_copied {b : Bytes} {off : Nat} (copy : ((s.renew k).session k).copy = some b) :
    exec (.tlxReadSegment src sid tid off) s = .next
      (if b.length ≤ off then (s.renew k).respond k svcReadSegment tid abortRange []
       else (s.renew k).respond k svcReadSegment tid 0 (beBytes 4 b.length ++ slice b off tlxMax)) := by
  refine congrArg _ ((inSession_new reaches found new).trans ?_)
  rw [copy]

theorem exec_tlxReadSegment_none {off : Nat} (copy : ((s.renew k).session k).copy = none) :
    exec (.tlxReadSegment src sid tid off) s = .next ((s.renew k).respond k svcReadSegment tid abortSegment []) := by
  refine congrArg _ ((inSession_new reaches found new).trans ?_)
  rw [copy]

end

/-- Settles O48: each request by its own lemma, and the segments of a copy. -/
theorem sessionRequestsComplete : Obligations.SessionRequestsComplete := by
  refine ⟨fun s src sid tid k reaches found new => ?requests, fun s src sid tid k reaches found new => ?reads,
    fun b n whole => ⟨?segments, fun _ => length_slice_le ..⟩⟩
  case requests =>
    exact ⟨exec_tlxRenew reaches found new, exec_tlxClose reaches found new, exec_tlxWriteCancel reaches found new,
      fun _ => exec_tlxUnknownService reaches found new, exec_tlxWrite reaches found new,
      fun _ => exec_tlxUnsubscribe_range reaches found new, fun _ _ => exec_tlxUnsubscribe_held reaches found new⟩
  case reads =>
    exact ⟨fun _ _ _ _ reads => ⟨exec_tlxRead_whole reaches found new reads, exec_tlxRead_copied reaches found new reads⟩,
      fun _ _ _ => exec_tlxRead_error reaches found new,
      fun _ _ copy inside => (exec_tlxReadSegment_copied reaches found new copy).trans
        (congrArg _ (if_neg (Nat.not_le.2 inside))),
      fun _ _ copy past => (exec_tlxReadSegment_copied reaches found new copy).trans (congrArg _ (if_pos past)),
      fun _ => exec_tlxReadSegment_none reaches found new⟩
  case segments => rw [flatMap_slice, List.take_of_length_le whole]

end Sys2Proof.Laws
end

section
/-! OPEN and AUTH (O47, R327, R328, R330). -/

namespace Sys2Proof.Laws

open Sys2Proof Sys2Proof.Machine

section
variable {s : State} {src : TlxSrc} {tid : BitVec 16} {k : Fin 32}

/-! ## OPEN -/

/-- The lease of an open session, in both units (R328, R329). -/
theorem tclkOfMs_lease : tclkOfMs 10000 = tclkOfS 10 := rfl

/-- The session that OPEN leaves in its slot: open, or waiting for its proof. -/
theorem session_openIn (r : Role) (proof : Bool) : (s.openIn k src tid r proof).session k = { Session.reset with
    st := if proof then .authWait else .opened, sid := sidFrom s.usedSids s.nextSid 64, src := src, role := r
    leaseEnd := s.tclk + tclkOfMs (if proof then 1000 else 10000)
    challenge := if proof then Config.challenge s.free else 0 } := by
  rw [State.openIn, session_respondFree, State.session_setSession_same]

section
variable (reaches : s.tlxFrom src = true)
include reaches

/-- A role without the right to it is refused before a slot is looked for. -/
theorem exec_tlxOpen_denied {role : Byte} {r : Role} (names : roleOf role = some r) (asks : r ≠ .reader)
    (keyless : s.reeve.accessKey.isSome = false) (segment : onUsb src = false) :
    exec (.tlxOpen src tid role) s = .next (s.respondFree src svcOpen 0 tid abortDenied []) := by
  change Host.Outcome.next (s.serveOpen src tid role) = _
  have refused : r ≠ .reader ∧ s.reeve.accessKey.isSome = false ∧ onUsb src = false := ⟨asks, keyless, segment⟩
  simp only [State.serveOpen, reaches, names, if_pos refused]
  rfl

theorem exec_tlxOpen_opens {role : Byte} {r : Role} (names : roleOf role = some r)
    (allowed : ¬(r ≠ .reader ∧ s.reeve.accessKey.isSome = false ∧ onUsb src = false))
    (slot : (allSessions.find? fun k => (s.session k).st == .closed) = some k) :
    exec (.tlxOpen src tid role) s = .next (s.openIn k src tid r (r != .reader && s.reeve.accessKey.isSome)) := by
  change Host.Outcome.next (s.serveOpen src tid role) = _
  simp only [State.serveOpen, reaches, names, if_neg allowed, slot]
  rfl

/-! ## AUTH -/

section
variable {sid : BitVec 16} {proof : BitVec 128} (found : s.findSession src sid (· != .closed) = some k)
  (waits : (s.session k).st = .authWait) (new : newRequest s k tid)
include found waits new

theorem exec_tlxAuth : exec (.tlxAuth src sid tid proof) s = .next
    (if proof = s.proofOf (s.session k) then
      (s.modSession k fun x => { x with st := .opened, leaseEnd := s.tclk + leaseTicks }).respond k svcAuth tid 0
        (beBytes 4 10000 ++ [roleCode (s.session k).role])
    else (s.respond k svcAuth tid abortAuth []).closeSession k) := by
  have closed : (s.session k).st ≠ .opened := by rw [waits]; decide
  refine congrArg _ ((inSession_new reaches found new).trans ?_)
  rw [renew_of_not_opened closed]
  exact if_neg closed

end
end
end

/-- Settles O47: what OPEN leaves in its slot, and what AUTH makes of it. -/
theorem openAndAuthComplete : Obligations.OpenAndAuthComplete := by
  refine ⟨fun s src tid k reaches slot => ⟨?reader, ?keyed, ?denied, ?usb⟩,
    fun s src sid tid k proof reaches found waits new => ⟨?right, ?wrong⟩⟩
  case reader =>
    refine ⟨_, exec_tlxOpen_opens reaches rfl (fun h => h.1 rfl) slot, ?_⟩
    rw [session_openIn]
    exact ⟨rfl, rfl, rfl, congrArg (s.tclk + ·) tclkOfMs_lease, rfl⟩
  case keyed =>
    intro key
    have keyed : s.reeve.accessKey.isSome = true := Option.isSome_iff_ne_none.2 key
    refine ⟨_, exec_tlxOpen_opens (r := .privileged) reaches rfl (by simp [keyed]) slot, ?_⟩
    rw [session_openIn, keyed]
    exact ⟨rfl, rfl, rfl, rfl⟩
  case denied => exact fun keyless => exec_tlxOpen_denied (r := .privileged) reaches rfl nofun (by rw [keyless]; rfl)
  case usb =>
    intro keyless usb
    refine ⟨_, exec_tlxOpen_opens (r := .privileged) reaches rfl (by simp [usb]) slot, ?_⟩
    rw [session_openIn, keyless]
    exact ⟨rfl, rfl⟩
  case right =>
    intro right
    refine ⟨_, (exec_tlxAuth reaches found waits new).trans (congrArg _ (if_pos right)), ?_⟩
    rw [session_respond, session_modSession]
    exact ⟨rfl, rfl⟩
  case wrong =>
    intro wrong
    exact ⟨_, (exec_tlxAuth reaches found waits new).trans (congrArg _ (if_neg wrong)),
      congrArg Session.st session_closeSession⟩

end Sys2Proof.Laws
end

section
/-! The commit rule of WRITE segments (O50, R334). -/

namespace Sys2Proof.Laws

open Sys2Proof Sys2Proof.Machine

section
variable {s : State} {k : Fin 32} {tid : BitVec 16} {idx sub : Nat} {last : Bool} {off : Nat} {data : Bytes}

theorem serveSegment_first_displaced (empty : (s.session k).pend = none) (displaced : off ≠ 0) :
    s.serveSegment k tid idx sub last off data = (s.dropPend k).respond k svcWrite tid abortSegment [] := by
  simp [State.serveSegment, empty, displaced]

/-- The only segment of a write is validated and committed. -/
theorem serveSegment_single (empty : (s.session k).pend = none) (short : data.length ≤ 1024) :
    s.serveSegment k tid idx sub true 0 data =
      ((((s.dictWrite (.tlx (s.session k).role) idx sub (unwire idx sub data)).2.dropPend k).respond k svcWrite tid
        (s.dictWrite (.tlx (s.session k).role) idx sub (unwire idx sub data)).1 []).afterWrite idx sub
          (unwire idx sub data) (s.dictWrite (.tlx (s.session k).role) idx sub (unwire idx sub data)).1) := by
  have fits : ¬segmentMax < data.length := by rw [segmentMax]; omega
  simp [State.serveSegment, empty, fits]

section
variable {x : Pend} (held : (s.session k).pend = some x)
include held

theorem serveSegment_displaced (displaced : off ≠ x.data.length) :
    s.serveSegment k tid idx sub last off data = (s.dropPend k).respond k svcWrite tid abortSegment [] := by
  simp [State.serveSegment, held, displaced]

variable (follows : off = x.data.length) (sameIdx : x.idx = idx) (sameSub : x.sub = sub)
include follows sameIdx sameSub

theorem serveSegment_long (long : 16777216 < x.data.length + data.length) :
    s.serveSegment k tid idx sub last off data = (s.dropPend k).respond k svcWrite tid abortLength [] := by
  simp [State.serveSegment, held, follows, sameIdx, sameSub, segmentMax, long]

theorem serveSegment_held (fits : x.data.length + data.length ≤ 16777216) :
    s.serveSegment k tid idx sub false off data =
      (s.modSession k fun y => { y with pend := some {
        idx := idx, sub := sub, data := x.data ++ data, deadline := s.tclk + tclkOfS 1 } }).respond k svcWrite tid 0 [] := by
  simp [State.serveSegment, held, follows, sameIdx, sameSub, segmentMax, Nat.not_lt.2 fits]

end
end

/-- Settles O50: each segment by its own lemma. -/
theorem writeSegmentsFollowTheCommitRule : Obligations.WriteSegmentsFollowTheCommitRule := by
  intro s k tid idx sub last off data
  refine ⟨serveSegment_first_displaced, fun x => serveSegment_displaced, fun x => serveSegment_held,
    fun x => serveSegment_long, ?single⟩
  case single =>
    rintro empty short rfl
    exact serveSegment_single empty short

end Sys2Proof.Laws
end

section
/-! Subscriptions, notifications and the ends of leases (O51): R328, R329, R334 to R336, R344. -/

namespace Sys2Proof.Laws

open Sys2Proof Sys2Proof.Machine

section
variable {s : State} {k : Fin 32}

/-! ## SUBSCRIBE and acknowledges (R335, R336) -/

section
variable {src : TlxSrc} {sid tid seq : BitVec 16} (reaches : s.tlxFrom src = true)
  (found : s.findSession src sid isOpened = some k)
include reaches found

/-- A subscription on change within the limits takes the lowest free handle. -/
theorem exec_tlxSubscribe {idx sub : Nat} {m : Member} {v : Bytes} {h : Fin 8} {minMs periodMs : Nat}
    (new : newRequest s k tid)
    (reads : (s.renew k).readMember (.tlx ((s.renew k).session k).role) idx sub = .ok (m, v))
    (checks : subscribeCheck m 0 minMs periodMs = 0) (handle : ((s.renew k).session k).freeHandle = some h)
    (room : (s.renew k).subsHeld < 64) :
    exec (.tlxSubscribe src sid tid idx sub 0 minMs periodMs) s = .next
      (((s.renew k).modSession k fun x => { x with subs := x.subs ++ [{
        handle := h, idx := idx, sub := sub, periodic := false, minMs := minMs, periodMs := periodMs
        lastSent := none, lastValue := tlxBytes m v, dirty := false }] }).respond k svcSubscribe tid 0
          [BitVec.ofNat 8 h.val]) := by
  refine congrArg _ ((inSession_new reaches found new).trans ?_)
  have takes : ¬subscribeCheck m 0 minMs periodMs ≠ 0 := fun refused => refused checks
  dsimp only
  rw [reads]
  dsimp only
  rw [if_neg takes, handle]
  exact if_neg (Nat.not_le.2 room)

theorem exec_tlxEventAck : exec (.tlxEventAck src sid seq) s = .next
    ((s.renew k).modSession k fun x => { x with unacked := x.unacked.filter fun n => n.seq != seq }) := by
  change Host.Outcome.next (s.serveAck src sid seq) = _
  rw [State.serveAck, reaches, found]
  rfl

end

/-! ## Notifications (R335, R336) -/

/-- With 16 notifications waiting nothing is sent, whether or not the member can be read. -/
theorem exec_tlxEventNotify_full {h : Fin 8} {u : Sub}
    (held : ((s.session k).subs.find? fun (u : Sub) => u.handle == h) = some u)
    (full : 16 ≤ (s.session k).unacked.length) : exec (.tlxEventNotify k h) s = .next s := by
  have noRoom : ¬(s.session k).unacked.length < 16 := Nat.not_lt.2 full
  change execTlxEventNotify k h s = _
  simp only [execTlxEventNotify, held]
  split
  · rfl
  · split
    · rfl
    · simp [noRoom, unackedMax]

section
variable (power : s.reeve.powered = true) (running : s.reeve.running = true) (opened : (s.session k).st = .opened)
include power running opened

theorem exec_tlxEventNotify_due {h : Fin 8} {u : Sub} {m : Member} {v : Bytes}
    (held : ((s.session k).subs.find? fun (u : Sub) => u.handle == h) = some u)
    (reads : s.readMember (.tlx (s.session k).role) u.idx u.sub = .ok (m, v))
    (due : u.due s.tclk (tlxBytes m v) = true) (room : (s.session k).unacked.length < 16) :
    exec (.tlxEventNotify k h) s = .next ((s.measured u.idx u.sub).notify k u (tlxBytes m v)) := by
  change execTlxEventNotify k h s = _
  simp [execTlxEventNotify, power, running, opened, isOpened, held, reads, due, room, unackedMax]

/-- The oldest notification that is due: dropped after three tries, else sent again. -/
theorem exec_tlxEventRetry {n : Unacked}
    (oldest : ((s.session k).unacked.find? fun (n : Unacked) => decide (n.retryAt ≤ s.tclk)) = some n)
    (sends : s.plcaState ≠ plcaListen) : exec (.tlxEventRetry k) s = .next
      (if 3 ≤ n.tries then s.modSession k fun x => { x with unacked := x.unacked.erase n }
       else (s.modSession k fun x => { x with unacked := x.unacked.map fun v => if v = n then
         { n with retryAt := s.tclk + tclkOfMs 100, tries := n.tries + 1 } else v }).sendTlx (s.session k).src .tlxEvent
           (some k) n.bytes) := by
  change execTlxEventRetry k s = _
  simp only [execTlxEventRetry]
  rw [if_neg (by simp [power, running, opened, isOpened, sends]), oldest]
  exact (apply_ite Host.Outcome.next ..).symm

end

/-! ## The ends of a lease and of a held write (R328, R329, R334) -/

theorem exec_sessionLapse (used : (s.session k).st ≠ .closed) (due : (s.session k).leaseEnd ≤ s.tclk) :
    exec (.sessionLapse k) s = .next (s.lapse k) := by
  change execSessionLapse k s = _
  rw [execSessionLapse]
  exact congrArg _ (if_pos ⟨used, due⟩)

theorem exec_authTimeout (waits : (s.session k).st = .authWait) (due : (s.session k).leaseEnd ≤ s.tclk) :
    exec (.authTimeout k) s = .next (s.lapse k) := by
  change execAuthTimeout k s = _
  rw [execAuthTimeout]
  exact congrArg _ (if_pos ⟨waits, due⟩)

theorem exec_tlxWriteIdleTimeout {x : Pend} (held : (s.session k).pend = some x) (due : x.deadline ≤ s.tclk) :
    exec (.tlxWriteIdleTimeout k) s = .next (s.dropPend k) := by
  change execTlxWriteIdleTimeout k s = _
  rw [execTlxWriteIdleTimeout, held]
  exact congrArg _ (if_pos due)

end

/-- Settles O51: each command by its own lemma. -/
theorem subscriptionsComplete : Obligations.SubscriptionsComplete := by
  refine ⟨fun s k => ⟨?subscribe, fun _ _ _ => exec_tlxEventAck, fun power running opened => ⟨?due, ?full, ?retry⟩⟩,
    fun s k => ⟨exec_sessionLapse, exec_authTimeout, fun _ => exec_tlxWriteIdleTimeout, session_closeSession⟩⟩
  case subscribe => exact fun _ _ _ _ _ _ _ _ _ _ reaches found new => exec_tlxSubscribe reaches found new
  case due => exact fun _ _ _ _ held => exec_tlxEventNotify_due power running opened held
  case full => exact fun _ _ => exec_tlxEventNotify_full
  case retry =>
    intro n oldest sends
    have retries := exec_tlxEventRetry power running opened oldest sends
    exact ⟨fun last => retries.trans (congrArg _ (if_pos last)),
      fun tries => retries.trans (congrArg _ (if_neg (Nat.not_le.2 tries)))⟩

end Sys2Proof.Laws
end

section
/-! A write that a check refuses (O9): the abort is the answer, and nothing else changes (R361). -/

namespace Sys2Proof.Laws

open Sys2Proof Sys2Proof.Machine

section
variable {i : Instr} {p : Path} {idx sub : Nat} {data : Bytes} {s : State}

/-- Where the write reaches its server and a check refuses it, the outcome is the same state with the abort as answer. -/
def AnswersAbort (s : State) (p : Path) (idx sub : Nat) (data : Bytes) (o : Host.Outcome State Fault Refusal) : Prop :=
  ∀ e : AbortCode, s.pathUp p = true → s.checkWrite p idx sub data = .error e → o = .next (s.answer e)

theorem answersAbort_writeRow {f : Commit} : AnswersAbort s p idx sub data (s.writeRow p idx sub data f) :=
  fun _ up refused => writeRow_refused f up refused

/-! ## Rows with an action beside their commit: it follows an accepted write only (R328, R445, R448) -/

/-- A row that ends a write in its own way, where an abort gets the answer alone. -/
theorem answersAbort_finish {o : Host.Outcome State Fault Refusal} (f : Commit) (finish : State → AbortCode → State)
    (row : o = if !s.pathUp p then .next s
      else .next (finish (s.write p idx sub data f).2 (s.write p idx sub data f).1))
    (abort : ∀ (t : State) (e : AbortCode), e ≠ 0 → finish t e = t.answer e) : AnswersAbort s p idx sub data o := by
  intro e up refused
  have unchanged : s.write p idx sub data f = (e, s) := by simp [State.write, refused]
  rw [row, if_neg (by simp [up]), unchanged, abort s e (checkWrite_error_ne_zero refused)]

theorem answersAbort_accessKeyWrite {key : Bytes} :
    AnswersAbort s p 0x1200 3 key (execAccessKeyWrite p key s) :=
  answersAbort_finish (accessKeyCommit key) (fun t code => (t.answer code).afterAccessKey code) rfl fun _ _ h => if_neg h

theorem answersAbort_stewardBankRequest {c : Chan} {v : Byte} :
    AnswersAbort s p (chanIndex c 0) 7 [v] (execStewardBankRequest p c v s) :=
  answersAbort_finish (bankRequestCommit c v.toNat) (fun t code => (t.afterBankRequest c code).answer code) rfl
    fun t e h => congrArg (State.answer · e) (if_neg h : t.afterBankRequest c e = t)

theorem answersAbort_imageActivate : AnswersAbort s p 0x1030 3 [2] (execImageActivate p s) :=
  answersAbort_finish (restartCommit activateOk) (fun t code => (t.answer code).afterActivate code 3) rfl
    fun _ _ h => if_neg h

theorem answersAbort_imageFallBack : AnswersAbort s p 0x1030 3 [3] (execImageFallBack p s) :=
  answersAbort_finish (restartCommit fallBackOk) (fun t code => (t.answer code).afterActivate code 4) rfl
    fun _ _ h => if_neg h

/-- A listed command is a write row, or has its lemma above. -/
theorem answersAbort_of_asWrite (h : asWrite i = some (p, idx, sub, data)) :
    AnswersAbort s p idx sub data (exec i s) := by
  cases i
  -- The width and the period are two members; a Stocktake command through a register writes none.
  case' trigPeriodWidthWrite width _ => cases width
  case' stocktakeTrigger src _ => cases src
  case' stocktakeRelease src _ => cases src
  all_goals cases h
  case accessKeyWrite => exact answersAbort_accessKeyWrite
  case stewardBankRequest => exact answersAbort_stewardBankRequest
  case imageActivate => exact answersAbort_imageActivate
  case imageFallBack => exact answersAbort_imageFallBack
  case stocktakeTrigger.dict =>
    rw [exec_stocktakeTrigger_dict]
    exact answersAbort_writeRow
  case stocktakeRelease.dict =>
    rw [exec_stocktakeRelease_dict]
    exact answersAbort_writeRow
  -- Every other listed command is a write row by its definition.
  all_goals
    delta exec
    exact answersAbort_writeRow

end

/-- Settles O9: whichever row carries the write, the check's abort is its answer and the state stays. -/
theorem refusedWriteAppliesNothing : Obligations.RefusedWriteAppliesNothing :=
  fun _ _ _ _ _ _ e listed up refused => answersAbort_of_asWrite listed e up refused

end Sys2Proof.Laws
end

section
/-! The journal, the access key, the Ethertype and the saved state's commands (O52, R325, R328, R358 to R361, R378). -/

namespace Sys2Proof.Laws

open Sys2Proof Sys2Proof.Machine

section
variable {s : State} {p : Path} {pl : Place} {m : Member}

/-- A value that waits for the journal is stored, or cannot be (R359, R378). -/
theorem exec_journalStore (up : s.reeveUp = true) (pending : bitOf (s.mget 0x1020 2) 0 = true)
    (due : s.reeve.saveDue ≠ none) (ok : Bool) :
    exec (.journalStore ok) s = .next (if ok then s.journalStored else s.journalFailed) := by
  change execJournalStore ok s = _
  rw [execJournalStore, whenReeve_reeveUp _ up]
  exact if_pos (by simp [pending, Option.isSome_iff_ne_none.2 due])

/-- The new key stands, its writer has its answer, and then every session ends (R328). -/
theorem exec_accessKeyWrite {key : Bytes} (h : accepts s p 0x1200 3 key pl m) :
    exec (.accessKeyWrite p key) s = .next ((accessKeyCommit key s).2.done pl m 0x1200 3).closeSessions := by
  obtain ⟨up, checks⟩ := h
  change execAccessKeyWrite p key s = _
  simp [execAccessKeyWrite, up, State.write, checks, accessKeyCommit, commitOk, State.afterAccessKey, State.done]

theorem exec_restoreRequest (p : Path) (v : BitVec 16) (s : State) : exec (.restoreRequest p v) s =
    s.writeRow p 0x1020 1 (leBytes 2 v.toNat) (restoreCommit v.toNat) := rfl

theorem exec_saveRetry (p : Path) (v : Byte) (s : State) : exec (.saveRetry p v) s =
    s.writeRow p 0x1020 2 [v] (persistCommit v.toNat) := rfl

theorem exec_ethertypeWrite (p : Path) (v : BitVec 16) (s : State) : exec (.ethertypeWrite p v) s =
    s.writeRow p 0x1010 2 (leBytes 2 v.toNat) (commitOk (·.mput 0x1010 2 (w v.toNat))) := rfl

/-- Check 10 of R361 is the only one left to a value that passes 7 to 9. -/
theorem checkValue_saveFailed {data : Bytes} (failed : bitOf (s.mget 0x1020 2) 1 = true) (saved : m.pers = .s)
    (length : lengthOk m data.length = true) (value : valueOk m data (m.ty.decode data) = true)
    (bounds : boundsOk m (m.ty.decode data) = true) : s.checkValue m data = abortSaveFailed := by
  simp [State.checkValue, length, value, bounds, saved, failed]

end

/-- Settles O52: the journal by its own lemma, each write by the commit of its row. -/
theorem persistenceCommandsComplete : Obligations.PersistenceCommandsComplete := by
  refine ⟨fun s => ⟨?journal, fun p pl m => ⟨?restore, ?retry, ?key, ?ethertype⟩⟩,
    fun _ _ _ => checkValue_saveFailed⟩
  case journal =>
    intro up pending due
    exact ⟨exec_journalStore up pending due true, exec_journalStore up pending due false⟩
  case restore => exact fun v h => (exec_restoreRequest ..).trans (writeRow_commitOk _ h)
  case retry => exact fun v h => (exec_saveRetry ..).trans (writeRow_commitOk _ h)
  case key => exact fun _ => exec_accessKeyWrite
  case ethertype => exact fun v h => (exec_ethertypeWrite ..).trans (writeRow_commitOk _ h)

end Sys2Proof.Laws
end

section
/-! SUPPORT. Outcomes that leave the queue of waiting commands, the model's own field (log entry 5): how guards, register
accesses and writes of a member pass it on. -/

namespace Sys2Proof.Laws

open Sys2Proof Sys2Proof.Machine

/-- Whatever next state an outcome is, the commands waiting in it are those of s. -/
def KeepsQueue (s : State) (o : Host.Outcome State Fault Refusal) : Prop :=
  ∀ t : State, o = .next t → t.pending = s.pending

section
variable {s t : State} {c : Chan} {f : State → Host.Outcome State Fault Refusal}

@[simp] theorem keepsQueue_next : KeepsQueue s (.next t) ↔ t.pending = s.pending :=
  ⟨fun h => h t rfl, by rintro h _ ⟨⟩; exact h⟩

@[simp] theorem keepsQueue_ite {p : Prop} [Decidable p] {a b : Host.Outcome State Fault Refusal} :
    KeepsQueue s (if p then a else b) ↔ (p → KeepsQueue s a) ∧ (¬p → KeepsQueue s b) := by
  by_cases h : p <;> simp [h]

theorem keepsQueue_stay : KeepsQueue s (.next s) := keepsQueue_next.2 rfl

/-- A state with the same commands waiting may stand for s. -/
theorem keepsQueue_after {o : Host.Outcome State Fault Refusal} (h : t.pending = s.pending) (g : KeepsQueue t o) :
    KeepsQueue s o := fun u hu => (g u hu).trans h

theorem keepsQueue_whenLive (h : KeepsQueue s (f s)) : KeepsQueue s (s.whenLive f) :=
  keepsQueue_ite.2 ⟨fun _ => h, fun _ => keepsQueue_stay⟩

theorem keepsQueue_whenReeve (h : KeepsQueue s (f s)) : KeepsQueue s (s.whenReeve f) :=
  keepsQueue_ite.2 ⟨fun _ => h, fun _ => keepsQueue_stay⟩

theorem keepsQueue_whenChan (h : KeepsQueue s (f s)) : KeepsQueue s (s.whenChan c f) :=
  keepsQueue_ite.2 ⟨fun _ => h, fun _ => keepsQueue_stay⟩

theorem keepsQueue_whenHost (h : KeepsQueue s (f s)) : KeepsQueue s (s.whenHost c f) :=
  keepsQueue_ite.2 ⟨fun _ => h, fun _ => keepsQueue_stay⟩

/-- A command that a path without power does not carry. -/
theorem keepsQueue_unless {p : Prop} [Decidable p] (h : t.pending = s.pending) :
    KeepsQueue s (if p then .next s else .next t) :=
  keepsQueue_ite.2 ⟨fun _ => keepsQueue_stay, fun _ => keepsQueue_next.2 h⟩

/-- A register write is an access, then what the register does. -/
theorem keepsQueue_viewWrite {view : View} {i : Slot} {off : Nat} (h : ∀ t, KeepsQueue t (f t)) :
    KeepsQueue s (s.viewWrite view c i off f) :=
  keepsQueue_whenHost (keepsQueue_after (pending_access ..) (h _))

/-- A write of one member, by a commit that leaves the queue. -/
theorem keepsQueue_writeRow {p : Path} {idx sub : Nat} {data : Bytes} {commit : Commit}
    (h : ∀ s, (commit s).2.pending = s.pending) : KeepsQueue s (s.writeRow p idx sub data commit) :=
  keepsQueue_unless ((pending_answer ..).trans (pending_write _ _ _ _ _ _ h))

end

end Sys2Proof.Laws
end

section
/-! Commands that leave the queue, each by a lemma of its own: registers of any size, frames received, and those with
branches of their own. -/

namespace Sys2Proof.Laws

open Sys2Proof Sys2Proof.Machine

/-! ## Registers (R277, R280 to R284) -/

section
variable {s : State} {view : View} {c : Chan} {i : Slot} {off : Nat}

theorem keepsQueue_ringTail {k : RingKind} {v : BitVec 32} : KeepsQueue s (ringTail view c i k v s) := by
  cases k <;> delta ringTail <;> exact keepsQueue_viewWrite fun _ => by simp

/-- What follows an outcome that goes on, and leaves the queue as well. -/
theorem keepsQueue_then {o : Host.Outcome State Fault Refusal} {t u : State} (ho : KeepsQueue s o) (ht : o = .next t)
    (h : u.pending = t.pending) : KeepsQueue s (.next u) := keepsQueue_next.2 (h.trans (ho t ht))

theorem keepsQueue_traceCtrl {on irq : Bool} : KeepsQueue s
    (if on then execTraceRingEnable view c i irq s else execTraceRingDisable view c i irq s) :=
  keepsQueue_ite.2 ⟨fun _ => keepsQueue_viewWrite fun _ => by simp, fun _ => keepsQueue_viewWrite fun _ => by simp⟩

theorem keepsQueue_decantCtrl {on irq : Bool} : KeepsQueue s
    (if on then execDecantRingEnable view c i irq s else execDecantRingDisable view c i irq s) :=
  keepsQueue_ite.2 ⟨fun _ => keepsQueue_viewWrite fun _ => by simp, fun _ => keepsQueue_viewWrite fun _ => by simp⟩

/-- ENABLE written 1 or 0, and FLUSH after it. -/
theorem keepsQueue_ringCtrl {k : RingKind} {v : BitVec 32} : KeepsQueue s (ringCtrl view c i k v s) := by
  cases k with
  | job | result =>
    exact keepsQueue_ite.2
      ⟨fun _ => keepsQueue_viewWrite fun _ => by simp, fun _ => keepsQueue_viewWrite fun _ => by simp⟩
  | trace =>
    unfold ringCtrl
    dsimp only
    split
    · exact keepsQueue_then keepsQueue_traceCtrl ‹_› (by simp)
    · exact keepsQueue_traceCtrl
  | decant =>
    unfold ringCtrl
    dsimp only
    split
    · exact keepsQueue_then keepsQueue_decantCtrl ‹_› (by simp)
    · exact keepsQueue_decantCtrl

theorem keepsQueue_writeSlot {v : BitVec 32} : KeepsQueue s (writeSlot view c i off v s) := by
  unfold writeSlot
  dsimp only
  split
  · simp
  · simp [keepsQueue_ringTail, keepsQueue_ringCtrl]

theorem keepsQueue_writeWord {v : BitVec 32} : KeepsQueue s (writeWord view c i off v s) := by
  cases view with
  | bar0 =>
    refine keepsQueue_ite.2 ⟨fun _ => keepsQueue_writeSlot, fun _ => keepsQueue_next.2 ?_⟩
    repeat' split
    all_goals simp
  | window => exact keepsQueue_ite.2 ⟨fun _ => keepsQueue_writeSlot, fun _ => by simp⟩

/-- A write is one word, a BASE pair, two words in address order, or PARTIAL. -/
theorem keepsQueue_writeAccess {size : Nat} {v : Word} : KeepsQueue s (writeAccess view c i off size v s) := by
  refine keepsQueue_ite.2 ⟨fun _ => keepsQueue_writeWord, fun _ => keepsQueue_ite.2 ⟨fun _ => ?_, fun _ => by simp⟩⟩
  split
  · simp
  · obtain ⟨t, ht⟩ := (goesOn_iff _).1 (goesOn_writeWord view c i off (lo32 v) s)
    simp only [ht]
    exact keepsQueue_after (keepsQueue_writeWord t ht) keepsQueue_writeWord

theorem keepsQueue_regWrite {size : Nat} {v : Word} : KeepsQueue s (s.regWrite view c i off size v) := by
  simp [State.regWrite, keepsQueue_writeAccess]

theorem keepsQueue_registerWrite {x : RegTarget} : KeepsQueue s (execRegisterWrite x s) := by
  cases x with
  | bar0 | window => exact keepsQueue_regWrite
  | dict => simp [execRegisterWrite]

end

/-! ## Frames (R309, R326) -/

section
variable {s : State}

theorem keepsQueue_runPtp {b : Bytes} : KeepsQueue s (s.runPtp b) := by
  unfold State.runPtp
  dsimp only
  split
  · simp
  · simp [execSyncReceived, execDelayReqReceived, execFollowUpReceived, execDelayRespReceived, execAnnounceReceived,
      keepsQueue_whenReeve]

theorem keepsQueue_acceptFrame {f : MacFrame} : KeepsQueue s (s.acceptFrame f) := by
  refine keepsQueue_after (pending_mcount s 0x1010 3 1 32) (keepsQueue_ite.2 ⟨fun _ => keepsQueue_runPtp, fun _ => ?_⟩)
  cases run : (s.mcount 0x1010 3 1).runPdu (.network f.src) f.payload true with
  | none => simp
  | some t => simp [pending_runPdu run]

theorem keepsQueue_fieldFrameReceived {frame : Frame} : KeepsQueue s (execFieldFrameReceived frame s) := by
  refine keepsQueue_whenReeve ?_
  split
  · simp
  · simp [keepsQueue_acceptFrame]

end

/-! ## Commands with branches of their own -/

theorem keepsQueue_stocktakeTrigger {s : State} {c : Chan} {src : StPath} :
    KeepsQueue s (execStocktakeTrigger src c s) := by
  unfold execStocktakeTrigger
  cases src with
  | ctrl => exact keepsQueue_whenHost (by simp)
  | dict => exact keepsQueue_writeRow fun _ => by simp

theorem keepsQueue_stocktakeRelease {s : State} {c : Chan} {src : StPath} :
    KeepsQueue s (execStocktakeRelease src c s) := by
  unfold execStocktakeRelease
  cases src with
  | ctrl => exact keepsQueue_whenHost (by simp)
  | dict => exact keepsQueue_writeRow fun _ => rfl

/-- A flit that a neighbour sent is taken from the board ring. -/
theorem pending_arrive {s t : State} {c : Chan} {p : Port} {f : Flit} (h : s.arrive c p f = some t) :
    t.pending = s.pending := by
  unfold State.arrive at h
  repeat' split at h
  all_goals cases h
  all_goals rfl

theorem keepsQueue_flitReceived {s : State} {c : Chan} {p : Port} {f : Flit} :
    KeepsQueue s (execFlitReceived c p f s) := by
  refine keepsQueue_whenChan ?_
  split
  · exact keepsQueue_stay
  · split
    next arrived => simp [pending_arrive arrived]
    next => exact keepsQueue_stay

/-- The day's wear of each channel, then the dates that follow from it. -/
theorem keepsQueue_wearDaily {s : State} : KeepsQueue s (execWearDaily s) := by
  refine keepsQueue_whenReeve ?_
  dsimp only
  split
  · rw [keepsQueue_next, pending_predict]
    dsimp only
    rw [pending_eachChan _ _ fun _ _ => State.modChan_pending .., pending_eachChan _ _ pending_saveWear]
  · exact keepsQueue_stay

theorem keepsQueue_reeveReturn {s : State} {bad : Bool} : KeepsQueue s (execReeveReturn bad s) := by
  refine keepsQueue_whenLive ?_
  dsimp only
  repeat' split
  all_goals simp

theorem keepsQueue_mbxGo {s : State} {c : Chan} {ctrl : BitVec 32} {here : Mailbox → Bool} :
    KeepsQueue s (s.mbxGo c ctrl here) := keepsQueue_whenHost (by simp)

end Sys2Proof.Laws
end

section
/-! A step takes the command at the front of the queue (O1), and no command changes the queue (O3): it is the model's own
frame around the commands (log entries 2, 3 and 5). -/

namespace Sys2Proof.Laws

open Sys2Proof Sys2Proof.Machine

/-- A command writes a member, or a register, or acts behind its guard, or at once, or when it is due: whichever branch it
takes, its next state is made by operations that leave the queue. -/
theorem keepsQueue_exec (i : Instr) (s : State) : KeepsQueue s (exec i s) := by
  cases i
  -- One member is written.
  case ref10mEnableWrite | incrementWrite | timeStepWrite | ppsLoadWrite | trigTargetWrite | trigModeWrite
      | trigPeriodWidthWrite | cycleEnableWrite | cycleFirstTickWrite | correctionModeCommit | ptpEnableWrite
      | reacquire | calendarSet | portModeWrite | planLoad | planUnload | observatoryPowerWrite | traceModeWrite
      | counterSelectWrite | triggerMaskWrite | stocktakeT64Arm | moduleFreezeTimeWrite | moduleFreezeNow
      | channelStopCommand | channelReleaseCommand | moduleStopCommand | moduleReleaseCommand | stopTimeArm
      | sealGuardWrite | sealBlow | keyDestroy | nodeIdWrite | tlFrameQueue | tlFrameDiscardAll | restoreRequest
      | saveRetry | floorRequestWrite | missionProfileWrite | imageTargetWrite | imageWrite | imageBankWrite
      | offsetMeasureCommand =>
    delta exec
    refine keepsQueue_writeRow fun _ => ?_
    simp
  case counterPresetWrite | counterEnableWrite | frequencyRequestWrite | daybookClear | ethertypeWrite =>
    delta exec
    exact keepsQueue_writeRow fun _ => rfl
  -- A register is written.
  case traceRingFlush | traceRingEnable | traceRingDisable | traceRingTailWrite | resultRingEnable | resultRingDisable
      | resultRingTailWrite | decantRingEnable | decantRingDisable | decantRingFlush | decantRingTailWrite
      | jobRingDoorbell | jobRingEnable | jobRingDisable =>
    delta exec
    exact keepsQueue_viewWrite fun _ => by simp
  -- One outcome, or one under a condition, behind a guard or at once.
  case resultBlockWritten | decantBlockWritten | decantArm | decantDisarm | cellarTagGo | irqEnableWrite | mbxCancel
      | mirRead | stopCtrlStop | stopCtrlRelease =>
    delta exec
    refine keepsQueue_whenHost ?_
    simp
  case traceRecordMerge | stagingParityError | gather | probeReceived | signalLoss | cellarUncorrectable
      | stillroomTableFault | tapInstructionUpdate | scanEnd | tapReset | channelWarmReset | hbmFailure | sensorFault
      | powerMeasurementFault | powerMeasurementRecovered | periodicTimestamp | traceDisturbed | flushInterval
      | energyUpdate | stocktakeT64Fire | stopTimeFire | stopEventMatch | dmaDrained | replayTimeout | scanShift
      | governorPeriod | linkTrainStart | wearAccrual | keySlotParityError | regulatorFault | hangDetected
      | retirementComplete | wearMeasurement =>
    delta exec
    refine keepsQueue_whenChan ?_
    simp
  case ref10mQualified | stopNFall | tcxoFailure | internalLinkDown | ref10mLost | syncInRise | upstreamLinkDown
      | upstreamLinkUp | internalLinkUp | correctionSlot | temperatureSample | shareArrival =>
    delta exec
    refine keepsQueue_whenLive ?_
    simp
  case reeveWatchdog | echoReceived | supplyMarginal | supplyRecovered | ppsCapture | allocationTick | calendarSync
      | tlFrameRelease | beaconSend | beaconTimeout | announceReceived | followUpReceived | delayReqSend
      | delayRespReceived | ptpSyncSend | announceSend | tlFrameTimeout | probeSend | journalStore | syncReceived
      | delayReqReceived | announceReceiptTimeout | heartbeatMissed | beaconReceived | opportunityStart
      | channelPowerUp | supplyUndervoltage =>
    delta exec
    refine keepsQueue_whenReeve ?_
    simp
  case tlxIdentify | tlxOpen | tlxAuth | tlxRenew | tlxClose | tlxRead | tlxReadSegment | tlxWrite | tlxWriteCancel
      | tlxSubscribe | tlxUnsubscribe | tlxEventAck | tlxUnknownService | authTimeout | sessionLapse | usbPortInfo
      | usbBulkPdu | usbAttach | usbStandardRequest =>
    delta exec
    refine keepsQueue_next.2 ?_
    simp
  case functionReset | functionReady | perstNAssert | perstNDeassert | bankWriteComplete | usbBusReset | pairLoRead
      | supplyCritical | modulePowerLoss | usbTlxSend | bar4Write =>
    delta exec
    refine keepsQueue_ite.2 ?_
    simp
  -- What falls due, where something waits.
  case syncHoldoffEnd | syncOutPulseEnd | loadStrobe | syncStopRecognised | syncInFall =>
    delta exec
    refine keepsQueue_whenLive ?_
    split <;> simp
  case leapSecond | ppsLoadTimeout | ppsMissing | masterLost | echoTimeout | stopNPulseEnd | stopNStuck
      | syncBurstEnd | coordinatorListenEnd =>
    delta exec
    refine keepsQueue_whenReeve ?_
    split <;> simp
  case armingComplete | trigPulseEnd | mbxSegmentTimeout | glideEnd | relockEnd | pllLockTimeout | relockLocked
      | cellarTagDone | mbxTimeout =>
    delta exec
    refine keepsQueue_whenChan ?_
    split <;> simp
  case voltageSettled | completionWrite | faithfulTimeout | decantCapture | noInputExpiry | jobDone | tileRetire
      | tileDeadlineMiss | decantDrain =>
    delta exec
    refine keepsQueue_whenChan ?_
    dsimp only
    split <;> simp
  -- The branches of a command, each a next state.
  case descriptorFetch | traceBlockWritten | mbxOperationEnd | mirOperationEnd =>
    delta exec
    refine keepsQueue_whenHost ?_
    dsimp only
    repeat' split
    all_goals simp
  case comparatorFire | dataFlitSend | descriptorFetched | timeLaunch
      | sealSense | coreHalted | hangDumpComplete | keyInstalled | cipherFault | planLoadComplete
      | selfTestComplete =>
    delta exec
    refine keepsQueue_whenChan ?_
    dsimp only
    repeat' split
    all_goals simp
  case trainingBlockReceived | reservationExpiry | countArrival =>
    delta exec
    refine keepsQueue_whenChan ?_
    repeat' split
    all_goals simp
  case tsqDrain | stewardBoot =>
    delta exec
    refine keepsQueue_whenReeve ?_
    dsimp only
    repeat' split
    all_goals simp
  case tlxEventNotify | tlxEventRetry | tlxWriteIdleTimeout | usbTlxReceive | usbBulkIn | bar4Read | modulePowerOn =>
    simp only [exec, execTlxEventNotify, execTlxEventRetry, execTlxWriteIdleTimeout, execUsbTlxReceive, execUsbBulkIn,
      execBar4Read, execModulePowerOn]
    repeat' split
    all_goals simp
  -- Each of the rest by its own lemma.
  case registerWrite => exact keepsQueue_registerWrite
  case fieldFrameReceived => exact keepsQueue_fieldFrameReceived
  case mbxRead | mbxWrite | mbxInvalidOp =>
    delta exec
    exact keepsQueue_mbxGo
  case stocktakeTrigger => exact keepsQueue_stocktakeTrigger
  case stocktakeRelease => exact keepsQueue_stocktakeRelease
  -- A write with an order of checks, or an action after its answer, of its own.
  case keyBlobWrite =>
    exact keepsQueue_unless ((pending_answer ..).trans
      (pending_writeBlob _ _ _ _ _ (pending_keyBlobCommit _ _ _)))
  case serviceKeyBlobWrite =>
    exact keepsQueue_unless ((pending_answer ..).trans
      (pending_writeBlob _ _ _ _ _ (pending_serviceKeyCommit _)))
  case accessKeyWrite =>
    exact keepsQueue_unless ((pending_afterAccessKey ..).trans
      ((pending_answer ..).trans (pending_write _ _ _ _ _ _ (pending_accessKeyCommit _))))
  case stewardBankRequest =>
    exact keepsQueue_unless ((pending_answer ..).trans
      ((pending_afterBankRequest ..).trans (pending_write _ _ _ _ _ _ (pending_bankRequestCommit _ _))))
  case imageActivate =>
    exact keepsQueue_unless ((pending_afterActivate ..).trans
      ((pending_answer ..).trans (pending_write _ _ _ _ _ _ (pending_restartCommit _))))
  case imageFallBack =>
    exact keepsQueue_unless ((pending_afterActivate ..).trans
      ((pending_answer ..).trans (pending_write _ _ _ _ _ _ (pending_restartCommit _))))
  case flitReceived => exact keepsQueue_flitReceived
  case wearDaily => exact keepsQueue_wearDaily
  case reeveReturn => exact keepsQueue_reeveReturn
  case thermalRecovery =>
    exact keepsQueue_ite.2 ⟨fun _ => keepsQueue_whenReeve (by simp), fun _ => keepsQueue_stay⟩

/-- Settles O3: every next state that a command gives has the queue of the state before it. -/
theorem commandsLeaveTheQueue : Obligations.CommandsLeaveTheQueue := keepsQueue_exec

/-- Settles O1: of a queue that is not empty, the step takes the front. -/
theorem stepRunsTheFrontCommand : Obligations.StepRunsTheFrontCommand := by
  intro c rest s front
  unfold step
  rw [front]

end Sys2Proof.Laws
end

section
/-! A channel without power (O10): nothing runs in it, its status alone is read, and no write reaches it (R350, R398). -/

namespace Sys2Proof.Laws

open Sys2Proof Sys2Proof.Machine

section
variable {s : State} {p : Path} {c : Chan} {off sub : Nat}

theorem placeOf_chanIndex (h : off < 0x1000) : placeOf (chanIndex c off) = some (.channel c off) := by
  have hc := c.isLt
  have block : (chanIndex c off - 0x8000) / 0x1000 = c.val := by unfold chanIndex; omega
  have offset : (chanIndex c off - 0x8000) % 0x1000 = off := by unfold chanIndex; omega
  have bounds : 0x8000 ≤ chanIndex c off ∧ chanIndex c off < 0x10000 := by unfold chanIndex; omega
  rw [placeOf, if_neg (by omega), if_pos bounds, block, offset, Fin.ofNat_eq_cast, Fin.cast_val_eq_self]

theorem serves_poweredDown (down : (s.chan c).st = .poweredDown) (write : Bool) :
    s.serves (.channel c off) sub write = (s.reeveUp && (off == 0 && (1 ≤ sub && sub ≤ 3) && !write)) := by
  simp [State.serves, down]

theorem chanUp_poweredDown (down : (s.chan c).st = .poweredDown) : s.chanUp c = false := by
  simp [State.chanUp, down]

/-- Check 2 of R361 refuses every write. -/
theorem checkAccess_poweredDown (hoff : off < 0x1000) (down : (s.chan c).st = .poweredDown) :
    s.checkAccess p (chanIndex c off) sub = .error abortNotReady := by
  simp [State.checkAccess, placeOf_chanIndex hoff, serves_poweredDown down]

/-- The same check refuses every read but those of the status. -/
theorem readMember_poweredDown (hoff : off < 0x1000) (down : (s.chan c).st = .poweredDown)
    (other : ¬(off = 0 ∧ 1 ≤ sub ∧ sub ≤ 3)) : s.readMember p (chanIndex c off) sub = .error abortNotReady := by
  have refused : s.serves (.channel c off) sub false = false := by
    rw [serves_poweredDown down, Bool.and_eq_false_iff]
    exact .inr (by simpa using other)
  simp [State.readMember, State.checkRead, placeOf_chanIndex hoff, refused]

/-- A member, a key blob, or no member at all: the write ends at the same check. -/
theorem dictWrite_poweredDown (hoff : off < 0x1000) (down : (s.chan c).st = .poweredDown) (data : Bytes) :
    s.dictWrite p (chanIndex c off) sub data = (abortNotReady, s) := by
  have refused := checkAccess_poweredDown (p := p) (sub := sub) hoff down
  have write : ∀ commit : Commit, s.write p (chanIndex c off) sub data commit = (abortNotReady, s) := fun commit => by
    simp [State.write, State.checkWrite, refused]
  unfold State.dictWrite
  rw [placeOf_chanIndex hoff]
  dsimp only
  split
  · exact write _
  · split
    · simp [State.writeBlob, refused]
    · exact write _

/-- 0x8000:01 to :03 are numbers of one byte that every path may read (R386). -/
theorem statusMember (h : 1 ≤ sub ∧ sub ≤ 3) : ∃ m, DictMap.lookupChannel 0 sub = some m ∧ m.ty = .u 1 ∧
    m.right ≠ .wo ∧ m.privRead = false ∧ m.blank = false := by
  obtain rfl | rfl | rfl : sub = 1 ∨ sub = 2 ∨ sub = 3 := by omega
  all_goals exact ⟨_, rfl, rfl, by decide, rfl, rfl⟩

/-- The Reeve answers for the channel. -/
theorem readMember_status (down : (s.chan c).st = .poweredDown) (h : 1 ≤ sub ∧ sub ≤ 3) (up : s.reeveUp = true)
    (carried : s.carries p (.channel c 0) sub false = true) :
    ∃ m, s.readMember p (chanIndex c 0) sub = .ok (m, leBytes 1 (s.statusWord c sub).toNat) := by
  obtain ⟨m, found, ty, right, priv, blank⟩ := statusMember h
  have checked : s.checkRead p (chanIndex c 0) sub = .ok (.channel c 0, m) := by
    simp [State.checkRead, placeOf_chanIndex, serves_poweredDown down, up, h, carried, Place.member, found, right, priv]
  have word : s.word (.channel c 0) sub m = s.statusWord c sub := by
    simp [State.word, down, State.channelWord]
    omega
  exact ⟨m, by simp [State.readMember, checked, State.value, ty, Ty.size, blank, word]⟩

end

/-- Settles O10: the server of the block answers for the status alone (R350, R398). -/
theorem poweredDownChannelAnswersStatusOnly : Obligations.PoweredDownChannelAnswersStatusOnly := by
  intro s p c off sub data hoff down
  refine ⟨chanUp_poweredDown down, readMember_poweredDown hoff down, ?_, ?_, ?status⟩
  · rw [dictWrite_poweredDown hoff down]
  · rw [dictWrite_poweredDown hoff down]
  case status =>
    rintro rfl low high up carried
    exact readMember_status down ⟨low, high⟩ up carried

end Sys2Proof.Laws
end

section
/-! SUPPORT. The state of a channel, what has left the module, and the Reeve: what an interrupt, a change of state, an
event and a commit's report leave of them (R180, R291, R359, R438). -/

namespace Sys2Proof.Laws

open Sys2Proof Sys2Proof.Machine

/-! ## Channels -/

theorem st_ite {p : Prop} [Decidable p] {a b ch : Channel} (ha : a.st = ch.st) (hb : b.st = ch.st) :
    (if p then a else b).st = ch.st := by split <;> assumption

theorem st_lose (ch : Channel) (now : T64) (i : Slot) (cause : BitVec 16) (n : Nat) (first last : T64) :
    (ch.lose now i cause n first last).st = ch.st := by
  have counted : ((ch.modOwner i (·.lose cause n first last)).pushCount 0x3D 0x0B80 now n).st = ch.st := st_ite rfl rfl
  exact st_ite rfl (st_ite counted counted)

theorem st_enqueue (ch : Channel) (now : T64) (r : Rec) : (ch.enqueue now r).st = ch.st := by
  unfold Channel.enqueue
  refine st_ite rfl (st_ite rfl ?_)
  dsimp only
  split <;> exact List.foldlRecOn (motive := fun x : Channel => x.st = ch.st) _ _ rfl
    fun x hx i _ => (st_lose x now i _ _ _ _).trans hx

theorem st_occur (ch : Channel) (now t : T64) (epoch : Nat) (e : Ev) : (ch.occur now t epoch e).st = ch.st := by
  unfold Channel.occur
  extract_lets noted counted _ matched
  have noting : noted.st = ch.st := st_ite (st_ite rfl rfl) rfl
  have counting : counted.st = ch.st := (st_ite rfl rfl : counted.st = noted.st).trans noting
  have matching : matched.st = ch.st := st_ite counting counting
  exact st_ite ((st_enqueue _ _ _).trans matching) matching

/-! ## States -/

section
variable {s : State}

theorem st_raiseVector (c : Chan) (v : Nat) : ((s.raiseVector c v).chan c).st = (s.chan c).st := by
  unfold State.raiseVector
  split
  · rfl
  · split <;> simp

theorem st_raiseIrq (c : Chan) (b : Fin 7) : ((s.raiseIrq c b).chan c).st = (s.chan c).st := by
  unfold State.raiseIrq
  dsimp only
  split
  · rfl
  · split
    · rw [st_raiseVector, State.chan_modChan_same]
    · rw [State.chan_modChan_same]

theorem st_setChanSt (c : Chan) (st : ChanSt) (reason : Byte) : ((s.setChanSt c st reason).chan c).st = st := by
  unfold State.setChanSt
  dsimp only
  split
  · rw [State.chan_modChan_same]
  · rw [st_raiseIrq, State.chan_modChan_same]

theorem reeve_raiseIrq (c : Chan) (b : Fin 7) : (s.raiseIrq c b).reeve = s.reeve := by
  obtain ⟨_, _, _, h⟩ := onlyChannel_raiseIrq c s b
  rw [h]

theorem reeve_setChanSt (c : Chan) (st : ChanSt) (reason : Byte) : (s.setChanSt c st reason).reeve = s.reeve :=
  ite_keeps State.reeve rfl (reeve_raiseIrq ..)

theorem out_stamp (c : Chan) (u : Nat) : (s.stamp c u).2.out = s.out := by
  unfold State.stamp
  split <;> rfl

theorem st_stamp (c : Chan) (u : Nat) : ((s.stamp c u).2.chan c).st = (s.chan c).st := by
  unfold State.stamp
  split
  · rfl
  · dsimp only
    rw [State.chan_setChan_same]

theorem out_event (c : Chan) (e : Ev) : (s.event c e).out = s.out := by
  unfold State.event
  split
  · rfl
  · split
    · rfl
    · exact out_stamp c e.unit

/-- Neither the channel where the event occurs nor another changes its state. -/
theorem st_event (c d : Chan) (e : Ev) : ((s.event d e).chan c).st = (s.chan c).st := by
  by_cases same : c = d
  case neg =>
    obtain ⟨other, _⟩ := onlyChannel_frame (onlyChannel_event d s e) same
    rw [other]
  case pos =>
    subst same
    unfold State.event
    split
    · rfl
    · split
      · rw [State.chan_modChan_same, st_occur]
      · dsimp only
        rw [State.chan_modChan_same, st_occur, st_stamp]

/-- What follows a commit reports it, and neither answers nor changes a channel's state. -/
theorem committed_out_st (pl : Place) (m : Member) (idx sub : Nat) (c : Chan) :
    (s.committed pl m idx sub).out = s.out ∧ ((s.committed pl m idx sub).chan c).st = (s.chan c).st := by
  have noted : ((if m.pers = .s then s.markSaved else s).touched idx sub).out = s.out ∧
      (((if m.pers = .s then s.markSaved else s).touched idx sub).chan c).st = (s.chan c).st := by
    split <;> exact ⟨rfl, rfl⟩
  obtain ⟨out, st⟩ := noted
  unfold State.committed
  extract_lets t
  cases pl with
  | module => exact ⟨out, st⟩
  | channel d off =>
    dsimp only
    split
    · exact ⟨(out_event ..).trans out, (st_event ..).trans st⟩
    · exact ⟨out, st⟩

end

end Sys2Proof.Laws
end

section
/-! The reset state (O4, R248, R330, R382, R384, R389, R438). -/

namespace Sys2Proof.Laws

open Sys2Proof Sys2Proof.Machine

theorem chan_reset (c : Chan) : State.reset.chan c = Channel.reset := by
  simp [State.reset, State.chan]

theorem owner_reset (i : Slot) : Channel.reset.owner i = Owner.reset := by
  simp [Channel.reset, Channel.owner]

/-- Settles O4: every channel and every owner slot starts alike, and the dictionary holds its defaults. -/
theorem resetGivesTheManualsValues : Obligations.ResetGivesTheManualsValues := by
  refine ⟨rfl, rfl, by decide, by decide, by decide, by decide, by decide, rfl, fun c => ?_⟩
  rw [chan_reset]
  exact ⟨rfl, rfl, fun i => by rw [owner_reset]; rfl, rfl⟩

end Sys2Proof.Laws
end

section
/-! Supply, Governor and the division of power (O53, R400 to R413, R424 to R431); a share takes effect at its arrival
(log entry 86). -/

namespace Sys2Proof.Laws

open Sys2Proof Sys2Proof.Machine

section
variable {s : State} {c : Chan}

/-! ## Supply (R400, R431) -/

theorem exec_supplyCritical (powered : s.reeve.powered = true) : exec .supplyCritical s = .next s.unpowered :=
  if_pos powered

theorem exec_regulatorFault (up : s.chanUp c = true) : exec (.regulatorFault c) s = .next (s.powerDown c 0x23) := by
  change execRegulatorFault c s = _
  rw [execRegulatorFault, whenChan_chanUp _ up]

section
variable (up : s.reeveUp = true)
include up

theorem powered_of_reeveUp : s.reeve.powered = true := by
  obtain ⟨live, _⟩ := reeveUp_iff.1 up
  simp only [State.live, Bool.and_eq_true] at live
  exact live.1

theorem exec_supplyMarginal (low : Bool) : exec (.supplyMarginal low) s = .next
    (let t := s.morBits 0x2000 6 (if low then underVoltageBit else overVoltageBit)
     { t with reeve := { t.reeve with supplyHold := true } }) := by
  change execSupplyMarginal low s = _
  rw [execSupplyMarginal, whenReeve_reeveUp _ up]

theorem exec_supplyUndervoltage : ∃ t : State, exec .supplyUndervoltage s = .next t ∧ t.reeve.underDown = true := by
  change ∃ t, execSupplyUndervoltage s = .next t ∧ _
  rw [execSupplyUndervoltage, whenReeve_reeveUp _ up]
  exact ⟨_, rfl, rfl⟩

theorem exec_supplyRecovered (powerUp : Bool) :
    exec (.supplyRecovered powerUp) s = .next { s with reeve := { s.reeve with
      supplyHold := false, underDown := if powerUp then false else s.reeve.underDown } } := by
  change execSupplyRecovered powerUp s = _
  rw [execSupplyRecovered, whenReeve_reeveUp _ up]

/-! ## The module cap (R405, R406) -/

theorem exec_allocationTick (inputMw : Nat) (chanMw : List Nat) :
    let power := fun c : Chan => chanMw.getD c.val 0
    let cs := allChans.map fun c => s.claim c (power c)
    let shares := divide (1000 * s.mnat 0x2000 3 - (inputMw - (allChans.map power).sum)) cs
    let t := ((s.mput 0x2000 2 (w (wattsOf inputMw))).mcount 0x2000 5 inputMw 64).eachChan fun s c =>
      s.sendShare c (shares.getD c.val 0)
    exec (.allocationTick inputMw chanMw) s = .next
      (if ((cs.zip shares).any fun x => x.1.active && decide (x.2 < x.1.lim)) then t.morBits 0x2000 6 capLimitingBit
       else t) := by
  change execAllocationTick inputMw chanMw s = _
  rw [execAllocationTick, whenReeve_reeveUp _ up]

end

theorem exec_shareArrival {n : Nat} (live : s.live = true) (sent : (s.chan c).gov.newShare = some n) :
    exec (.shareArrival c) s = .next
      (s.setChan c { s.chan c with gov := { (s.chan c).gov with share := some n, newShare := none } }) := by
  change execShareArrival c s = _
  rw [execShareArrival, whenLive_live _ live, State.modChan, sent]

/-! ## The Governor and its changes of frequency (R403, R410 to R413, R431) -/

section
variable (up : s.chanUp c = true)
include up

theorem exec_governorPeriod (started : (s.chan c).freq ≠ 0) (mw : Nat) : exec (.governorPeriod c mw) s = .next
    (((s.modChan c (·.countDuty s.now)).measurePower c mw).ladder c) := by
  change execGovernorPeriod c mw s = _
  rw [execGovernorPeriod, whenChan_chanUp _ up, if_neg started]

theorem exec_voltageSettled {f t : Nat} (rising : (s.chan c).gov.change = some (.voltage f t)) (due : t ≤ s.tclk) :
    exec (.voltageSettled c) s = .next (s.setChan c
      (((s.chan c).put 0x700 8 (w (voltage f (s.chan c).guardBand))).beginChange s.tclk f)) := by
  change execVoltageSettled c s = _
  rw [execVoltageSettled, whenChan_chanUp _ up]
  simp only [rising, if_pos due]

theorem exec_glideEnd {fOld fNew start : Nat} (gliding : (s.chan c).gov.change = some (.glide fOld fNew start))
    (due : start + 20 * apart fOld fNew ≤ s.tclk) : exec (.glideEnd c) s = .next
      ((s.modChan c fun ch => ((ch.setFreq fNew).count 0x701 1 1).afterChange s.tclk).event c
        { unit := 0x41, num := 0x0E00, pay := payAt 8 fOld ||| payAt 10 fNew }) := by
  change execGlideEnd c s = _
  rw [execGlideEnd, whenChan_chanUp _ up]
  simp only [gliding, if_pos due]

theorem exec_relockLocked {fOld fNew start retries : Nat}
    (relocking : (s.chan c).gov.change = some (.relock fOld fNew start none retries)) :
    exec (.relockLocked c) s = .next (s.modChan c fun ch => { ch with gov := { ch.gov with
      change := some (.relock fOld fNew start (some s.tclk) retries) } }) := by
  change execRelockLocked c s = _
  rw [execRelockLocked, whenChan_chanUp _ up]
  simp only [relocking]

theorem exec_pllLockTimeout {fOld fNew start retries : Nat}
    (relocking : (s.chan c).gov.change = some (.relock fOld fNew start none retries)) (left : retries < 3)
    (due : start + tclkOfUs (4 * (retries + 1)) ≤ s.tclk) :
    exec (.pllLockTimeout c) s = .next (s.modChan c fun ch => { ch with gov := { ch.gov with
      change := some (.relock fOld fNew start none (retries + 1)) } }) := by
  change execPllLockTimeout c s = _
  rw [execPllLockTimeout, whenChan_chanUp _ up]
  simp only [relocking, if_pos (And.intro left due)]

theorem exec_relockEnd {fOld fNew start t retries : Nat}
    (locked : (s.chan c).gov.change = some (.relock fOld fNew start (some t) retries)) (due : t + tclkOfUs 2 ≤ s.tclk) :
    exec (.relockEnd c) s = .next (s.endRelock c fOld fNew start) := by
  change execRelockEnd c s = _
  rw [execRelockEnd, whenChan_chanUp _ up]
  simp only [locked, if_pos due]

end

/-! ## Requests (R29, R426) -/

theorem exec_floorRequestWrite (p : Path) (v : BitVec 16) : exec (.floorRequestWrite p c v) s =
    s.writeRow p (chanIndex c 0x700) 5 (leBytes 2 v.toNat) (floorCommit c v.toNat) := rfl

theorem exec_frequencyRequestWrite (p : Path) (v : BitVec 16) : exec (.frequencyRequestWrite p c v) s =
    s.writeRow p (chanIndex c 0x700) 4 (leBytes 2 v.toNat) (commitOk (·.cput c 0x700 4 (w v.toNat))) := rfl

theorem floorCommit_commits (v : Nat) : floorCommit c v s =
    (0, (s.cput c 0x700 5 (w v)).judgeFloor c ((s.cput c 0x700 5 (w v)).rungNow c)) := rfl

end

/-- Settles O53: the supply's events, then the Governor's of one channel, then the division of the module's power. -/
theorem powerCommandsComplete : Obligations.PowerCommandsComplete := by
  refine ⟨fun s up => ⟨?_, ?_, ?_, ?_, ?_, ?_⟩, fun s c => ⟨?_, ?_, ?_, ?_, ?_, ?_, ?_⟩,
    fun s inputMw chanMw up => exec_allocationTick up inputMw chanMw⟩
  · exact exec_supplyMarginal up true
  · exact exec_supplyMarginal up false
  · exact exec_supplyUndervoltage up
  · exact exec_supplyCritical (powered_of_reeveUp up)
  · exact exec_supplyRecovered up
  · exact fun c _ => exec_regulatorFault
  · exact fun mw up started => exec_governorPeriod up started mw
  · exact fun f t up => exec_voltageSettled up
  · exact fun fOld fNew start up => exec_glideEnd up
  · exact fun fOld fNew start retries up relocking =>
      ⟨exec_relockLocked up relocking, exec_pllLockTimeout up relocking⟩
  · exact fun fOld fNew start t retries up => exec_relockEnd up
  · exact fun p v pl m => ⟨fun h => (exec_floorRequestWrite p v).trans (writeRow_commits h (floorCommit_commits _)),
      fun h => (exec_frequencyRequestWrite p v).trans (writeRow_commitOk _ h)⟩
  · exact fun n => exec_shareArrival

end Sys2Proof.Laws
end

section
/-! Temperatures, power measurement and wear (O54, R185, R207, R415 to R421). -/

namespace Sys2Proof.Laws

open Sys2Proof Sys2Proof.Machine

section
variable {s : State} {c : Chan}

/-! ## Readings stored (R185, R417) -/

/-- A mask summed bit by bit shows each condition in its bit. -/
theorem testBit_mask (p : Nat → Bool) (n : Nat) :
    let mask := (List.range n).foldl (fun a k => if p k then a + 2 ^ k else a) 0
    mask < 2 ^ n ∧ ∀ i < n, mask.testBit i = p i := by
  induction n with
  | zero => simp
  | succ n ih =>
    obtain ⟨small, bits⟩ := ih
    simp only [List.range_succ, List.foldl_append, List.foldl_cons, List.foldl_nil]
    set mask := (List.range n).foldl (fun a k => if p k then a + 2 ^ k else a) 0
    have clear : mask.testBit n = false := Nat.testBit_lt_two_pow small
    refine ⟨by split <;> omega, fun i hi => ?_⟩
    obtain lt | rfl := Nat.lt_succ_iff_lt_or_eq.1 hi
    · split
      · rw [Nat.add_comm, Nat.testBit_two_pow_add_gt lt, bits i lt]
      · exact bits i lt
    · split
      next holds => rw [Nat.add_comm, Nat.testBit_two_pow_add_eq, clear, holds]; rfl
      next fails => rw [clear]; simpa using fails

/-- A run of members written in turn reads back. -/
theorem get_foldl_put (ch : Channel) (off sub : Nat) (f : Nat → Word) (n k : Nat) (hk : k < n) :
    ((List.range n).foldl (fun ch i => ch.put off (sub + i) (f i)) ch).get off (sub + k) = f k := by
  induction n with
  | zero => omega
  | succ n ih =>
    rw [List.range_succ, List.foldl_append, List.foldl_cons, List.foldl_nil]
    obtain lt | rfl := Nat.lt_succ_iff_lt_or_eq.1 hk
    · rw [Channel.get_put_other _ _ (by unfold dkey; omega), ih lt]
    · exact Channel.get_put_same ..

/-- The reading of a sensor: dies 0 to 5, then the HBM. -/
def reading (die : List (BitVec 16)) (hbm : BitVec 16) (i : Nat) : BitVec 16 := if i < 6 then die.getD i 0x8000 else hbm

theorem failed_storeTemps (ch : Channel) (die : List (BitVec 16)) (hbm : BitVec 16) {i : Nat} (hi : i < 7) :
    (ch.storeTemps die hbm).gov.failed.getLsbD i = (tempOf (wInt (reading die hbm i).toInt)).isNone := by
  unfold Channel.storeTemps
  extract_lets dies stored dead hold
  have kept : stored.get 0x203 (2 + i) = wInt (reading die hbm i).toInt := by
    obtain lt | rfl := Nat.lt_succ_iff_lt_or_eq.1 hi
    · rw [Channel.get_put_other _ _ (by unfold dkey; omega), get_foldl_put _ _ _ _ _ _ lt, reading, if_pos lt]
    · exact Channel.get_put_same ..
  obtain ⟨small, bits⟩ := testBit_mask (fun k => (tempOf (stored.get 0x203 (2 + k))).isNone) 7
  rw [BitVec.getLsbD_ofNat, bits i hi, kept]
  simp [hi]

theorem exec_temperatureSample_powered {die : List (BitVec 16)} {hbm : BitVec 16} (live : s.live = true)
    (powered : (s.chan c).st ≠ .poweredDown) : exec (.temperatureSample c die hbm) s = .next
      ((s.modChan c fun ch => (ch.storeTemps die hbm).put 0x203 0x0A s.now).judgeTemps c) := by
  change execTemperatureSample c die hbm s = _
  rw [execTemperatureSample, whenLive_live _ live, if_neg powered]

theorem exec_temperatureSample_dark {die : List (BitVec 16)} {hbm : BitVec 16} (live : s.live = true)
    (down : (s.chan c).st = .poweredDown) :
    exec (.temperatureSample c die hbm) s = .next (s.modChan c (·.cooling s.tclk die hbm)) := by
  change execTemperatureSample c die hbm s = _
  rw [execTemperatureSample, whenLive_live _ live, if_pos down]

/-! ## Events of one channel (R207, R416 to R419, R437) -/

section
variable (up : s.chanUp c = true)
include up

/-- The sensor reads 0x8000 from here on, and no other channel changes. -/
theorem exec_sensorFault (sensor : Fin 7) : ∃ t : State, exec (.sensorFault c sensor) s = .next t ∧
    (∀ d : Chan, d ≠ c → t.chan d = s.chan d) ∧ (t.chan c).gov.failed.getLsbD sensor.val = true := by
  change ∃ t, execSensorFault c sensor s = .next t ∧ _
  rw [execSensorFault, whenChan_chanUp _ up]
  refine ⟨_, rfl, fun d other => State.chan_setChan_other _ _ other, ?_⟩
  rw [State.chan_setChan_same, failed_storeTemps _ _ _ sensor.isLt]
  have dead : ∀ v : BitVec 16, v = 0x8000 → (tempOf (wInt v.toInt)).isNone = true := by rintro _ rfl; decide
  refine dead _ ?_
  unfold reading
  split
  next die => simp [die]
  next hbm => exact if_pos (by omega)

theorem exec_powerMeasurementFault : exec (.powerMeasurementFault c) s = .next (s.corBits c 0x203 0x0B 1) := by
  change execPowerMeasurementFault c s = _
  rw [execPowerMeasurementFault, whenChan_chanUp _ up]

theorem exec_powerMeasurementRecovered :
    exec (.powerMeasurementRecovered c) s = .next (s.cclearBits c 0x203 0x0B 1) := by
  change execPowerMeasurementRecovered c s = _
  rw [execPowerMeasurementRecovered, whenChan_chanUp _ up]

theorem exec_wearAccrual (reeve : s.reeveUp = true) : ∃ t : State, exec (.wearAccrual c) s = .next t ∧
    (t.chan c).gov.wear.opSeconds = (s.chan c).gov.wear.opSeconds + 1 ∧
    (s.chan c).gov.wear.hEff ≤ (t.chan c).gov.wear.hEff := by
  change ∃ t, execWearAccrual c s = .next t ∧ _
  rw [execWearAccrual, whenChan_chanUp _ up, if_pos reeve]
  refine ⟨_, rfl, ?_⟩
  rw [State.chan_setChan_same]
  exact ⟨rfl, Nat.le_add_right ..⟩

end

section
variable (up : s.reeveUp = true)
include up

theorem exec_channelPowerUp (down : (s.chan c).st = .poweredDown) (may : s.mayPowerUp c = true) :
    ∃ t : State, exec (.channelPowerUp c) s = .next t ∧ (t.chan c).st = .booting := by
  change ∃ t, execChannelPowerUp c s = .next t ∧ _
  rw [execChannelPowerUp, whenReeve_reeveUp _ up, if_pos ⟨down, may⟩]
  exact ⟨_, rfl, st_setChanSt ..⟩

theorem exec_wearDaily (midnight : s.utcNow.2 = 0) (newDay : s.reeve.wearDay ≠ s.utcNow.1) :
    ∃ t : State, exec .wearDaily s = .next t ∧ t.reeve.wearDay = s.utcNow.1 := by
  change ∃ t, execWearDaily s = .next t ∧ _
  rw [execWearDaily, whenReeve_reeveUp _ up]
  dsimp only
  rw [if_pos ⟨midnight, newDay⟩]
  exact ⟨_, rfl, rfl⟩

end

/-- THERMAL_RECOVERY is the power-up of a channel that tripped (R416). -/
theorem exec_thermalRecovery (tripped : (s.chan c).reason = 0x20 ∨ (s.chan c).reason = 0x21) :
    exec (.thermalRecovery c) s = exec (.channelPowerUp c) s := if_pos tripped

/-! ## Wear (R418, R420, R431) -/

theorem excluded_measureWear (ch : Channel) (rings : List (Option Int)) :
    (ch.measureWear rings).gov.wear.excluded = excludeRings ch.gov.wear.excluded rings := by
  unfold Channel.measureWear
  dsimp only
  split <;> rfl

theorem guardBand_put_other (ch : Channel) {off sub : Nat} (v : Word) (h : dkey 0x702 1 ≠ dkey off sub) :
    (ch.put off sub v).guardBand = ch.guardBand := congrArg BitVec.toNat (ch.get_put_other v h)

/-- The slowest oscillator left raises the guard band (R418). -/
theorem guardBand_measureWear_some (ch : Channel) {rings : List (Option Int)} {x : Int}
    (slowest : slowestRing (excludeRings ch.gov.wear.excluded rings) rings = some x) :
    (ch.measureWear rings).guardBand = max ch.guardBand (guardOf x) := by
  have fits : max ch.guardBand (guardOf x) < 2 ^ 64 :=
    Nat.max_lt.2 ⟨BitVec.isLt _, Nat.lt_of_le_of_lt (Nat.min_le_left ..) (by decide)⟩
  simp only [Channel.measureWear, slowest]
  rw [guardBand_put_other _ _ (by decide), Channel.guardBand, Channel.nat, Channel.get_put_same, w, BitVec.toNat_ofNat]
  exact Nat.mod_eq_of_lt fits

/-- With every oscillator excluded it stays (R431). -/
theorem guardBand_measureWear_none (ch : Channel) {rings : List (Option Int)}
    (excluded : slowestRing (excludeRings ch.gov.wear.excluded rings) rings = none) :
    (ch.measureWear rings).guardBand = ch.guardBand := by
  simp only [Channel.measureWear, excluded]
  rfl

theorem chan_worstGuard (s : State) (c : Chan) : s.worstGuard.chan c = s.chan c := rfl

/-- What a measurement leaves of the guard band and of the excluded oscillators: the voltage and the HBM's wear, written
with it, are other members. -/
theorem exec_wearMeasurement (up : s.chanUp c = true) (rings : List (Option Int)) (hbm : Nat) :
    ∃ t : State, exec (.wearMeasurement c rings hbm) s = .next t ∧
      (t.chan c).gov.wear.excluded = ((s.chan c).measureWear rings).gov.wear.excluded ∧
      (t.chan c).guardBand = ((s.chan c).measureWear rings).guardBand := by
  change ∃ t, execWearMeasurement c rings hbm s = .next t ∧ _
  rw [execWearMeasurement, whenChan_chanUp _ up]
  refine ⟨_, rfl, ?_⟩
  rw [chan_worstGuard, chan_markSaved, State.chan_modChan_same]
  dsimp only
  split
  · exact ⟨rfl, (guardBand_put_other _ _ (by decide)).trans (guardBand_put_other _ _ (by decide))⟩
  · exact ⟨rfl, guardBand_put_other _ _ (by decide)⟩

theorem exec_missionProfileWrite (p : Path) (data : Bytes) :
    exec (.missionProfileWrite p data) s = s.writeRow p 0x2060 5 data (profileCommit data) := rfl

theorem profileCommit_takes {data : Bytes} (ok : profileOk data = true) : profileCommit data s =
    (0, { s.mclearBits 0x2060 6 2 with reeve := { s.reeve with profile := data } }) := if_pos ok

theorem profileCommit_refuses {data : Bytes} (bad : profileOk data = false) :
    profileCommit data s = (abortInvalid, s) := if_neg (by simp [bad])

end

/-- Settles O54: temperatures, faults and power-up of a channel, then its wear, then the module's daily step. -/
theorem thermalAndWearCommandsComplete : Obligations.ThermalAndWearCommandsComplete := by
  refine ⟨fun s c => ⟨?sample, fun sensor up => exec_sensorFault up sensor, fun up =>
    ⟨exec_powerMeasurementFault up, exec_powerMeasurementRecovered up⟩, ?powerUp⟩, fun s c =>
    ⟨?measure, fun up reeve => exec_wearAccrual up reeve, ?profile, fun up => exec_wearDaily up⟩⟩
  case sample =>
    exact fun die hbm live => ⟨exec_temperatureSample_powered live, exec_temperatureSample_dark live⟩
  case powerUp =>
    intro up down may
    obtain ⟨t, ht, booting⟩ := exec_channelPowerUp up down may
    exact ⟨t, ht, booting, fun tripped => (exec_thermalRecovery tripped).trans ht⟩
  case measure =>
    intro rings hbm up out
    obtain ⟨t, ht, excluded, guard⟩ := exec_wearMeasurement up rings hbm
    exact ⟨t, ht, excluded.trans (excluded_measureWear ..),
      fun x slowest => guard.trans (guardBand_measureWear_some _ slowest),
      fun allOut => guard.trans (guardBand_measureWear_none _ allOut)⟩
  case profile =>
    intro p data pl m h
    rw [exec_missionProfileWrite]
    exact ⟨fun ok => writeRow_commits h (profileCommit_takes ok),
      fun bad => writeRow_aborts h (profileCommit_refuses bad) (by decide)⟩

end Sys2Proof.Laws
end

section
/-! Start-up, the Reeve's returns, a channel's boot and firmware images (O55, R35, R432 to R448, R457, R462, R463). -/

namespace Sys2Proof.Laws

open Sys2Proof Sys2Proof.Machine

section
variable {s : State}

/-! ## Writes (R361) -/

section
variable {p : Path} {idx sub : Nat} {data : Bytes} {pl : Place} {m : Member} {commit : Commit} {t : State}

theorem write_commits (h : accepts s p idx sub data pl m) (hc : commit s = (0, t)) :
    s.write p idx sub data commit = (0, t.committed pl m idx sub) := by
  simp [State.write, h.2, hc]

theorem write_aborts {code : AbortCode} (h : accepts s p idx sub data pl m) (hc : commit s = (code, t))
    (ne : code ≠ 0) : s.write p idx sub data commit = (code, t) := by
  unfold State.write
  rw [h.2]
  simp only [hc, if_neg ne]

end

/-! ## Power and the Reeve (R35, R436, R440, R443, R463) -/

theorem exec_modulePowerLoss (powered : s.reeve.powered = true) : exec .modulePowerLoss s = .next s.unpowered :=
  if_pos powered

section
variable {lost : List Nat} {bad : Bool}

theorem exec_modulePowerOn_boots {b fell : Bool} (dark : s.reeve.powered = false)
    (choice : ((s.powered lost).readSelector bad).romChoice = some (b, fell)) :
    exec (.modulePowerOn lost bad) s = .next (
      let t := (((s.powered lost).readSelector bad).runReeve b).startField
      if fell || bad then t.moduleEvent { unit := 0xF0, num := 0x1000, pay := payAt 8 2 } else t) := by
  change execModulePowerOn lost bad s = _
  rw [execModulePowerOn, if_neg (by simp [dark])]
  simp only [choice]

theorem exec_modulePowerOn_recovers (dark : s.reeve.powered = false)
    (choice : ((s.powered lost).readSelector bad).romChoice = none) :
    exec (.modulePowerOn lost bad) s = .next ((s.powered lost).readSelector bad).enterRecovery := by
  change execModulePowerOn lost bad s = _
  rw [execModulePowerOn, if_neg (by simp [dark])]
  simp only [choice]

end

theorem exec_reeveWatchdog (up : s.reeveUp = true) : exec .reeveWatchdog s = .next (s.reeveRestart 1) := by
  change execReeveWatchdog s = _
  rw [execReeveWatchdog, whenReeve_reeveUp _ up]

section
variable (live : s.live = true)
include live

theorem exec_tcxoFailure : exec .tcxoFailure s = .next
    (({ s with time := { s.time with tcxoFailed := true } } : State).emit (.pin 3 0 0 true)) := by
  change execTcxoFailure s = _
  rw [execTcxoFailure, whenLive_live _ live]

variable (away : s.reeve.running = false) {bad : Bool}
include away

theorem exec_reeveReturn_recovers (choice : (s.readSelector bad).romChoice = none) :
    exec (.reeveReturn bad) s = .next (s.readSelector bad).enterRecovery := by
  change execReeveReturn bad s = _
  rw [execReeveReturn, whenLive_live _ live, if_neg (by simp [away])]
  simp only [choice]

/-- The Reeve serves again and reports its restart (R443), in the state t; a master followed before is lost, and
Holdover goes on (R55, R73, log entry 82). -/
theorem exec_reeveReturn_boots {b fell : Bool} {t : State} (choice : (s.readSelector bad).romChoice = some (b, fell))
    (back : ((s.readSelector bad).runReeve b).startField.moduleEvent {
      unit := 0xF0, num := 0x1000
      pay := payAt 8 (if fell || bad then 2 else (s.readSelector bad).reeve.restartCause) } = t) :
    exec (.reeveReturn bad) s = .next (((if t.time.ts = .acquiring ∨ t.time.ts = .locked then
      ((t.timeFlag masterLostBit).mput 0x3000 6 t.now).setTimeState .holdover
      else t).morBits 0x2000 6 8).reviewPairs) := by
  change execReeveReturn bad s = _
  rw [execReeveReturn, whenLive_live _ live, if_neg (by simp [away])]
  simp only [choice, back]

end

/-! ## A channel's boot (R434, R442 to R445, R457) -/

variable {c : Chan}

theorem exec_channelWarmReset (up : s.chanUp c = true) : exec (.channelWarmReset c) s = .next (s.warmIf c) := by
  change execChannelWarmReset c s = _
  rw [execChannelWarmReset, whenChan_chanUp _ up]

section
variable {badA badB : Bool} (up : s.reeveUp = true) (booting : (s.chan c).st = .booting)
  (waits : (s.chan c).steward = false)
include up booting waits

theorem exec_stewardBoot_runs {b : Bool}
    (good : ((s.banksToTry c).find? fun b => s.bankCode c (if b then badB else badA) b == 0) = some b) :
    exec (.stewardBoot c badA badB) s = .next (s.runSteward c b).restartIfDue := by
  change execStewardBoot c badA badB s = _
  rw [execStewardBoot, whenReeve_reeveUp _ up, if_pos ⟨booting, waits⟩]
  simp only [good]

theorem exec_stewardBoot_fails
    (noBank : ((s.banksToTry c).find? fun b => s.bankCode c (if b then badB else badA) b == 0) = none) :
    exec (.stewardBoot c badA badB) s = .next (s.quarantine c ((s.banksToTry c).headD false)
      (s.bankCode c (if (s.banksToTry c).headD false then badB else badA)
        ((s.banksToTry c).headD false))).restartIfDue := by
  change execStewardBoot c badA badB s = _
  rw [execStewardBoot, whenReeve_reeveUp _ up, if_pos ⟨booting, waits⟩]
  simp only [noBank]

end

section
variable (up : s.chanUp c = true) (booting : (s.chan c).st = .booting) (runs : (s.chan c).steward = true)
include up booting runs

/-- The pair that runs is saved: the channel's change of state leaves the Reeve's image (R443). -/
theorem exec_selfTestComplete_passed : exec (.selfTestComplete c none) s = .next
    (((((s.modChan c (·.tablesPassed)).setChanSt c .ready 0).mputSaved 0x1030 7
      (w (((s.reeve.image.map (·.version.toNat)).getD 0) * 2 ^ 32 +
        (((s.chan c).image.map (·.version.toNat)).getD 0)))).bootEnded c)) := by
  change execSelfTestComplete c none s = _
  rw [execSelfTestComplete, whenChan_chanUp _ up]
  dsimp only
  rw [if_pos ⟨booting, runs⟩, reeve_setChanSt]
  rfl

theorem exec_selfTestComplete_failed {r : Byte} (reason : selfTestReasons.contains r = true) :
    exec (.selfTestComplete c (some r)) s = .next
      (((s.selfTestReport c r).setChanSt c .computeDisabled r).bootEnded c) := by
  change execSelfTestComplete c (some r) s = _
  rw [execSelfTestComplete, whenChan_chanUp _ up]
  dsimp only
  rw [if_pos ⟨booting, runs⟩, if_pos reason]

end

theorem bankRequestCommit_booting (booting : (s.chan c).st = .booting) (v : Nat) : bankRequestCommit c v s =
    (0, (s.cput c 0 7 (w v)).modChan c fun ch => { ch with rebootWanted := true }) := by
  refine if_pos ?_
  rw [State.cput, State.chan_modChan_same, Channel.put_st, booting]

theorem exec_stewardBankRequest {p : Path} (up : s.pathUp p = true) (v : Byte) :
    exec (.stewardBankRequest p c v) s = .next
      (let r := s.write p (chanIndex c 0) 7 [v] (bankRequestCommit c v.toNat)
       (r.2.afterBankRequest c r.1).answer r.1) := if_neg (by simp [up])

/-- In BOOTING the request waits for the boot's end (R457): no warm reset follows, and the answer alone leaves. -/
theorem exec_stewardBankRequest_booting {p : Path} {v : Byte} {pl : Place} {m : Member}
    (h : accepts s p (chanIndex c 0) 7 [v] pl m) (booting : (s.chan c).st = .booting) :
    ∃ t : State, exec (.stewardBankRequest p c v) s = .next t ∧ t.out = s.out ++ [.answer 0] := by
  have commit := write_commits h (bankRequestCommit_booting booting v.toNat)
  set t := (s.cput c 0 7 (w v.toNat)).modChan c fun ch => { ch with rebootWanted := true }
  obtain ⟨out, st⟩ := committed_out_st (s := t) pl m (chanIndex c 0) 7 c
  have waits : ((t.committed pl m (chanIndex c 0) 7).chan c).st = .booting := by
    rw [st, State.chan_modChan_same, State.cput, State.chan_modChan_same, ← booting]
    rfl
  refine ⟨_, exec_stewardBankRequest h.1 v, ?_⟩
  rw [commit]
  change ((t.committed pl m (chanIndex c 0) 7).warmIf c).out ++ [.answer 0] = _
  rw [State.warmIf, waits, ChanSt.resettable, if_neg (by decide), out]
  rfl

/-! ## Firmware images (R441, R444, R447, R448) -/

section
variable {p : Path} {pl : Place} {m : Member}

theorem imageTargetCommit_takes (idle : s.updBusy = false) (v : Nat) : imageTargetCommit v s =
    (0, { (s.mput 0x1030 1 (w v)).setUpd updIdle with
      reeve := { s.reeve with update := { s.reeve.update with held := none } } }) := if_neg (by simp [idle])

theorem imageCommit_holds {b : Bytes} (idle : s.updBusy = false) (good : s.checkImage b = 0) : imageCommit b s =
    (0, { s.setUpd updHeld with
      reeve := { s.reeve with update := { s.reeve.update with held := some (headerOf b) } } }) := by
  rw [imageCommit, if_neg (by simp [idle]), if_pos good]

theorem imageCommit_refuses {b : Bytes} (idle : s.updBusy = false) (bad : s.checkImage b ≠ 0) :
    imageCommit b s = (abortInvalid, s.setUpd (s.checkImage b)) := by
  rw [imageCommit, if_neg (by simp [idle]), if_neg bad]

theorem bankWriteCommit_begins (idle : s.updBusy = false) (held : s.reeve.update.held ≠ none) :
    bankWriteCommit s = (0, (bankWriteCommit s).2) := by
  have ready : ¬(s.updBusy || s.reeve.update.held.isNone) = true := by simpa [idle] using held
  simp only [bankWriteCommit, if_neg ready]

theorem bankWriteCommit_refuses (held : s.reeve.update.held = none) : bankWriteCommit s = (abortConflict, s) :=
  if_pos (by simp [held])

theorem exec_bankWriteComplete (powered : s.reeve.powered = true) (running : s.reeve.running = true)
    (writing : s.reeve.update.writing = true) (ok : Bool) :
    ∃ t : State, exec (.bankWriteComplete ok) s = .next t ∧ t.reeve.update.writing = false ∧
      t.updStatus = if ok then updWritten else updVerifyFailed := by
  change ∃ t, execBankWriteComplete ok s = .next t ∧ _
  rw [execBankWriteComplete, if_neg (by simp [powered, running, writing])]
  refine ⟨_, rfl, ?_⟩
  cases ok with
  | true => exact ⟨rfl, mnat_mput_same updWritten⟩
  | false => exact ⟨rfl, mnat_mput_same updVerifyFailed⟩

theorem restartCommit_passes {ok : State → Bool} (h : ok s = true) : restartCommit ok s = (0, s) := if_pos h

theorem restartCommit_refuses {ok : State → Bool} (h : ok s = false) : restartCommit ok s = (abortConflict, s) :=
  if_neg (by simp [h])

theorem exec_imageActivate (up : s.pathUp p = true) : exec (.imageActivate p) s = .next
    (let r := s.write p 0x1030 3 [2] (restartCommit activateOk)
     (r.2.answer r.1).afterActivate r.1 3) := if_neg (by simp [up])

theorem exec_imageFallBack (up : s.pathUp p = true) : exec (.imageFallBack p) s = .next
    (let r := s.write p 0x1030 3 [3] (restartCommit fallBackOk)
     (r.2.answer r.1).afterActivate r.1 4) := if_neg (by simp [up])

/-- The restart follows the answer of a command 2 or 3 that passes (R448). -/
theorem exec_imageActivate_passes (h : accepts s p 0x1030 3 [2] pl m) (ok : activateOk s = true) :
    exec (.imageActivate p) s = .next ((s.done pl m 0x1030 3).activate 3) := by
  rw [exec_imageActivate h.1, write_commits h (restartCommit_passes ok)]
  rfl

theorem exec_imageActivate_refuses (h : accepts s p 0x1030 3 [2] pl m) (bad : activateOk s = false) :
    exec (.imageActivate p) s = .next (s.answer abortConflict) := by
  rw [exec_imageActivate h.1, write_aborts h (restartCommit_refuses bad) (by decide)]
  rfl

theorem exec_imageFallBack_passes (h : accepts s p 0x1030 3 [3] pl m) (ok : fallBackOk s = true) :
    exec (.imageFallBack p) s = .next ((s.done pl m 0x1030 3).activate 4) := by
  rw [exec_imageFallBack h.1, write_commits h (restartCommit_passes ok)]
  rfl

end

end

/-- Settles O55: the module's power and the Reeve, then one channel's boot, then the images. -/
theorem startUpCommandsComplete : Obligations.StartUpCommandsComplete := by
  refine ⟨fun s => ⟨exec_modulePowerLoss, ?on, ?recovery, exec_reeveWatchdog, ?returnRecovery, ?returns,
    exec_tcxoFailure, fun c => ⟨exec_channelWarmReset, ?boots, ?quarantine, exec_selfTestComplete_passed, ?failed,
      fun p v pl m => exec_stewardBankRequest_booting⟩⟩, fun s p pl m => ?images⟩
  case on => exact fun lost bad b fell => exec_modulePowerOn_boots
  case recovery => exact fun lost bad => exec_modulePowerOn_recovers
  case returnRecovery => exact fun bad live away => exec_reeveReturn_recovers live away
  case returns =>
    intro bad b fell live away choice r t
    have back := exec_reeveReturn_boots (t := t) live away choice rfl
    refine ⟨fun alone => ?_, fun followed => ?_⟩
    · rwa [if_neg (by rcases alone with h | h <;> simp [h])] at back
    · rwa [if_pos followed] at back
  case boots => exact fun badA badB b up booting waits => exec_stewardBoot_runs up booting waits
  case quarantine => exact fun badA badB up booting waits => exec_stewardBoot_fails up booting waits
  case failed => exact fun r up booting runs => exec_selfTestComplete_failed up booting runs
  case images =>
    refine ⟨fun v h idle => writeRow_commits h (imageTargetCommit_takes idle _), fun b h idle => ?image,
      fun h idle held => writeRow_commits h (bankWriteCommit_begins idle held),
      fun h nothing => writeRow_aborts h (bankWriteCommit_refuses nothing) (by decide),
      fun ok powered running writing => exec_bankWriteComplete powered running writing ok,
      exec_imageActivate_passes, exec_imageActivate_refuses, exec_imageFallBack_passes⟩
    case image =>
      split
      next good => exact writeRow_commits h (imageCommit_holds idle good)
      next bad => exact writeRow_aborts h (imageCommit_refuses idle bad) (by decide)

end Sys2Proof.Laws
end

section
/-! The USB service port (O56, R451 to R455). -/

namespace Sys2Proof.Laws

open Sys2Proof Sys2Proof.Machine

section
variable {s : State}

theorem exec_usbAttach (powered : s.reeve.powered = true) :
    exec .usbAttach s = .next { s with usb := { s.usb with attached := true } } :=
  congrArg _ (if_pos powered)

theorem exec_usbBusReset (powered : s.reeve.powered = true) (attached : s.usb.attached = true) (detach : Bool) :
    exec (.usbBusReset detach) s = .next { s with
      sessions := s.sessions.map fun x => if onUsb x.src then Session.reset else x
      usb := { Usb.reset with attached := !detach, testMode := s.usb.testMode } } :=
  if_neg (by simp [powered, attached])

/-! ## PDUs on both pipes (R452 to R454) -/

section
variable (up : s.usbServes = true)
include up

theorem exec_usbTlxSend_fits {b : Bytes} (low : 12 ≤ b.length) (high : b.length ≤ 1052) :
    exec (.usbTlxSend b.length b) s = .next ((s.runPdu .usbControl b false).getD s) := by
  have fits : ¬(b.length < 12 ∨ 1052 < b.length) := by omega
  change execUsbTlxSend b.length b s = _
  simp [execUsbTlxSend, up, fits, State.usbPdu]

theorem exec_usbTlxSend_stalls {n : Nat} (length : n < 12 ∨ 1052 < n) (b : Bytes) :
    exec (.usbTlxSend n b) s = .next (s.emit .usbStall) := by
  change execUsbTlxSend n b s = _
  simp [execUsbTlxSend, up, length, State.usbStall]

theorem exec_usbTlxReceive_oldest {n : Nat} {b : Bytes} {rest : List Bytes} (room : 1052 ≤ n)
    (waits : s.usb.ctlQ = b :: rest) :
    exec (.usbTlxReceive n) s = .next ({ s with usb := { s.usb with ctlQ := rest } }.emit (.usb b)) := by
  change execUsbTlxReceive n s = _
  rw [execUsbTlxReceive, if_neg (by simp [up]), if_neg (by omega), waits]

theorem exec_usbTlxReceive_empty {n : Nat} (room : 1052 ≤ n) (empty : s.usb.ctlQ = []) :
    exec (.usbTlxReceive n) s = .next (s.emit (.usb [])) := by
  change execUsbTlxReceive n s = _
  rw [execUsbTlxReceive, if_neg (by simp [up]), if_neg (by omega), empty]

theorem exec_usbPortInfo : exec .usbPortInfo s = .next (s.emit (.usb s.portInfo)) := congrArg _ (if_pos up)

theorem exec_usbBulkPdu (configured : s.usb.configured = true) (runs : s.usb.haltOut = false) (b : Bytes) :
    exec (.usbBulkPdu b) s = .next ((s.runPdu .usbBulk b false).getD s) :=
  congrArg _ (if_pos (by simp [State.tlxFrom, up, configured, runs]))

theorem exec_usbBulkIn {b : Bytes} {rest : List Bytes} (configured : s.usb.configured = true)
    (runs : s.usb.haltIn = false) (waits : s.usb.bulkQ = b :: rest) :
    exec .usbBulkIn s = .next ({ s with usb := { s.usb with bulkQ := rest } }.emit (.usb b)) := by
  change execUsbBulkIn s = _
  rw [execUsbBulkIn, if_pos (by simp [up, configured, runs]), waits]

end

/-! ## Standard requests (R451) -/

theorem exec_usbStandardRequest (up : s.usbAnswers = true) (ty request value index : Nat) :
    exec (.usbStandardRequest ty request value index) s = .next (s.usbStandard ty request value index) :=
  congrArg _ (if_pos up)

theorem usbStandard_getConfiguration :
    s.usbStandard 0x80 8 0 0 = s.emit (.usb [if s.usb.configured then 1 else 0]) := by
  simp [State.usbStandard, State.usbReply]

theorem usbStandard_setAddress {a : Nat} (h : a < 128) :
    s.usbStandard 0x00 5 a 0 = { s with usb := { s.usb with address := a } }.emit (.usb []) := by
  simp [State.usbStandard, State.usbDone, h]

theorem usbStandard_setConfiguration :
    s.usbStandard 0x00 9 1 0 = { s with usb := { s.usb with configured := true } }.emit (.usb []) := by
  simp [State.usbStandard, State.usbDone]

/-- SET_FEATURE is served for test mode alone (R451). -/
theorem usbStandard_setFeature_stalls (i : Nat) : s.usbStandard 0x00 3 1 i = s.emit .usbStall := by
  simp [State.usbStandard, State.usbStall]

/-- GET_INTERFACE is not served. -/
theorem usbStandard_getInterface_stalls (v i : Nat) : s.usbStandard 0x81 10 v i = s.emit .usbStall := by
  simp [State.usbStandard, State.usbStall]

end

/-- Settles O56: attachment and bus reset, then the PDUs of both pipes, then the standard requests. -/
theorem usbCommandsComplete : Obligations.UsbCommandsComplete := by
  intro s
  refine ⟨exec_usbAttach, fun up => ⟨?send, ?stall, ?receive, ?empty, ?info, ?bulk, ?bulkIn⟩, fun up => ?standard,
    fun detach powered attached => exec_usbBusReset powered attached detach⟩
  case send => exact fun b => exec_usbTlxSend_fits up
  case stall => exact fun n b length => exec_usbTlxSend_stalls up length b
  case receive => exact fun n b rest => exec_usbTlxReceive_oldest up
  case empty => exact fun n => exec_usbTlxReceive_empty up
  case info => exact exec_usbPortInfo up
  case bulk => exact exec_usbBulkPdu up
  case bulkIn => exact fun b rest => exec_usbBulkIn up
  case standard =>
    simp only [exec_usbStandardRequest up]
    exact ⟨congrArg _ usbStandard_getConfiguration, fun a h => congrArg _ (usbStandard_setAddress h),
      congrArg _ usbStandard_setConfiguration, fun v i =>
        ⟨congrArg _ (usbStandard_setFeature_stalls i), congrArg _ (usbStandard_getInterface_stalls v i)⟩⟩

end Sys2Proof.Laws
end

section
/-! The offset measurement by link round trip (O57, R470, R471). -/

namespace Sys2Proof.Laws

open Sys2Proof Sys2Proof.Machine

section
variable {s : State}

theorem measureCommit_starts (idle : s.align.running = false) : measureCommit s = (0, s.startMeasure) := by
  simp [measureCommit, idle]

theorem measureCommit_refuses (busy : s.align.running = true) : measureCommit s = (abortConflict, s) := by
  simp [measureCommit, busy]

theorem exec_probeReceived {c : Chan} {p : Port} (up : s.chanUp c = true) (b : Bytes) :
    exec (.probeReceived c p b) s = .next (s.answerProbe c p b) := by
  change execProbeReceived c p b s = _
  rw [execProbeReceived, whenChan_chanUp _ up]

section
variable (up : s.reeveUp = true)
include up

/-- The probe takes its number and its time; the frame that carries it changes channel 0 alone. -/
theorem exec_probeSend (running : s.align.running = true) (more : s.align.x < 16) (free : s.align.probe = none)
    (due : s.align.nextProbe ≤ s.tclk) :
    ∃ t : State, exec .probeSend s = .next t ∧ t.align = { s.align with
      x := s.align.x + 1, nextProbe := s.tclk + tclkOfUs 100
      probe := some (s.now, s.mget 0x3000 5, s.tclk + tclkOfUs 10) } := by
  change ∃ t, execProbeSend s = .next t ∧ _
  rw [execProbeSend, whenReeve_reeveUp _ up]
  refine ⟨_, if_pos (by simp [running, more, free, due]), ?_⟩
  split <;> rfl

theorem exec_echoReceived (linkUp : (s.chan alignChan).portUp alignPort = true) (b : Bytes) :
    exec (.echoReceived b) s = .next (s.takeEcho b) := by
  change execEchoReceived b s = _
  rw [execEchoReceived, whenReeve_reeveUp _ up, if_pos linkUp]

theorem exec_echoTimeout {t1 : T64} {n : Word} {e : Nat} (waits : s.align.probe = some (t1, n, e)) (due : e ≤ s.tclk) :
    exec .echoTimeout s = .next s.exchangeOver := by
  change execEchoTimeout s = _
  rw [execEchoTimeout, whenReeve_reeveUp _ up, waits]
  exact if_pos due

end

end

/-! ## An exchange (R471) -/

/-- A count below half the range of T64 is itself as a signed number. -/
theorem toInt_ofNat_of_lt {a : Nat} (h : a < 2 ^ 63) : (BitVec.ofNat 64 a).toInt = (a : Int) := by
  rw [BitVec.toInt_eq_toNat_of_lt] <;> rw [BitVec.toNat_ofNat] <;> omega

/-- Two instants after the same start lie apart by the difference of their delays. -/
theorem tDiff_add (t : T64) {a b : Nat} (ha : a < 2 ^ 63) (hb : b < 2 ^ 63) :
    tDiff (t + BitVec.ofNat 64 a) (t + BitVec.ofNat 64 b) = (a : Int) - b := by
  rw [tDiff, add_sub_add_left_eq_sub, BitVec.toInt_sub, toInt_ofNat_of_lt ha, toInt_ofNat_of_lt hb]
  exact Int.bmod_eq_of_le (by omega) (by omega)

theorem tDiff_start (t : T64) {a : Nat} (ha : a < 2 ^ 63) : tDiff (t + BitVec.ofNat 64 a) t = (a : Int) := by
  simpa using tDiff_add t ha (by decide : 0 < 2 ^ 63)

/-- With t2 to t4 as delays from t1, the path cancels out of the offset and the offset out of the round trip. -/
theorem exchangeOf_constantOffset (t1 : T64) {d path hold : Nat} (hd : d < 2 ^ 40) (hpath : path < 2 ^ 40)
    (hhold : hold < 2 ^ 40) :
    exchangeOf t1 (t1 + BitVec.ofNat 64 (path + d)) (t1 + BitVec.ofNat 64 (path + d + hold))
      (t1 + BitVec.ofNat 64 (2 * path + hold)) = (-(d : Int), 2 * (path : Int)) := by
  have back := tDiff_add t1 (a := 2 * path + hold) (b := path + d + hold) (by omega) (by omega)
  have out := tDiff_start t1 (a := path + d) (by omega)
  have whole := tDiff_start t1 (a := 2 * path + hold) (by omega)
  have held := tDiff_add t1 (a := path + d + hold) (b := path + d) (by omega) (by omega)
  have twice : ((2 * path + hold : Nat) : Int) - ((path + d + hold : Nat) : Int) - ((path + d : Nat) : Int) =
      -(d : Int) * 2 := by
    push_cast
    ring
  rw [exchangeOf, back, out, whole, held, twice, Int.mul_tdiv_cancel _ (by decide)]
  congr 1
  push_cast
  ring

/-- Settles O57: the command and its events, then the arithmetic of an exchange. -/
theorem alignmentCommandsComplete : Obligations.AlignmentCommandsComplete := by
  refine ⟨fun s => ⟨fun p pl m h => ⟨fun idle => ?_, fun busy => ?_⟩, fun up => ⟨?_, ?_, ?_⟩, ?_⟩, ?_⟩
  · exact writeRow_commits h (measureCommit_starts idle)
  · exact writeRow_aborts h (measureCommit_refuses busy) (by decide)
  · intro running more free due
    obtain ⟨t, ht, align⟩ := exec_probeSend up running more free due
    exact ⟨t, ht, by rw [align], by rw [align]⟩
  · exact fun b linkUp => exec_echoReceived up linkUp b
  · exact fun t1 n e => exec_echoTimeout up
  · exact fun c p b chanUp => exec_probeReceived chanUp b
  · exact fun t1 d path hold hd hpath hhold _ => exchangeOf_constantOffset t1 hd hpath hhold

end Sys2Proof.Laws
end
